-- ==== Sys2Proof/Word.lean ====
section
/-! DEFINITION. The words the part exchanges (R4: little-endian, two's complement), bit fields of words that
software reads whole, byte lists, CRC-32 (R56), and total access to vectors by a number from a message. -/

namespace Sys2Proof

abbrev Byte := BitVec 8
abbrev Half := BitVec 16
abbrev Word := BitVec 32
abbrev DWord := BitVec 64

/-- The bits `start + len - 1 : start` of a number. -/
def bitsAt (x start len : Nat) : Nat := (x >>> start) % 2 ^ len

/-- `x` with the bits `start + len - 1 : start` replaced by the low `len` bits of `v`. -/
def putBits (x start len v : Nat) : Nat :=
  x - (bitsAt x start len) * 2 ^ start + (v % 2 ^ len) * 2 ^ start

/-- A field of a parameter page or register held as one bit vector: bit 0 is bit 0 of the first byte (R4). -/
def Page.get {n : Nat} (p : BitVec n) (start len : Nat) : Nat := bitsAt p.toNat start len

/-- One bit of a page. -/
def Page.bit {n : Nat} (p : BitVec n) (k : Nat) : Bool := p.getLsbD k

/-- A page with one field replaced. -/
def Page.put {n : Nat} (p : BitVec n) (start len v : Nat) : BitVec n :=
  BitVec.ofNat n (putBits p.toNat start len v)

/-- The number a little-endian byte list spells (R4). -/
def leNat : List Byte → Nat
  | [] => 0
  | b :: bs => b.toNat + 256 * leNat bs

/-- The low `k` bytes of a number, least significant first (R4). -/
def leBytes : Nat → Nat → List Byte
  | 0, _ => []
  | k + 1, x => BitVec.ofNat 8 x :: leBytes k (x / 256)

/-- `len` bytes from offset `off`; bytes beyond the end read as zero. -/
def sliceBytes (bs : List Byte) (off len : Nat) : List Byte :=
  let part := (bs.drop off).take len
  part ++ List.replicate (len - part.length) 0

/-- The little-endian number of `len` bytes at offset `off`. -/
def leAt (bs : List Byte) (off len : Nat) : Nat := leNat ((bs.drop off).take len)

/-- A `bits`-bit two's complement number (R4). -/
def signedOf (bits x : Nat) : Int :=
  if x % 2 ^ bits < 2 ^ (bits - 1) then (x % 2 ^ bits : Nat) else ((x % 2 ^ bits : Nat) : Int) - ((2 ^ bits : Nat) : Int)

/-- The `bits`-bit two's complement code of a number. -/
def unsignedOf (bits : Nat) (x : Int) : Nat := (x % ((2 ^ bits : Nat) : Int)).toNat

/-- Counters that saturate at a stated value. -/
def satAdd (top x y : Nat) : Nat := min top (x + y)

/-- One bit of CRC-32 in reflected form, polynomial 0x04C1_1DB7 (R56). -/
def crcBit (c : Word) : Word :=
  if c.getLsbD 0 then (c >>> 1) ^^^ 0xEDB88320#32 else c >>> 1

/-- One byte of CRC-32 (R56). -/
def crcByte (c : Word) (b : Byte) : Word :=
  crcBit (crcBit (crcBit (crcBit (crcBit (crcBit (crcBit (crcBit (c ^^^ b.setWidth 32))))))))

/-- CRC-32 with initial value and final XOR 0xFFFF_FFFF (R56). -/
def crc32 (bs : List Byte) : Word := (bs.foldl crcByte 0xFFFFFFFF#32) ^^^ 0xFFFFFFFF#32

/-- Is bit `k` of a mask set? -/
def maskBit (m k : Nat) : Bool := m.testBit k

/-- The set bits of a mask below `n`, ascending. -/
def maskList (m n : Nat) : List Nat := (List.range n).filter (fun k => m.testBit k)

/-- A bit as a number. -/
def b2n (b : Bool) : Nat := if b then 1 else 0

/-- The number whose bit `i` is the `i`-th entry of the list. -/
def maskOf : List Bool → Nat
  | [] => 0
  | b :: bs => b2n b + 2 * maskOf bs

/-- The entry of a vector at a number taken from a message or a table; the type's default beyond the end. -/
def vget {α : Type} [Inhabited α] {n : Nat} (v : Vector α n) (i : Nat) : α := (v.toList[i]?).getD default

/-- A vector with one entry replaced; unchanged where the number is beyond the end. -/
def vset {α : Type} {n : Nat} (v : Vector α n) (i : Nat) (a : α) : Vector α n := v.setIfInBounds i a

/-- A vector with one entry changed. -/
def vupd {α : Type} [Inhabited α] {n : Nat} (v : Vector α n) (i : Nat) (f : α → α) : Vector α n :=
  vset v i (f (vget v i))

/-- Every entry changed by a function of its index. -/
def vmapi {α : Type} {n : Nat} (v : Vector α n) (f : Nat → α → α) : Vector α n := v.mapIdx f

/-- Ceiling division. -/
def cdiv (a b : Nat) : Nat := (a + (b - 1)) / b

/-- Integer square root by Newton steps from above (fuel bounds the steps). -/
def isqrtGo : Nat → Nat → Nat → Nat
  | 0, _, x => x
  | f + 1, n, x =>
    let y := (x + n / x) / 2
    if y < x then isqrtGo f n y else x

/-- The largest `r` with `r * r ≤ n`, for `n` below 2^200. -/
def isqrt (n : Nat) : Nat := if n = 0 then 0 else isqrtGo 220 n (n + 1)

end Sys2Proof
end

