-- ==== Sys2Proof/Config.lean ====
section
/-! DEFINITION. What one part fixes and the values the spec leaves open. No opaque one has a body: a
statement about the model holds whatever they are. Functions of a counter give a fresh value each time. -/

namespace Sys2Proof

/-- Unique ID, 128 bits of OTP (R425). -/
opaque Config.uid : BitVec 128

/-- Length of the device certificate less one: 1 to 1,024 bytes (R425). -/
opaque Config.certLast : Fin 1024

/-- A byte of the device certificate (R425). -/
opaque Config.certByte : Nat → Byte

/-- Device certificate, DER (R425). -/
def Config.cert : List Byte := (List.range (Config.certLast.val + 1)).map Config.certByte

/-- Does the signature of a firmware image verify under the Grenris public key (R418)? -/
opaque Config.imageSigned : List Byte → Bool

/-- The ECDSA signature r, s over an attestation message (R427). -/
opaque Config.attestSign : List Byte → BitVec 256 × BitVec 256

/-- An open number (a value the spec does not state), fresh for each value of the counter. -/
opaque Config.freeNat : Nat → Nat

/-- An open yes or no, fresh for each value of the counter. -/
opaque Config.freeBool : Nat → Bool

/-- Whether a lock sequence has passed from its band search to its fine lock at a count of tu (R89, R97 bound the
durations and fix none). -/
opaque Config.fineLock : Nat → Nat → Bool

/-- An open byte string, fresh for each value of the counter. -/
opaque Config.freeBytes : Nat → Nat → List Byte

/-- Factory trims of the sense chains held in OTP: GAIN_CAL and OFFSET_CAL of a chain (R174). -/
opaque Config.otpTrim : Nat → BitVec 32 × BitVec 32

/-- The biquad section FLT_TRIM_SET designs: TYPE, FREQ, GAIN, Q and fc give the 20 bytes of Table 7.4, or none
where a coefficient leaves the Q2.30 range (FLT_TRIM_SET names the design and gives no formula). -/
opaque Config.trimSection : Nat → Nat → Int → Nat → Nat → Option (BitVec 160)

/-- The gain in 0.05 dB, none mute, that a ramp from or to mute has reached after `k` of its `n` samples: no dB-linear line
leads there (R204). -/
opaque Config.muteRamp : Option Rat → Option Rat → Nat → Nat → Option Rat

/-- PM, GM, CORR_1K and CORR_20K of the loop that a load entry with F_LOOP in effect, a carrier in Hz and a rail in mV produce
(DRV_LOOP_READ names them, R292 and R293 bound them, and no formula is given). -/
opaque Config.loopFigures : List Byte → Nat → Rat → Nat × Nat × Nat × Nat

/-- Bytes of state a node of a type needs for its parameter block (Table 10.4 STATE_LEN: the part computes the need,
and no formula is given). -/
opaque Config.stateNeedOpen : Nat → List Byte → Nat

/-- The need of a node. PRESUMED: a SOURCE node (type 0), which only copies samples, needs at most one bank. -/
def Config.stateNeed (type : Nat) (param : List Byte) : Nat :=
  if type = 0 then Config.stateNeedOpen type param % 131073 else Config.stateNeedOpen type param

/-- The sound at PDM channel `m` at a count of tu, within the listening decimator's band and at its scale (R143): what
microphones hear is no state of the block. -/
opaque Config.micSound : Nat → Int → BitVec 16

/-- What the rate conversion of a decimator gives at a source point, for PHASE, the end of its passband in Hz and the count of
tu to which its group delay leads back (R164 bounds the response and gives no coefficients). -/
opaque Config.signal : Nat → Bool → Rat → Rat → Int

/-- A node over one frame: for its type, Fh, parameter block, state, input frames with VALID and an open count, the
samples it computes by output port, none where one is not finite, and its next state (R248, R257 and chapter 13 name what a
node does; no arithmetic beyond binary32 is given). Absent inputs are zero with VALID low. A DYNAMICS node computes detected
levels in 0.05 dBFS, a SPEAKER_MODEL the load currents of its input at unity gain in A and after them the excursions in mm. -/
opaque Config.nodeRun : Nat → Nat → List Byte → List Byte → List (List Rat × Bool) → Nat →
  List (List (Option Rat)) × List Byte

/-- The 32-bit word that reaches a digital input point at a count of tu (S/PDIF). -/
opaque Config.digitalIn : Nat → Nat → Int

/-- The word in an audio slot of the ring period received at a port at a count of tu (R340). -/
opaque Config.ringSlot : Nat → Nat → Nat → BitVec 32

/-- Level of TDMn_DIN in a BCLK period counted from the active edge of the frame that has ended at a count of tu, sampled at
BCLK's rising edge or, last argument true, at its falling edge (R220); the period after the last is the first of the next
frame. -/
opaque Config.din : Nat → Nat → Nat → Bool → Bool

/-- The S/PDIF validity bit of a source point's subframe at a count of tu. -/
opaque Config.validityBit : Nat → Nat → Bool

/-- What a landing gives, for its ratio, the samples that entered, newest first, and the place among them, in samples back
from the newest, to which its latency leads (R191 to R193 give latency and bounds, and no coefficients). -/
opaque Config.landed : Rat → List Int → Rat → Int

/-- The latency of a landing in ASYNC mode at a count of tu, in 1/64 sample, within the bound of R193. -/
opaque Config.landSlip : Nat → Nat → Nat

/-- Whether the level of a square, where it is no whole 0.01 dB, is rounded up (GRAPH_METER_READ gives no rounding). -/
opaque Config.levelUp : Rat → Bool

/-- Whether a quotient that is not whole is rounded up (R175, R171, R181, R207: no rounding is given). -/
opaque Config.roundUp : Int → Int → Bool

/-- What the 64-bit accumulator holds where the exact sum leaves it (R175, R200). -/
opaque Config.accOver : Int → Int

/-- Whether a sample times a gain in 0.05 dB, where the product is not whole, is rounded away from zero (R198, R200: no
rounding is given). -/
opaque Config.gainUp : Rat → Int → Bool

/-- The output of the sense modulator of a chain for the sense sample that ends at a count of HALL_DRV's clock, in full scales
(R172). -/
opaque Config.modulator : Nat → Nat → Rat

/-- What the 5th-order noise shaper feeds back of its last five quantisation errors (R290 gives its order and no
coefficients). -/
opaque Config.shaperCoef : Fin 5 → Rat

/-- The loop filter placed from a load entry with F_LOOP in effect, at a carrier in Hz (R291 and R295 give its order and what
places it, and no coefficients): its next states after an error in V at a sense sample, and its output there, as a part of
the demand. -/
opaque Config.loopNext : List (BitVec 8) → Nat → List Rat → Rat → List Rat
opaque Config.loopOut : List (BitVec 8) → Nat → List Rat → Rat → Rat

/-- The chirp of a characterisation, from −1 to 1, at a count of tu since it began (Table 12.5 gives its range). -/
opaque Config.chirp : Nat → Rat

/-- What the analysis of a Sorrel capture finds, for page 0x1502 and Fh: SNR and RESIDUAL in 0.1 dB, DELAY in 1/64 sample,
and the sections it places, 20 bytes each (R409 gives the method and its bounds, and no arithmetic). -/
opaque Config.sorrel : List (BitVec 16) → List Byte → Nat → Nat × Nat × Nat × List Byte

/-- The frequency in Hz that the reference monitors see at a reference of Table 4.3 at a count of tu, 0 for none (R87). -/
opaque Config.refHz : Nat → Nat → Nat

/-- t_D of this part in ps less 2,600: the delay from a marker's edge at its ball to the first CLKOUT edge lies between 2.6 ns
and 3.6 ns (R100). -/
opaque Config.outDelay : Fin 1001

/-- The part of a modulator period for which the modulator clock itself is high, in 1/256 (R101: its own duty). -/
opaque Config.modDuty : Fin 257

/-- The calibrated code of a conversion, for its raw code and the offset (1/16 code) and gain error (ppm) in force (R369
gives no formula). -/
opaque Config.hkCorrect : Nat → Int × Int → Fin 4096

/-- Ambient temperature in °C that the mean result of an external or supply channel in mV stands for (R319 names AMB_HK
and gives no characteristic). -/
opaque Config.ambient : Nat → Rat → Rat

/-- The signal a direct lane takes from a source point's first decimation stage at a count of tu (R212, R213). -/
opaque Config.laneSignal : Nat → Nat → Int

/-- What the rate conversion of a chain gives at Fi, for PHASE, the end of its passband in Hz, its stored samples, newest first,
and the place among them, in samples back from the newest, to which its delay leads (R163, R164 bounds the response and
gives no coefficients). -/
opaque Config.interpolated : Nat → Bool → Rat → List Int → Rat → Int

/-- PROGRESS of BOOT_STATUS_GET while a slot is erased and programmed, at a count of tu (Table 18.5 gives no rate). -/
opaque Config.progress : Nat → Nat → Nat

/-- Codes of the sampling frequency (bits 24-27) and the word length (bits 32-35) of channel status for RATE and
WORD (R237 names the fields and gives no codes). -/
opaque Config.csCodes : Nat → Nat → Nat × Nat

/-- Production values of the converter's offset in 1/16 code and gain error in ppm under each reference, held in OTP
(R369). -/
opaque Config.hkOtp : Nat → Int × Int

/-- Temperature in 0.1 °C that a die sensor's code means under its OTP trim (R360). -/
opaque Config.dieTemp : Nat → Nat → Int

/-- How far a thermal gain has come on its way between two bounds, fresh for each value of the counter (R319 bounds its
rates). -/
opaque Config.thermalGain : Nat → Rat

end Sys2Proof
end

