-- ==== Sys2Proof/Args.lean ====
section
/-! DEFINITION. The kinds of operand the commands of the block carry: a mailbox request (R45), the way a serial
transaction ended (R35, R36), and the small enumerations the rows of the table name. -/

namespace Sys2Proof

/-- A mailbox request as the firmware takes it (Table 2.18): the master whose slot held it, SEQ, FLAGS, STATUS and
the payload; LENGTH is the payload's length. -/
structure Req where
  m : Fin 4
  seq : Byte
  flags : Byte
  status : Half
  payload : List Byte
  deriving DecidableEq, Repr, Inhabited

/-- What a row would observe and the state determines: it has one value, so the row brings nothing by it, and its meaning
computes it. -/
abbrev Computed := Unit

/-- A subframe of an S/PDIF receiver: A is 0, B is 1 (R232). -/
structure Subframe where
  rx : Fin 2
  sub : Fin 2
  deriving DecidableEq, Repr, Inhabited

/-- Why the bytes of a request name no command (R46). -/
inductive Unread where
  /-- LENGTH above 248 -/
  | badLength
  /-- unknown COMMAND -/
  | badCommand
  deriving DecidableEq, Repr, Inhabited

/-- How a host transaction ended (R35, R36). -/
inductive XferEnd where
  /-- no clock edge since the start: not a transaction -/
  | noClock
  /-- ended at a word boundary or right after the address byte -/
  | boundary
  /-- ended before instruction and address were complete, or inside the dummy clocks: void -/
  | void
  /-- ended in the middle of a word being written at this offset: the address byte where the word was the first -/
  | partialWrite (offset : Byte)
  /-- ended in the middle of a word being read from the register at this offset: the address byte where the word was the
  first -/
  | partialRead (offset : Byte)
  deriving DecidableEq, Repr, Inhabited

/-- The timing field of a ring period received (Table 14.2). -/
structure RingTiming where
  folded : Bool
  unfoldDue : Bool
  successor : Bool
  family : Bool
  head : Nat
  period : Nat
  hops : Nat
  foldAddr : Nat
  unfoldAt : Nat
  presTu : Nat
  delayAcc : Nat
  headPrio : Nat
  /-- VALID: bit `s`: slot `s` carries a VALID sample -/
  valid : BitVec 256
  deriving DecidableEq, Repr, Inhabited

/-- Byte `i` of the payload. -/
def Req.u8 (q : Req) (i : Nat) : Nat := leAt q.payload i 1
/-- Two bytes from offset `i`. -/
def Req.u16 (q : Req) (i : Nat) : Nat := leAt q.payload i 2
/-- Four bytes from offset `i`. -/
def Req.u32 (q : Req) (i : Nat) : Nat := leAt q.payload i 4
/-- Eight bytes from offset `i`. -/
def Req.u64 (q : Req) (i : Nat) : Nat := leAt q.payload i 8
/-- A signed byte. -/
def Req.i8 (q : Req) (i : Nat) : Int := signedOf 8 (q.u8 i)
/-- Two signed bytes. -/
def Req.i16 (q : Req) (i : Nat) : Int := signedOf 16 (q.u16 i)
/-- Four signed bytes. -/
def Req.i32 (q : Req) (i : Nat) : Int := signedOf 32 (q.u32 i)
/-- LENGTH. -/
def Req.len (q : Req) : Nat := q.payload.length

end Sys2Proof
end

