-- ==== Sys2Proof/Syntax.lean ====
section
/-! DEFINITION. The commands of the block: one constructor per row of the opcode table. A mailbox command carries
the request the firmware takes; a host action, an internal event or an event at a ball carries what it brings. -/

namespace Sys2Proof

/-- The commands of the block. -/
inductive Instr where
  /-- SYS_RESULT_GET (0x0101), R52 -/
  | sysResultGet (q : Req)
  /-- SYS_PAGE_READ (0x0180), R54 -/
  | sysPageRead (q : Req)
  /-- SYS_PAGE_WRITE (0x0181), R470 -/
  | sysPageWrite (q : Req)
  /-- SYS_TABLE_WRITE (0x0182), R57 -/
  | sysTableWrite (q : Req)
  /-- SYS_TABLE_COMMIT (0x0183), R57 -/
  | sysTableCommit (q : Req)
  /-- OWN_GET (0x0200), R60 -/
  | ownGet (q : Req)
  /-- OWN_HEARTBEAT (0x0201), R62 -/
  | ownHeartbeat (q : Req)
  /-- OWN_HANDOVER (0x0202), R63 -/
  | ownHandover (q : Req)
  /-- OWN_ACCEPT (0x0203), R63 -/
  | ownAccept (q : Req)
  /-- EVT_RECORD_READ (0x0300), R68 -/
  | evtRecordRead (q : Req)
  /-- EVT_ROUTE_GET (0x0301), R72 -/
  | evtRouteGet (q : Req)
  /-- EVT_ROUTE_SET (0x0380), R72 -/
  | evtRouteSet (q : Req)
  /-- EVT_SLOT_SET (0x0303), R467 -/
  | evtSlotSet (q : Req)
  /-- EVT_TIME_GET (0x0302), R76 -/
  | evtTimeGet (q : Req)
  /-- CLK_STATUS_GET (0x0400), R93 -/
  | clkStatusGet (q : Req)
  /-- CLK_REF_SELECT (0x0401), R93 -/
  | clkRefSelect (q : Req)
  /-- CLK_OUT_SET (0x0402), R102 -/
  | clkOutSet (q : Req)
  /-- ANA_STATUS_GET (0x0500), R113 -/
  | anaStatusGet (q : Req)
  /-- ANA_IN_SET (0x0501), R115 -/
  | anaInSet (q : Req)
  /-- ANA_OUT_ENABLE (0x0502), R124 -/
  | anaOutEnable (q : Req)
  /-- ANA_MICBIAS_SET (0x0503), R119 -/
  | anaMicbiasSet (q : Req)
  /-- ANA_PGA_DIRECT (0x0580), R116 -/
  | anaPgaDirect (q : Req)
  /-- JACK_STATUS_GET (0x0600), R133 -/
  | jackStatusGet (q : Req)
  /-- JACK_HOST_SIGNAL (0x0601), R133 -/
  | jackHostSignal (q : Req)
  /-- JACK_HP_MEASURE (0x0602), R129 -/
  | jackHpMeasure (q : Req)
  /-- JACK_TABLE_SELECT (0x0680), R136 -/
  | jackTableSelect (q : Req)
  /-- MIC_STATUS_GET (0x0700), R140 -/
  | micStatusGet (q : Req)
  /-- MIC_ENABLE (0x0701), R144 -/
  | micEnable (q : Req)
  /-- WAKE_STATUS_GET (0x0800), R146 -/
  | wakeStatusGet (q : Req)
  /-- WAKE_ENABLE (0x0801), R151 -/
  | wakeEnable (q : Req)
  /-- WAKE_RELEASE (0x0802), R153 -/
  | wakeRelease (q : Req)
  /-- WAKE_HISTORY_READ (0x0803), R152 -/
  | wakeHistoryRead (q : Req)
  /-- FLT_STATUS_GET (0x0900), R179 -/
  | fltStatusGet (q : Req)
  /-- FLT_TRIM_SET (0x0901), R175 -/
  | fltTrimSet (q : Req)
  /-- FLT_DELAY_SET (0x0902), R171 -/
  | fltDelaySet (q : Req)
  /-- FLT_BANK_LOAD (0x0980), R180 -/
  | fltBankLoad (q : Req)
  /-- FLT_BANK_SWAP (0x0981), R181 -/
  | fltBankSwap (q : Req)
  /-- FLT_CHAIN_SYNC (0x0982), R166 -/
  | fltChainSync (q : Req)
  /-- FLT_BANK_READ (0x0983), R178 -/
  | fltBankRead (q : Req)
  /-- ROUTE_GET (0x0A00), R197 -/
  | routeGet (q : Req)
  /-- ROUTE_SET (0x0A01), R207 -/
  | routeSet (q : Req)
  /-- ROUTE_DIRECT (0x0A80), R208 -/
  | routeDirect (q : Req)
  /-- ROUTE_DOMAIN_SET (0x0A02), R216 -/
  | routeDomainSet (q : Req)
  /-- ROUTE_LANDING_GET (0x0A03), R193 -/
  | routeLandingGet (q : Req)
  /-- ROUTE_LANDING_SET (0x0A04), R190 -/
  | routeLandingSet (q : Req)
  /-- ROUTE_SILENCE_GET (0x0A05), R210 -/
  | routeSilenceGet (q : Req)
  /-- ROUTE_SILENCE_SET (0x0A06), R211 -/
  | routeSilenceSet (q : Req)
  /-- ROUTE_LANE_GET (0x0A07), R212 -/
  | routeLaneGet (q : Req)
  /-- ROUTE_LANE_SET (0x0A08), R215 -/
  | routeLaneSet (q : Req)
  /-- GAIN_GET (0x0B00), R199 -/
  | gainGet (q : Req)
  /-- GAIN_SET (0x0B01), R203 -/
  | gainSet (q : Req)
  /-- GAIN_DIRECT (0x0B80), R206 -/
  | gainDirect (q : Req)
  /-- TDM_STATUS_GET (0x0C00), R224 -/
  | tdmStatusGet (q : Req)
  /-- TDM_PORT_SET (0x0C01), R222 -/
  | tdmPortSet (q : Req)
  /-- SPDIF_STATUS_GET (0x0D00), R233 -/
  | spdifStatusGet (q : Req)
  /-- SPDIF_IN_SET (0x0D01), R234 -/
  | spdifInSet (q : Req)
  /-- SPDIF_CS_READ (0x0D02), R235 -/
  | spdifCsRead (q : Req)
  /-- SPDIF_OUT_SET (0x0D03), R236 -/
  | spdifOutSet (q : Req)
  /-- SPDIF_OUT_CS_SET (0x0D04), R237 -/
  | spdifOutCsSet (q : Req)
  /-- GRAPH_STATUS_GET (0x0E00), R254 -/
  | graphStatusGet (q : Req)
  /-- GRAPH_RUN (0x0E01), R246 -/
  | graphRun (q : Req)
  /-- GRAPH_METER_READ (0x0E02), R248 -/
  | graphMeterRead (q : Req)
  /-- GRAPH_IMAGE_WRITE (0x0E80), R255 -/
  | graphImageWrite (q : Req)
  /-- GRAPH_IMAGE_COMMIT (0x0E81), R255 -/
  | graphImageCommit (q : Req)
  /-- GRAPH_PARAM_WRITE (0x0E82), R257 -/
  | graphParamWrite (q : Req)
  /-- GRAPH_PARAM_READ (0x0E83), R257 -/
  | graphParamRead (q : Req)
  /-- SCHED_STATUS_GET (0x0F00), R281 -/
  | schedStatusGet (q : Req)
  /-- SCHED_HIST_READ (0x0F01), R281 -/
  | schedHistRead (q : Req)
  /-- SCHED_TASK_READ (0x0F80), R260 -/
  | schedTaskRead (q : Req)
  /-- SCHED_TASK_CONTROL (0x0F81), R278 -/
  | schedTaskControl (q : Req)
  /-- SCHED_DELAY_SET (0x0F82), R266 -/
  | schedDelaySet (q : Req)
  /-- DRV_STATUS_GET (0x1000), R306 -/
  | drvStatusGet (q : Req)
  /-- DRV_ENABLE (0x1001), R315 -/
  | drvEnable (q : Req)
  /-- DRV_GROUP_ENABLE (0x1002), R309 -/
  | drvGroupEnable (q : Req)
  /-- DRV_CHARACTERISE (0x1003), R298 -/
  | drvCharacterise (q : Req)
  /-- DRV_LOAD_READ (0x1004), R297 -/
  | drvLoadRead (q : Req)
  /-- DRV_LOOP_READ (0x1080), R295 -/
  | drvLoopRead (q : Req)
  /-- PROT_STATUS_GET (0x1100), R321 -/
  | protStatusGet (q : Req)
  /-- PROT_SUPPLY_GET (0x1101), R325 -/
  | protSupplyGet (q : Req)
  /-- PROT_FAULT_GET (0x1102), R330 -/
  | protFaultGet (q : Req)
  /-- PROT_RESTORE (0x1103), R335 -/
  | protRestore (q : Req)
  /-- PROT_TEMP_SET (0x1180), R319 -/
  | protTempSet (q : Req)
  /-- RING_STATUS_GET (0x1200), R340 -/
  | ringStatusGet (q : Req)
  /-- RING_ROSTER_GET (0x1201), R344 -/
  | ringRosterGet (q : Req)
  /-- RING_PP_ACCESS (0x1202), R355 -/
  | ringPpAccess (q : Req)
  /-- RING_BULK_SEND (0x1203), R357 -/
  | ringBulkSend (q : Req)
  /-- RING_LINK_TRAIN (0x1204), R350 -/
  | ringLinkTrain (q : Req)
  /-- HK_STATUS_GET (0x1300), R365 -/
  | hkStatusGet (q : Req)
  /-- HK_RESULT_READ (0x1301), R370 -/
  | hkResultRead (q : Req)
  /-- HK_TRIGGER (0x1302), R364 -/
  | hkTrigger (q : Req)
  /-- HK_CALIBRATE (0x1303), R369 -/
  | hkCalibrate (q : Req)
  /-- PWR_STATUS_GET (0x1400), R377 -/
  | pwrStatusGet (q : Req)
  /-- PWR_LEVEL_SET (0x1401), R379 -/
  | pwrLevelSet (q : Req)
  /-- PWR_SLEEP (0x1402), R393 -/
  | pwrSleep (q : Req)
  /-- PWR_GRANT_GET (0x1403), R384 -/
  | pwrGrantGet (q : Req)
  /-- SVC_STATUS_GET (0x1500), R405 -/
  | svcStatusGet (q : Req)
  /-- SVC_SOURCE_SELECT (0x1501), R404 -/
  | svcSourceSelect (q : Req)
  /-- SVC_VOLUME_SET (0x1502), R405 -/
  | svcVolumeSet (q : Req)
  /-- SVC_SORREL_START (0x1503), R407 -/
  | svcSorrelStart (q : Req)
  /-- SVC_SORREL_STOP (0x1504), R410 -/
  | svcSorrelStop (q : Req)
  /-- SVC_SORREL_READ (0x1505), R411 -/
  | svcSorrelRead (q : Req)
  /-- BOOT_STATUS_GET (0x1600), R413 -/
  | bootStatusGet (q : Req)
  /-- BOOT_CONFIRM (0x1601), R421 -/
  | bootConfirm (q : Req)
  /-- BOOT_IMAGE_WRITE (0x1680), R422 -/
  | bootImageWrite (q : Req)
  /-- BOOT_IMAGE_COMMIT (0x1681), R422 -/
  | bootImageCommit (q : Req)
  /-- BOOT_ROLLBACK_ADVANCE (0x1682), R419 -/
  | bootRollbackAdvance (q : Req)
  /-- ID_GET (0x1700), R425 -/
  | idGet (q : Req)
  /-- ID_CERT_READ (0x1701), R425 -/
  | idCertRead (q : Req)
  /-- ID_ATTEST (0x1702), R427 -/
  | idAttest (q : Req)
  /-- REGISTER_WRITE, R7 -/
  | registerWrite (m : Fin 4) (offset : Byte) (value : Word)
  /-- SPI_BAD_INSTRUCTION, R33 -/
  | spiBadInstruction (opcode : Byte)
  /-- SPI_CS_RISE, R35 -/
  | spiCsRise (how : XferEnd)
  /-- I2C_STOP_OR_RESTART, R36 -/
  | i2cStopOrRestart (port : Fin 2) (how : XferEnd)
  /-- PP_CLAIM_WRITE, R60 -/
  | ppClaimWrite (m : Fin 4) (value : Word)
  /-- DOORBELL_REQ, R44 -/
  | doorbellReq (m : Fin 4)
  /-- DOORBELL_RSP_ACK, R39 -/
  | doorbellRspAck (m : Fin 4)
  /-- MBX_DATA_WRITE, R40 -/
  | mbxDataWrite (m : Fin 4) (offset : Byte) (value : Word)
  /-- MBX_DATA_READ, R40 -/
  | mbxDataRead (m : Fin 4) (offset : Byte)
  /-- STREAM_READ, R41 -/
  | streamRead (m : Fin 4) (offset : Byte)
  /-- TIME_LO_READ, R38 -/
  | timeLoRead (m : Fin 4) (offset : Byte)
  /-- MAILBOX_RESET, R43 -/
  | mailboxReset (m : Fin 4)
  /-- MAILBOX_RESET_DONE, R43 -/
  | mailboxResetDone (m : Fin 4)
  /-- FIRMWARE_RESTART, R43 -/
  | firmwareRestart (m : Fin 4)
  /-- PP_FULL_RESET, R43 -/
  | ppFullReset (m : Fin 4)
  /-- CLAIM_WINDOW_CLOSE, R61 -/
  | claimWindowClose
  /-- OWN_HEARTBEAT_LAPSED, R62 -/
  | ownHeartbeatLapsed
  /-- OWN_HANDOVER_FAILED, R63 -/
  | ownHandoverFailed
  /-- RECORD_RELEASE, R69 -/
  | recordRelease
  /-- HIRQ_PULSE_END, R42 -/
  | hirqPulseEnd (ball : Fin 2)
  /-- ROUTE_GPIO_PULSE_END, R75 -/
  | routeGpioPulseEnd (g : Fin 24)
  /-- GPIO_EVENT, R82 -/
  | gpioEvent (slot : Fin 8)
  /-- REF_MEASURED, R89 -/
  | refMeasured (freq : Nat) (ok : Bool) (errPpb : Int)
  /-- ASYN_LOCKED, R89 -/
  | asynLocked (band : Fin 64)
  /-- ASYN_LOCK_ATTEMPT_FAIL, R107 -/
  | asynLockAttemptFail
  /-- REF_LOST, R91 -/
  | refLost (cause : Fin 2)
  /-- REF_RETURNED, R92 -/
  | refReturned (freq : Nat) (errPpb : Int)
  /-- REF_PHASE_JUMP, R92 -/
  | refPhaseJump (jump : Int)
  /-- PHASE_ALIGNED, R92 -/
  | phaseAligned
  /-- ASYN_LOCK_LOST, R106 -/
  | asynLockLost
  /-- CSYN_LOCK_LOST, R106 -/
  | csynLockLost
  /-- CSYN_LOCKED, R96 -/
  | csynLocked (band : Fin 64)
  /-- CSYN_LOCK_ATTEMPT_FAIL, R108 -/
  | csynLockAttemptFail
  /-- EDGE_LINE_LOST, R98 -/
  | edgeLineLost
  /-- EDGE_LINE_LOCKED, R98 -/
  | edgeLineLocked
  /-- CLKOUT_STATE, R102 -/
  | clkoutState (k : Fin 4)
  /-- XTAL_FAIL, R85 -/
  | xtalFail
  /-- CLOCK_REBASED, R109 -/
  | clockRebased (source : Fin 2) (freq : Nat) (errPpb : Int) (band csynBand : Fin 64)
  /-- XTAL_RESTORED, R110 -/
  | xtalRestored
  /-- PGA_GAIN_STEP, R116 -/
  | pgaGainStep (ch : Fin 4)
  /-- PGA_STEP_TIMEOUT, R116 -/
  | pgaStepTimeout (ch : Fin 4)
  /-- AIN_OVERLOAD, R118 -/
  | ainOverload (ch : Fin 4)
  /-- AIN_DISABLE_DONE, R117 -/
  | ainDisableDone (ch : Fin 4)
  /-- ANA_STAGE_END, R124 -/
  | anaStageEnd (fn : Fin 9)
  /-- MICBIAS_FAULT, R119 -/
  | micbiasFault (k : Fin 2)
  /-- HP_SHORT, R121 -/
  | hpShort (right : Bool)
  /-- CP_FAULT, R123 -/
  | cpFault
  /-- HP_LOAD_MEASURED, R129 -/
  | hpLoadMeasured (left right : Nat)
  /-- HP_MEASURE_HOLD_END, R130 -/
  | hpMeasureHoldEnd
  /-- JD_LEVEL_CHANGE, R132 -/
  | jdLevelChange (k : Fin 2) (level : Bool)
  /-- JD_DEBOUNCE_END, R132 -/
  | jdDebounceEnd (k : Fin 2)
  /-- JACK_EVALUATION, R133 -/
  | jackEvaluation (k : Fin 2)
  /-- JACK_STATE_TIMER, R133 -/
  | jackStateTimer (k : Fin 2)
  /-- MIC_STARTUP_END, R144 -/
  | micStartupEnd (ch : Fin 16)
  /-- MIC_FAULT, R145 -/
  | micFault (ch : Fin 16) (kind : Fin 3)
  /-- DETECTION_FRAME_END, R146 -/
  | detectionFrameEnd (e0 e1 e2 e3 : Rat) (samples : Computed)
  /-- HANGOVER_END, R148 -/
  | hangoverEnd
  /-- HISTORY_OPEN, R151 -/
  | historyOpen
  /-- HISTORY_RELEASE_TIMEOUT, R153 -/
  | historyReleaseTimeout
  /-- HISTORY_ERASE_DONE, R151 -/
  | historyEraseDone
  /-- STREAM_BLOCK_READY, R156 -/
  | streamBlockReady
  /-- MIC_MUTE_ON, R158 -/
  | micMuteOn
  /-- MIC_MUTE_FALL, R158 -/
  | micMuteFall
  /-- MIC_MUTE_OFF, R158 -/
  | micMuteOff
  /-- PDM_CLK0_RATE_CHANGE, R159 -/
  | pdmClk0RateChange
  /-- FILTER_SETTLED, R167 -/
  | filterSettled (c : Fin 98)
  /-- BANK_SWAP_TAKE_EFFECT, R181 -/
  | bankSwapTakeEffect (c : Fin 98)
  /-- BANK_SWAP_DONE, R181 -/
  | bankSwapDone (c : Fin 98)
  /-- DELAY_FADE_END, R171 -/
  | delayFadeEnd (c : Fin 98)
  /-- FH_CHANGE_COMPLETE, R216 -/
  | fhChangeComplete
  /-- LANDING_SET_TIMEOUT, R192 -/
  | landingSetTimeout (k : Fin 4)
  /-- LANE_AUTO_RESTART, R215 -/
  | laneAutoRestart (j : Fin 8)
  /-- GAIN_ZERO_CROSSING, R203 -/
  | gainZeroCrossing (x : Fin 1288)
  /-- GAIN_RAMPED, R204 -/
  | gainRamped (x : Fin 1288)
  /-- GAIN_RAMP_END, R204 -/
  | gainRampEnd (x : Fin 1288)
  /-- ROUTE_APPLIED, R207 -/
  | routeApplied (t : Fin 1152)
  /-- ROUTE_FADE_END, R207 -/
  | routeFadeEnd (t : Fin 1152)
  /-- LANDING_LOCK, R192 -/
  | landingLock (k : Fin 4) (ppm : Int)
  /-- LANDING_RATIO, R194 -/
  | landingRatio (k : Fin 4) (ppm : Int)
  /-- LANDING_LOCK_LOST, R194 -/
  | landingLockLost (k : Fin 4)
  /-- SILENCE_START, R210 -/
  | silenceStart (p : Fin 256) (first : Nat)
  /-- SILENCE_END, R210 -/
  | silenceEnd (p : Fin 256)
  /-- MIXER_CLIP, R202 -/
  | mixerClip (m : Fin 64)
  /-- TDM_FORMAT_TAKE_EFFECT, R222 -/
  | tdmFormatTakeEffect (n : Fin 6)
  /-- TDM_SLOT_MAP_TAKE_EFFECT, R224 -/
  | tdmSlotMapTakeEffect (n : Fin 6)
  /-- TDM_SLAVE_ACQUIRED, R225 -/
  | tdmSlaveAcquired (n : Fin 6) (rate : Fin 12)
  /-- TDM_SLOT_ERROR, R226 -/
  | tdmSlotError (n : Fin 6)
  /-- TDM_CLOCK_LOST, R227 -/
  | tdmClockLost (n : Fin 6)
  /-- SPDIF_IN_LOCK, R231 -/
  | spdifInLock (k : Fin 2) (rate : Fin 12) (nonPcm : Bool)
  /-- SPDIF_IN_UNLOCK, R231 -/
  | spdifInUnlock (k : Fin 2)
  /-- SPDIF_SUBFRAME_ERROR, R232 -/
  | spdifSubframeError (k : Subframe)
  /-- SPDIF_NONPCM_DETECTED, R233 -/
  | spdifNonpcmDetected (k : Fin 2) (pc : Option (Fin 32)) (bits16 : Bool)
  /-- SPDIF_PCM_RETURN, R233 -/
  | spdifPcmReturn (k : Fin 2)
  /-- SPDIF_BLOCK_END, R235 -/
  | spdifBlockEnd (k : Fin 2) (good : Bool) (status user : List Byte)
  /-- SPDIF_OUT_BLOCK_START, R237 -/
  | spdifOutBlockStart (valid : Computed)
  /-- SPDIF_OUT_UNDERRUN, R237 -/
  | spdifOutUnderrun
  /-- FRAME_BOUNDARY, R242 -/
  | frameBoundary (f : Computed)
  /-- GRAPH_LOADED, R255 -/
  | graphLoaded
  /-- GRAPH_SWITCH_FILL_DONE, R255 -/
  | graphSwitchFillDone
  /-- TASK_READY, R261 -/
  | taskReady (t : Fin 960)
  /-- ITEM_DISPATCH, R270 -/
  | itemDispatch (core : Fin 8)
  /-- OPERATION_RETIRE, R271 -/
  | operationRetire (op : Fin 256) (nonFinite : Computed) (histRead : Bool) (level : Computed)
  /-- DELAY_ENTRY_FIRE, R266 -/
  | delayEntryFire (list : Fin 4) (slot : Fin 256)
  /-- SPILL_REFILL, R273 -/
  | spillRefill
  /-- TASK_HELD_RELEASE, R275 -/
  | taskHeldRelease
  /-- CORE_LOAD_WINDOW, R281 -/
  | coreLoadWindow (l0 l1 l2 l3 l4 l5 l6 l7 : Computed)
  /-- DRV_STAGE_END, R306 -/
  | drvStageEnd (n : Fin 24)
  /-- PSG_STAGE_END, R309 -/
  | psgStageEnd (g : Fin 6) (flt : Bool)
  /-- QUIET_STOP_END, R307 -/
  | quietStopEnd (n : Fin 24)
  /-- CURRENT_LIMIT_TRIP, R301 -/
  | currentLimitTrip (n : Fin 24) (positive : Bool)
  /-- DRV_STAGE_FAULT, R303 -/
  | drvStageFault (n : Fin 24) (cause : Fin 3)
  /-- PSG_FLT_ASSERT, R304 -/
  | psgFltAssert (g : Fin 6)
  /-- CHARACTERISE_PORT_DONE, R298 -/
  | characterisePortDone (n : Fin 24) (l c rl le dcr : Nat) (tripped : Computed)
  /-- FAULT_BACKOFF_END, R330 -/
  | faultBackoffEnd (cls : Fin 5) (ch : Fin 24)
  /-- FAULT_WINDOW_END, R330 -/
  | faultWindowEnd (cls : Fin 5) (ch : Fin 24)
  /-- RETRY_REASK, R332 -/
  | retryReask (cls : Fin 5) (ch : Fin 24)
  /-- REMAP_MIXER_MOVE, R334 -/
  | remapMixerMove (mixer : Fin 64)
  /-- PROT_LIMIT_HOLD_END, R321 -/
  | protLimitHoldEnd (n : Fin 24)
  /-- TANSY_LIMIT_HOLD_END, R326 -/
  | tansyLimitHoldEnd
  /-- MISMATCH_WINDOW_END, R320 -/
  | mismatchWindowEnd (n : Fin 24) (differs : Computed)
  /-- SUPPLY_CLAMP_RELEASE, R328 -/
  | supplyClampRelease
  /-- RING_PERIOD_RECEIVED, R341 -/
  | ringPeriodReceived (p : Fin 2) (ok : Bool) (t : RingTiming) (age : Nat) (free : Fin 9)
  /-- RING_DEADLINE_MISS, R348 -/
  | ringDeadlineMiss (k : Fin 32)
  /-- RING_LINK_DOWN, R351 -/
  | ringLinkDown (p : Fin 2)
  /-- RING_SIGNAL_POLL, R350 -/
  | ringSignalPoll (p : Fin 2) (signal : Bool)
  /-- RING_LINK_UP, R350 -/
  | ringLinkUp (p : Fin 2) (uid : BitVec 128) (peer : Fin 4095) (delay : Nat) (own : Fin 4095)
  /-- RING_TRAIN_FAIL, R350 -/
  | ringTrainFail (p : Fin 2) (mismatch : Bool)
  /-- HEAD_TIMING_LOST, R342 -/
  | headTimingLost
  /-- HEAD_ARBITRATION_DONE, R342 -/
  | headArbitrationDone
  /-- RING_UNFOLDED, R353 -/
  | ringUnfolded
  /-- PRES_CHANGE_BOUNDARY, R349 -/
  | presChangeBoundary
  /-- RING_CLOCK_LOST, R346 -/
  | ringClockLost
  /-- RING_PP_WRITE_MSG, R355 -/
  | ringPpWriteMsg (src : Fin 4095) (payload : List Byte)
  /-- RING_PP_READ_MSG, R356 -/
  | ringPpReadMsg (src : Fin 4095) (seq : Byte) (payload : List Byte)
  /-- RING_READ_REPLY_MSG, R356 -/
  | ringReadReplyMsg (src : Fin 4095) (seq : Byte) (payload : List Byte)
  /-- RING_EVENT_RECORD_MSG, R74 -/
  | ringEventRecordMsg (src : Fin 4095) (payload : List Byte)
  /-- RING_BULK_START_MSG, R356 -/
  | ringBulkStartMsg (src : Fin 4095) (payload : List Byte)
  /-- RING_BULK_DATA_MSG, R356 -/
  | ringBulkDataMsg (src : Fin 4095) (payload : List Byte)
  /-- RING_BULK_ACK_MSG, R356 -/
  | ringBulkAckMsg (src : Fin 4095) (payload : List Byte)
  /-- RING_ARBITRATION_MSG, R356 -/
  | ringArbitrationMsg (payload : List Byte)
  /-- RING_DEPARTURE_MSG, R356 -/
  | ringDepartureMsg (src : Fin 4095) (payload : List Byte)
  /-- RING_PP_ACCESS_TIMEOUT, R355 -/
  | ringPpAccessTimeout
  /-- RING_BULK_TIMEOUT, R357 -/
  | ringBulkTimeout
  /-- HK_SEQ_TRIGGER, R365 -/
  | hkSeqTrigger
  /-- HK_INJ_TRIGGER, R367 -/
  | hkInjTrigger (slot : Fin 4)
  /-- HK_CONVERSION_END, R363 -/
  | hkConversionEnd (raw : Fin 4096)
  /-- HK_CAL_DONE, R369 -/
  | hkCalDone (offset gain : Int)
  /-- HK_REF_SETTLED, R361 -/
  | hkRefSettled (mv : Nat)
  /-- GRANT_EVALUATION, R384 -/
  | grantEvaluation
  /-- GRANT_REFUSED, R385 -/
  | grantRefused
  /-- DVDD_SETTLED, R378 -/
  | dvddSettled
  /-- DVDD_WAIT_TIMEOUT, R378 -/
  | dvddWaitTimeout
  /-- DVDD_OK_LOST, R378 -/
  | dvddOkLost
  /-- SUPPLY_FAULT_RESET, R378 -/
  | supplyFaultReset
  /-- IDLE_EXPIRED, R391 -/
  | idleExpired
  /-- SLEEP_STEP_END, R394 -/
  | sleepStepEnd
  /-- SLEEP_DRAIN_TIMEOUT, R396 -/
  | sleepDrainTimeout
  /-- HOST_ACTIVITY_WAKE, R388 -/
  | hostActivityWake (m : Fin 3)
  /-- TIMED_WAKE, R397 -/
  | timedWake
  /-- OFF_GPIO_WAKE, R387 -/
  | offGpioWake
  /-- WAKE_STEP_END, R397 -/
  | wakeStepEnd
  /-- SOURCE_MACHINE_EVAL, R402 -/
  | sourceMachineEval (lost : Computed)
  /-- SOURCE_STATE_TIMER, R402 -/
  | sourceStateTimer
  /-- VOLUME_CAP_UPDATE, R405 -/
  | volumeCapUpdate (mv : Computed)
  /-- SORREL_STEP_END, R408 -/
  | sorrelStepEnd
  /-- SORREL_ANALYSIS_DONE, R409 -/
  | sorrelAnalysisDone (clipped snr residual delay sections : Computed)
  /-- POWER_ON_RESET, R437 -/
  | powerOnReset
  /-- POWER_ON_RESET_RELEASE, R437 -/
  | powerOnResetRelease (bootsel : Fin 8) (addr : Fin 4)
  /-- RESET_N_LOW, R449 -/
  | resetNLow
  /-- BOOT_XTAL_TIMEOUT, R469 -/
  | bootXtalTimeout
  /-- BOOT_COMPLETE, R414 -/
  | bootComplete (octal : Bool) (asynBand csynBand : Fin 64)
  /-- FLASH_INSTALL_DONE, R422 -/
  | flashInstallDone (ok : Bool)
  /-- GPIO_EDGE_OBSERVED, R82 -/
  | gpioEdgeObserved (g : Fin 24) (level : Bool)
  /-- RING_SIGNAL_PRESENT, R350 -/
  | ringSignalPresent (p : Fin 2)
  /-- LANE_RAMP_END, R215 -/
  | laneRampEnd (j : Fin 8)
  /-- FIRMWARE_RESTART_READY, R415 -/
  | firmwareRestartReady
  /-- FW_VERIFY_DONE, R422 -/
  | fwVerifyDone
  /-- CONFIRM_RECORD_WRITTEN, R420 -/
  | confirmRecordWritten (ok : Bool)
  /-- OTP_BITS_BLOWN, R419 -/
  | otpBitsBlown
  /-- ATTESTATION_SIGNED, R427 -/
  | attestationSigned
  /-- CHAIN_SYNC_DUE, R166 -/
  | chainSyncDue (c : Fin 98)
  /-- XT32_STOP_DETECTED, R79 -/
  | xt32StopDetected
  /-- WAKE_XTAL_TIMEOUT, R85 -/
  | wakeXtalTimeout
  /-- WAKE_REGULATOR_RETRY, R398 -/
  | wakeRegulatorRetry
  /-- POWER_ON_THRESHOLD_PASSED, R437 -/
  | powerOnThresholdPassed
  /-- RING_PERIOD_START, R342 -/
  | ringPeriodStart (got : Computed) (free : Fin 9)
  deriving DecidableEq, Repr

end Sys2Proof
end

