-- ==== Sys2Proof/Decode.lean ====
section
/-! DEFINITION. Reading a request from its bytes (R45, R46 checks 1 and 2, R48): the header of Table 2.18 and the command
codes; and the word decoder of the opcode table, whose rows give no bits. -/

namespace Sys2Proof

/-- Commands of area 0x01 (Table 2.19). -/
def commandsSys : List (Nat × (Req → Instr)) :=
  [(0x0101, Instr.sysResultGet),
   (0x0180, Instr.sysPageRead),
   (0x0181, Instr.sysPageWrite),
   (0x0182, Instr.sysTableWrite),
   (0x0183, Instr.sysTableCommit)]

/-- Commands of area 0x02 (Table 2.19). -/
def commandsOwn : List (Nat × (Req → Instr)) :=
  [(0x0200, Instr.ownGet),
   (0x0201, Instr.ownHeartbeat),
   (0x0202, Instr.ownHandover),
   (0x0203, Instr.ownAccept)]

/-- Commands of area 0x03 (Table 2.19). -/
def commandsEvt : List (Nat × (Req → Instr)) :=
  [(0x0300, Instr.evtRecordRead),
   (0x0301, Instr.evtRouteGet),
   (0x0302, Instr.evtTimeGet),
   (0x0303, Instr.evtSlotSet),
   (0x0380, Instr.evtRouteSet)]

/-- Commands of area 0x04 (Table 2.19). -/
def commandsClk : List (Nat × (Req → Instr)) :=
  [(0x0400, Instr.clkStatusGet),
   (0x0401, Instr.clkRefSelect),
   (0x0402, Instr.clkOutSet)]

/-- Commands of area 0x05 (Table 2.19). -/
def commandsAna : List (Nat × (Req → Instr)) :=
  [(0x0500, Instr.anaStatusGet),
   (0x0501, Instr.anaInSet),
   (0x0502, Instr.anaOutEnable),
   (0x0503, Instr.anaMicbiasSet),
   (0x0580, Instr.anaPgaDirect)]

/-- Commands of area 0x06 (Table 2.19). -/
def commandsJack : List (Nat × (Req → Instr)) :=
  [(0x0600, Instr.jackStatusGet),
   (0x0601, Instr.jackHostSignal),
   (0x0602, Instr.jackHpMeasure),
   (0x0680, Instr.jackTableSelect)]

/-- Commands of area 0x07 (Table 2.19). -/
def commandsMic : List (Nat × (Req → Instr)) :=
  [(0x0700, Instr.micStatusGet),
   (0x0701, Instr.micEnable)]

/-- Commands of area 0x08 (Table 2.19). -/
def commandsWake : List (Nat × (Req → Instr)) :=
  [(0x0800, Instr.wakeStatusGet),
   (0x0801, Instr.wakeEnable),
   (0x0802, Instr.wakeRelease),
   (0x0803, Instr.wakeHistoryRead)]

/-- Commands of area 0x09 (Table 2.19). -/
def commandsFlt : List (Nat × (Req → Instr)) :=
  [(0x0900, Instr.fltStatusGet),
   (0x0901, Instr.fltTrimSet),
   (0x0902, Instr.fltDelaySet),
   (0x0980, Instr.fltBankLoad),
   (0x0981, Instr.fltBankSwap),
   (0x0982, Instr.fltChainSync),
   (0x0983, Instr.fltBankRead)]

/-- Commands of area 0x0A (Table 2.19). -/
def commandsRoute : List (Nat × (Req → Instr)) :=
  [(0x0A00, Instr.routeGet),
   (0x0A01, Instr.routeSet),
   (0x0A02, Instr.routeDomainSet),
   (0x0A03, Instr.routeLandingGet),
   (0x0A04, Instr.routeLandingSet),
   (0x0A05, Instr.routeSilenceGet),
   (0x0A06, Instr.routeSilenceSet),
   (0x0A07, Instr.routeLaneGet),
   (0x0A08, Instr.routeLaneSet),
   (0x0A80, Instr.routeDirect)]

/-- Commands of area 0x0B (Table 2.19). -/
def commandsGain : List (Nat × (Req → Instr)) :=
  [(0x0B00, Instr.gainGet),
   (0x0B01, Instr.gainSet),
   (0x0B80, Instr.gainDirect)]

/-- Commands of area 0x0C (Table 2.19). -/
def commandsTdm : List (Nat × (Req → Instr)) :=
  [(0x0C00, Instr.tdmStatusGet),
   (0x0C01, Instr.tdmPortSet)]

/-- Commands of area 0x0D (Table 2.19). -/
def commandsSpdif : List (Nat × (Req → Instr)) :=
  [(0x0D00, Instr.spdifStatusGet),
   (0x0D01, Instr.spdifInSet),
   (0x0D02, Instr.spdifCsRead),
   (0x0D03, Instr.spdifOutSet),
   (0x0D04, Instr.spdifOutCsSet)]

/-- Commands of area 0x0E (Table 2.19). -/
def commandsGraph : List (Nat × (Req → Instr)) :=
  [(0x0E00, Instr.graphStatusGet),
   (0x0E01, Instr.graphRun),
   (0x0E02, Instr.graphMeterRead),
   (0x0E80, Instr.graphImageWrite),
   (0x0E81, Instr.graphImageCommit),
   (0x0E82, Instr.graphParamWrite),
   (0x0E83, Instr.graphParamRead)]

/-- Commands of area 0x0F (Table 2.19). -/
def commandsSched : List (Nat × (Req → Instr)) :=
  [(0x0F00, Instr.schedStatusGet),
   (0x0F01, Instr.schedHistRead),
   (0x0F80, Instr.schedTaskRead),
   (0x0F81, Instr.schedTaskControl),
   (0x0F82, Instr.schedDelaySet)]

/-- Commands of area 0x10 (Table 2.19). -/
def commandsDrv : List (Nat × (Req → Instr)) :=
  [(0x1000, Instr.drvStatusGet),
   (0x1001, Instr.drvEnable),
   (0x1002, Instr.drvGroupEnable),
   (0x1003, Instr.drvCharacterise),
   (0x1004, Instr.drvLoadRead),
   (0x1080, Instr.drvLoopRead)]

/-- Commands of area 0x11 (Table 2.19). -/
def commandsProt : List (Nat × (Req → Instr)) :=
  [(0x1100, Instr.protStatusGet),
   (0x1101, Instr.protSupplyGet),
   (0x1102, Instr.protFaultGet),
   (0x1103, Instr.protRestore),
   (0x1180, Instr.protTempSet)]

/-- Commands of area 0x12 (Table 2.19). -/
def commandsRing : List (Nat × (Req → Instr)) :=
  [(0x1200, Instr.ringStatusGet),
   (0x1201, Instr.ringRosterGet),
   (0x1202, Instr.ringPpAccess),
   (0x1203, Instr.ringBulkSend),
   (0x1204, Instr.ringLinkTrain)]

/-- Commands of area 0x13 (Table 2.19). -/
def commandsHk : List (Nat × (Req → Instr)) :=
  [(0x1300, Instr.hkStatusGet),
   (0x1301, Instr.hkResultRead),
   (0x1302, Instr.hkTrigger),
   (0x1303, Instr.hkCalibrate)]

/-- Commands of area 0x14 (Table 2.19). -/
def commandsPwr : List (Nat × (Req → Instr)) :=
  [(0x1400, Instr.pwrStatusGet),
   (0x1401, Instr.pwrLevelSet),
   (0x1402, Instr.pwrSleep),
   (0x1403, Instr.pwrGrantGet)]

/-- Commands of area 0x15 (Table 2.19). -/
def commandsSvc : List (Nat × (Req → Instr)) :=
  [(0x1500, Instr.svcStatusGet),
   (0x1501, Instr.svcSourceSelect),
   (0x1502, Instr.svcVolumeSet),
   (0x1503, Instr.svcSorrelStart),
   (0x1504, Instr.svcSorrelStop),
   (0x1505, Instr.svcSorrelRead)]

/-- Commands of area 0x16 (Table 2.19). -/
def commandsBoot : List (Nat × (Req → Instr)) :=
  [(0x1600, Instr.bootStatusGet),
   (0x1601, Instr.bootConfirm),
   (0x1680, Instr.bootImageWrite),
   (0x1681, Instr.bootImageCommit),
   (0x1682, Instr.bootRollbackAdvance)]

/-- Commands of area 0x17 (Table 2.19). -/
def commandsId : List (Nat × (Req → Instr)) :=
  [(0x1700, Instr.idGet),
   (0x1701, Instr.idCertRead),
   (0x1702, Instr.idAttest)]

/-- Every command by its code. -/
def commandTable : List (Nat × (Req → Instr)) :=
  commandsSys
    ++ commandsOwn
    ++ commandsEvt
    ++ commandsClk
    ++ commandsAna
    ++ commandsJack
    ++ commandsMic
    ++ commandsWake
    ++ commandsFlt
    ++ commandsRoute
    ++ commandsGain
    ++ commandsTdm
    ++ commandsSpdif
    ++ commandsGraph
    ++ commandsSched
    ++ commandsDrv
    ++ commandsProt
    ++ commandsRing
    ++ commandsHk
    ++ commandsPwr
    ++ commandsSvc
    ++ commandsBoot
    ++ commandsId

/-- The command a code names. -/
def commandOf (code : Nat) (q : Req) : Option Instr := (commandTable.find? (fun c => c.1 == code)).map (fun c => c.2 q)

/-- The code and the request of a mailbox command; none for every other row. -/
def requestOf : Instr → Option (Nat × Req)
  | .sysResultGet q => some (0x0101, q)
  | .sysPageRead q => some (0x0180, q)
  | .sysPageWrite q => some (0x0181, q)
  | .sysTableWrite q => some (0x0182, q)
  | .sysTableCommit q => some (0x0183, q)
  | .ownGet q => some (0x0200, q)
  | .ownHeartbeat q => some (0x0201, q)
  | .ownHandover q => some (0x0202, q)
  | .ownAccept q => some (0x0203, q)
  | .evtRecordRead q => some (0x0300, q)
  | .evtRouteGet q => some (0x0301, q)
  | .evtTimeGet q => some (0x0302, q)
  | .evtSlotSet q => some (0x0303, q)
  | .evtRouteSet q => some (0x0380, q)
  | .clkStatusGet q => some (0x0400, q)
  | .clkRefSelect q => some (0x0401, q)
  | .clkOutSet q => some (0x0402, q)
  | .anaStatusGet q => some (0x0500, q)
  | .anaInSet q => some (0x0501, q)
  | .anaOutEnable q => some (0x0502, q)
  | .anaMicbiasSet q => some (0x0503, q)
  | .anaPgaDirect q => some (0x0580, q)
  | .jackStatusGet q => some (0x0600, q)
  | .jackHostSignal q => some (0x0601, q)
  | .jackHpMeasure q => some (0x0602, q)
  | .jackTableSelect q => some (0x0680, q)
  | .micStatusGet q => some (0x0700, q)
  | .micEnable q => some (0x0701, q)
  | .wakeStatusGet q => some (0x0800, q)
  | .wakeEnable q => some (0x0801, q)
  | .wakeRelease q => some (0x0802, q)
  | .wakeHistoryRead q => some (0x0803, q)
  | .fltStatusGet q => some (0x0900, q)
  | .fltTrimSet q => some (0x0901, q)
  | .fltDelaySet q => some (0x0902, q)
  | .fltBankLoad q => some (0x0980, q)
  | .fltBankSwap q => some (0x0981, q)
  | .fltChainSync q => some (0x0982, q)
  | .fltBankRead q => some (0x0983, q)
  | .routeGet q => some (0x0A00, q)
  | .routeSet q => some (0x0A01, q)
  | .routeDomainSet q => some (0x0A02, q)
  | .routeLandingGet q => some (0x0A03, q)
  | .routeLandingSet q => some (0x0A04, q)
  | .routeSilenceGet q => some (0x0A05, q)
  | .routeSilenceSet q => some (0x0A06, q)
  | .routeLaneGet q => some (0x0A07, q)
  | .routeLaneSet q => some (0x0A08, q)
  | .routeDirect q => some (0x0A80, q)
  | .gainGet q => some (0x0B00, q)
  | .gainSet q => some (0x0B01, q)
  | .gainDirect q => some (0x0B80, q)
  | .tdmStatusGet q => some (0x0C00, q)
  | .tdmPortSet q => some (0x0C01, q)
  | .spdifStatusGet q => some (0x0D00, q)
  | .spdifInSet q => some (0x0D01, q)
  | .spdifCsRead q => some (0x0D02, q)
  | .spdifOutSet q => some (0x0D03, q)
  | .spdifOutCsSet q => some (0x0D04, q)
  | .graphStatusGet q => some (0x0E00, q)
  | .graphRun q => some (0x0E01, q)
  | .graphMeterRead q => some (0x0E02, q)
  | .graphImageWrite q => some (0x0E80, q)
  | .graphImageCommit q => some (0x0E81, q)
  | .graphParamWrite q => some (0x0E82, q)
  | .graphParamRead q => some (0x0E83, q)
  | .schedStatusGet q => some (0x0F00, q)
  | .schedHistRead q => some (0x0F01, q)
  | .schedTaskRead q => some (0x0F80, q)
  | .schedTaskControl q => some (0x0F81, q)
  | .schedDelaySet q => some (0x0F82, q)
  | .drvStatusGet q => some (0x1000, q)
  | .drvEnable q => some (0x1001, q)
  | .drvGroupEnable q => some (0x1002, q)
  | .drvCharacterise q => some (0x1003, q)
  | .drvLoadRead q => some (0x1004, q)
  | .drvLoopRead q => some (0x1080, q)
  | .protStatusGet q => some (0x1100, q)
  | .protSupplyGet q => some (0x1101, q)
  | .protFaultGet q => some (0x1102, q)
  | .protRestore q => some (0x1103, q)
  | .protTempSet q => some (0x1180, q)
  | .ringStatusGet q => some (0x1200, q)
  | .ringRosterGet q => some (0x1201, q)
  | .ringPpAccess q => some (0x1202, q)
  | .ringBulkSend q => some (0x1203, q)
  | .ringLinkTrain q => some (0x1204, q)
  | .hkStatusGet q => some (0x1300, q)
  | .hkResultRead q => some (0x1301, q)
  | .hkTrigger q => some (0x1302, q)
  | .hkCalibrate q => some (0x1303, q)
  | .pwrStatusGet q => some (0x1400, q)
  | .pwrLevelSet q => some (0x1401, q)
  | .pwrSleep q => some (0x1402, q)
  | .pwrGrantGet q => some (0x1403, q)
  | .svcStatusGet q => some (0x1500, q)
  | .svcSourceSelect q => some (0x1501, q)
  | .svcVolumeSet q => some (0x1502, q)
  | .svcSorrelStart q => some (0x1503, q)
  | .svcSorrelStop q => some (0x1504, q)
  | .svcSorrelRead q => some (0x1505, q)
  | .bootStatusGet q => some (0x1600, q)
  | .bootConfirm q => some (0x1601, q)
  | .bootImageWrite q => some (0x1680, q)
  | .bootImageCommit q => some (0x1681, q)
  | .bootRollbackAdvance q => some (0x1682, q)
  | .idGet q => some (0x1700, q)
  | .idCertRead q => some (0x1701, q)
  | .idAttest q => some (0x1702, q)
  | _ => none

/-- The header and the payload of a request (Table 2.18) in a slot whose bytes are `b`. -/
def readReq (m : Fin 4) (b : List Byte) : Req :=
  { m := m, seq := BitVec.ofNat 8 (leAt b 2 1), flags := BitVec.ofNat 8 (leAt b 3 1), status := BitVec.ofNat 16 (leAt b 6 2)
    payload := sliceBytes b 8 (leAt b 4 2) }

/-- The command a request slot holds, or the check of R46 that fails first. -/
def decodeRequest (m : Fin 4) (b : List Byte) : Except Unread Instr :=
  if 248 < leAt b 4 2 then .error .badLength
  else match commandOf (leAt b 0 2) (readReq m b) with
    | some i => .ok i
    | none => .error .badCommand

/-- The bytes of a request (Table 2.18). -/
def encodeRequest (code : Nat) (q : Req) : List Byte :=
  leBytes 2 code ++ [q.seq, q.flags] ++ leBytes 2 q.payload.length ++ leBytes 2 q.status.toNat ++ q.payload

/-- The bytes of a mailbox command's request; empty for a row that is no mailbox command. -/
def encode (i : Instr) : List Byte :=
  match requestOf i with
  | some (code, q) => encodeRequest code q
  | none => []

/-- The command a word spells by the table's bits: the table gives no row any bits. -/
def decodeTableWord (_nbits _w : Nat) : Option Instr := none

end Sys2Proof
end

