-- ==== Sys2Proof/Machine/StatePort.lean ====
section
/-! DEFINITION. The host port, mailboxes, ownership, events and device time as state (chapters 02 and 03), and the
condition of the halls (chapter 01). Default values are the reset values. -/

namespace Sys2Proof.Machine

/-- Status codes (Table 2.20). -/
inductive Status where
  | ok | pending | deferred | superseded | restarting | badCommand | badLength | badParam | notOwner | busy
  | noGrant | retired | notReady | authFail | timeout | privacy | noLock
  deriving DecidableEq, Repr, Inhabited

/-- A command that is still PENDING (R52). -/
structure Pend where
  /-- the model's own number for the command, by which the work it waits on names it -/
  cid : Nat
  /-- SEQ of the request -/
  seq : Nat
  /-- COMMAND of the request -/
  code : Nat
  /-- NO_NOTIFY -/
  quiet : Bool
  deriving DecidableEq, Repr, Inhabited

/-- A recorded final status (R52). -/
structure Result where
  seq : Nat
  status : Status
  code : Nat
  /-- the response FLAGS and payload that belong to the final status -/
  flags : Nat := 0
  payload : List Byte := []
  deriving DecidableEq, Repr, Inhabited

/-- A response (Table 2.18). -/
structure Resp where
  code : Nat
  seq : Nat
  flags : Nat
  status : Status
  payload : List Byte
  deriving DecidableEq, Repr, Inhabited

/-- An event record (Table 3.11). -/
structure Record where
  ev : Nat
  arg : Nat
  epoch : Nat
  merged : Bool := false
  held : Bool := false
  time : Nat
  /-- masters whose PP_EVMASK bit stood when the event occurred, 4-bit mask (R64) -/
  masters : Nat := 0
  /-- the record was forwarded over the ring (R74) -/
  ring : Bool := false
  /-- MODEL: the count of tu and ticks when it occurred, and periods of the HALL_CTRL clock counted by then in the hold of
  device time (R69, R80) -/
  born : Nat := 0
  heldAt : Nat := 0
  deriving DecidableEq, Repr, Inhabited

/-- What the part keeps for one master (R32). -/
structure Port where
  /-- request slot, 64 words of 32 (R44, Table 2.12); reset 0 -/
  reqSlot : Vector Word 64 := Vector.replicate 64 0
  /-- response slot, 64 words of 32 (R44, Table 2.12); reset 0 -/
  rspSlot : Vector Word 64 := Vector.replicate 64 0
  /-- PP_STATUS.REQ_BUSY, 1 bit (Table 2.7); reset 0 -/
  reqBusy : Bool := false
  /-- PP_STATUS.RSP_READY, 1 bit (Table 2.7); reset 0 -/
  rspReady : Bool := false
  /-- PP_STATUS.DB_OVERRUN, 1 bit (Table 2.7, R39); reset 0 -/
  dbOverrun : Bool := false
  /-- PP_STATUS.TIME_DISC, 1 bit (Table 2.7, R77); reset 0 -/
  timeDisc : Bool := false
  /-- PP_STATUS.EVQ_OVF, 1 bit (Table 2.7, R71); reset 0 -/
  evqOvf : Bool := false
  /-- PP_MBX_PTR.SLOT, 1 bit (Table 2.11); reset 0 -/
  ptrSlot : Bool := false
  /-- PP_MBX_PTR.WORD, 6 bits (Table 2.11); reset 0 -/
  ptrWord : Fin 64 := 0
  /-- a response held until RSP_ACK (R44); none at reset -/
  heldRsp : Option Resp := none
  /-- a mailbox reset waits for the response of the busy request (R43); reset false -/
  resetWait : Bool := false
  /-- PP_CLAIM.CLAIM, 1 bit (Table 2.9); reset 0 -/
  claim : Bool := false
  /-- PP_CLAIM.PRIO, 4 bits (Table 2.9); reset 0 -/
  prio : BitVec 4 := 0
  /-- PP_EVSUM0-7, 256 bits (Table 2.15); reset 0 -/
  evsum : BitVec 256 := 0
  /-- PP_EVMASK0-7, 256 bits (Table 2.15); reset 0 -/
  evmask : BitVec 256 := 0
  /-- PP_TIME_HI, 32 bits (Table 2.16); reset 0 -/
  timeHi : Word := 0
  /-- commands PENDING, at most 8 (R52); none at reset -/
  pend : List Pend := []
  /-- the 8 most recent recorded final statuses, oldest first (SYS_RESULT_GET, R52); none at reset -/
  results : List Result := []
  /-- page shadow: page ID and contents (R54); none at reset -/
  shadow : Option (Nat × Nat) := none
  /-- table staging buffer, at most 32,768 bytes (R57); empty at reset -/
  staging : List Byte := []
  /-- event record queue, at most 64 records (R68); empty at reset -/
  queue : List Record := []
  /-- records dropped since the last read, saturating at 65,535 (R71); reset 0 -/
  dropped : Nat := 0
  /-- MODEL: the last word a read of this page returned; the model's own field, reset 0 -/
  dataOut : Word := 0
  deriving DecidableEq, Repr, Inhabited

/-- An open handover (R63). -/
structure Handover where
  target : Fin 4
  due : Nat
  cid : Nat
  deriving DecidableEq, Repr, Inhabited

/-- Ownership and the device-wide mailbox state. -/
structure Own where
  /-- the owner: PP_OWNER.VALID and OWNER (Table 2.8); none at reset -/
  owner : Option (Fin 4) := none
  /-- PP_OWNER.ELECTIONS, 8 bits (Table 2.8); reset 0 -/
  elections : Byte := 0
  /-- heartbeat period in ms, 0 when supervision is off (R62); reset 0 -/
  hbPeriod : Nat := 0
  /-- end of the heartbeat window, 64 bits (R62); reset 0 -/
  hbDue : Nat := 0
  /-- open handover (R63); none at reset -/
  handover : Option Handover := none
  /-- the acceptance of a handover that was taken before its own command, because it came at the tu at which the owner's
  heartbeat window closed: the new owner and the one before (R62, R63); none at reset -/
  early : Option (Fin 4 × Fin 4) := none
  /-- target and owner of the last handover whose window closed under that owner (OWN_ACCEPT); none at reset -/
  expired : Option (Fin 4 × Fin 4) := none
  /-- end of the claim window while PP_STATUS.CLAIM_WIN is 1 (R61, Table 2.7); none at reset -/
  claimEnd : Option Nat := none
  /-- PP_IRQCFG, 32 bits (Table 2.14); reset 0 -/
  irqcfg : Word := 0
  /-- requests rung and not yet taken: the tu of the doorbell and the master, in service order (R47); empty at reset -/
  inbox : List (Nat × Fin 4) := []
  /-- MODEL: the next number a PENDING command gets; the model's own field, reset 0 -/
  nextCid : Nat := 0
  /-- mailbox staging buffer of GRAPH_IMAGE_WRITE and BOOT_IMAGE_WRITE, at most 262,144 bytes (R59, R255); empty at reset -/
  mbxStage : List Byte := []
  /-- the mailbox staging buffer is being checked or installed and refuses writes (R59, R422); reset false -/
  mbxLock : Bool := false
  /-- an APPLY with several parts that complete later (R54): its number and the completions still to come before its
  last; none at reset -/
  joint : List (Nat × Nat) := []
  deriving DecidableEq, Repr, Inhabited

/-- An open debounce window of a GPIO event slot (EVT_SLOT_SET): the stamp and epoch of the edge and whether device time
was held then, its instant and the window's end on the count of tu and ticks, and the level that must hold. -/
structure SlotWindow where
  start : Nat
  epoch : Nat
  held : Bool := false
  born : Nat
  heldAt : Nat := 0
  due : Nat
  level : Bool
  deriving DecidableEq, Repr, Inhabited

/-- A GPIO event slot (EVT_SLOT_SET). -/
structure Slot where
  /-- the GPIO named, none when the slot is disabled (R467); none at reset -/
  gpio : Option (Fin 24) := none
  /-- EDGE: bit 0 rising, bit 1 falling -/
  edge : Nat := 0
  /-- DEBOUNCE in ticks of 32.768 kHz -/
  debounce : Nat := 0
  /-- an open debounce window; none at reset -/
  window : Option SlotWindow := none
  deriving DecidableEq, Repr, Inhabited

/-- Route words at reset (Table 3.12, R73): HIRQ0 1; WAKE 1 for E112, E116 and E248 to E255. -/
def routeReset (e : Nat) : Word := if e = 112 ∨ e = 116 ∨ 248 ≤ e then 5 else 1

/-- The event router and the GPIO balls. -/
structure Events where
  /-- route words of the 256 events, 32 bits each (R72, R73) -/
  route : Vector Word 256 := Vector.ofFn (fun e => routeReset e.val)
  /-- records held by the event router, in stamp order (R69); empty at reset -/
  held : List Record := []
  /-- occurrences HALL_AO holds while the part sleeps, in stamp order (R69); empty at reset -/
  aoHeld : List Record := []
  /-- records on their way to the ring with the address of the owner (R74): a path stood when they occurred; empty at
  reset -/
  forward : List (Nat × Record) := []
  /-- event slots 0-7 (R467); disabled at reset -/
  slots : Vector Slot 8 := Vector.replicate 8 {}
  /-- levels of GPIO0-23 as inputs, 24 bits; DESIGN CHOICE 0 at reset (a ball's level is the outside world's) -/
  gpioIn : BitVec 24 := 0
  /-- levels the part drives on GPIO0-23, 24 bits (R75); DESIGN CHOICE 0 -/
  gpioOut : BitVec 24 := 0
  /-- end of a 1 µs pulse on each GPIO (R75); none at reset -/
  gpioPulse : Vector (Option Nat) 24 := Vector.replicate 24 none
  /-- end of a pulse on HIRQ0 and HIRQ1 (R42); none at reset -/
  hirqPulse : Vector (Option Nat) 2 := Vector.replicate 2 none
  deriving DecidableEq, Repr, Inhabited

/-- Fields of a page that an APPLY set and whose effect point lies ahead (R54): the word written, and the APPLY that reports
PENDING; none where a basic command set the field. -/
structure Late where
  v : Nat
  cid : Option Nat := none
  deriving DecidableEq, Repr, Inhabited

/-- Device time (R76 to R80). -/
structure Time where
  /-- tu counted since reset; device time, 64 bits, is `now - start` (R76); reset 0 -/
  now : Nat := 0
  /-- the value of `now` at which the epoch began (R77): device time restarts from zero there; reset 0 -/
  start : Nat := 0
  /-- epoch, 16 bits (R77); reset 0 -/
  epoch : Nat := 0
  /-- TIME_Q class reached in this epoch, 0 to 2 (R78); reset 0 -/
  quality : Nat := 0
  /-- accumulated uncertainty in tu, 32 bits saturating (R79); reset 0 -/
  uncert : Nat := 0
  /-- device time is held (R80); reset false -/
  held : Bool := false
  /-- periods of the HALL_CTRL clock counted while device time is held (R384); reset 0 -/
  heldTicks : Nat := 0
  /-- the value of `now` at the aligned base tick from which sample ticks are numbered (R86, R99); reset 0 -/
  tickBase : Nat := 0
  /-- the number of the sample tick at `tickBase`; reset 0 -/
  tickNo : Nat := 0
  /-- the number of the base tick at `tickBase`, counted since reset (R101); reset 0 -/
  baseNo : Nat := 0
  /-- how far ASYN's ticks run off the crystal's rate, in 0.001 ppm (R86, R91, Table 4.5, R109); reset 0 -/
  tickPpb : Int := 0
  deriving DecidableEq, Repr, Inhabited

/-- What a hall is clocked from (Table 1.1); `slow`: the 32.768 kHz of RETAIN and OFF. -/
inductive HallClk where
  | normal | xtal | rc | slow
  deriving DecidableEq, Repr, Inhabited

/-- State of the crossings of a hall (R19). -/
inductive Crossing where
  | opened | draining | closed
  deriving DecidableEq, Repr, Inhabited

/-- One hall (Table 1.1, Table 1.2). -/
structure Hall where
  /-- power switch; reset on -/
  powered : Bool := true
  /-- clock stopped, state kept (DOZE); reset false -/
  gated : Bool := false
  /-- clock source in use (Table 1.1); at reset the crystal (R414) -/
  clk : HallClk := .xtal
  /-- crossings of the hall (R19); reset open -/
  cross : Crossing := .opened
  deriving DecidableEq, Repr, Inhabited

/-- Indices of the hall mask (Table 3.1). -/
abbrev hAO : Nat := 0
abbrev hCTRL : Nat := 1
abbrev hDSP : Nat := 2
abbrev hAUD : Nat := 3
abbrev hDRV : Nat := 4
abbrev hANA : Nat := 5
abbrev hGAL : Nat := 6

end Sys2Proof.Machine
end

