-- ==== Sys2Proof/Machine/StateClk.lean ====
section
/-! DEFINITION. Clock synthesis and the edge line (chapter 04), line inputs, analog functions and jacks (chapter 05)
as state. Default values are the reset values. -/

namespace Sys2Proof.Machine

/-- ASYN_STATE (CLK_STATUS_GET). `search` is the band search and the fine lock: no command of the table parts them. -/
inductive Asyn where
  | off | measuring | search | locked | coasting | rejoining
  deriving DecidableEq, Repr, Inhabited

/-- CSYN_STATE (CLK_STATUS_GET), with the same `search`. -/
inductive Csyn where
  | off | search | locked
  deriving DecidableEq, Repr, Inhabited

/-- Why ASYN runs a lock sequence (Table 4.4), or what it waits for afterwards. -/
inductive LockWhy where
  /-- first lock after reset, wake, XTAL_RESTORED or a selection while unlocked -/
  | first
  /-- recovery after E144 (Table 4.10) -/
  | relock
  /-- a planned stop for a change of family (R90) -/
  | family
  /-- CLK_REF_SELECT on a re-based part (R110) -/
  | unbase
  /-- locking to the re-base source (Table 4.12 step 6) -/
  | rebase
  deriving DecidableEq, Repr, Inhabited

/-- One clock output (R101 to R103). -/
structure ClkOut where
  /-- the output runs; reset false -/
  on : Bool := false
  /-- a disable waits for the next low phase -/
  stopping : Bool := false
  /-- an enable waits for the next base tick: the CLKOUT word -/
  start : Option Nat := none
  /-- the page word to take at the effect point -/
  word : Option Nat := none
  /-- held low while the edge line or ASYN is unlocked, restarts after the lock (R98, R103) -/
  held : Bool := false
  /-- the commands that wait -/
  cids : List Nat := []
  /-- the base tick at which a waiting enable starts the output (R102); reset 0 -/
  due : Nat := 0
  /-- t_tick: the count of tu at the aligned base tick at which the output last started (R101); none at reset -/
  tick : Option Nat := none
  /-- the number of that base tick (R101); reset 0 -/
  count : Nat := 0
  deriving DecidableEq, Repr, Inhabited

/-- Page 0x0400 at reset (Table 4.13). -/
def page0400Reset : BitVec 192 := BitVec.ofNat 192 (100 * 2 ^ 16 + (0xFF * 2 ^ 8) * 2 ^ 32)

/-- Synthesizers, edge line, crystal and clock outputs. -/
structure Clk where
  /-- page 0x0400, 192 bits (Table 4.13) -/
  page : BitVec 192 := page0400Reset
  /-- ASYN_STATE (CLK_STATUS_GET); reset off -/
  asyn : Asyn := .off
  /-- CSYN_STATE (CLK_STATUS_GET); reset off -/
  csyn : Csyn := .off
  /-- reference in use, 0-16 (CLK_STATUS_GET, R93); reset 0 crystal -/
  ref : Nat := 0
  /-- reference the running lock sequence locks to, 0-16 -/
  target : Nat := 0
  /-- why the running lock sequence runs -/
  why : LockWhy := .first
  /-- end of the running measurement of the reference, on the count of tu (Table 4.4 step 2); reset 0 -/
  measureDue : Nat := 0
  /-- ASYN_BAND 0-63, set at lock (R89); DESIGN CHOICE 0 -/
  asynBand : Fin 64 := 0
  /-- CSYN_BAND 0-63, set at lock (R97); DESIGN CHOICE 0 -/
  csynBand : Fin 64 := 0
  /-- the level whose settings CSYN locks to or runs at (Table 4.6); reset 0 -/
  csynLevel : Nat := 0
  /-- failed ASYN lock attempts (R107); reset 0 -/
  attempts : Nat := 0
  /-- after three failures ASYN locks to the crystal and rejoins the reference later (R107): the reference -/
  rejoinRef : Option Nat := none
  /-- failed CSYN lock attempts (R108); reset 0 -/
  csynAttempts : Nat := 0
  /-- CSYN has fallen back to the PL0 settings after three failures (R108); reset false -/
  csynFell : Bool := false
  /-- CSYN was lost, the graph output is muted until it relocks (Table 4.11); reset false -/
  csynLost : Bool := false
  /-- edge line locked (R98); reset false -/
  edge : Bool := false
  /-- crystal running (R85); DESIGN CHOICE true after reset -/
  xtal : Bool := true
  /-- the crystal has failed and E153 has not been raised (R110); reset false -/
  xtalFailed : Bool := false
  /-- an XT32 crystal is fitted (R79, Table 19.3); set from outside, no reset changes it; DESIGN CHOICE true -/
  xt32Fit : Bool := true
  /-- the XT32 crystal counts the ticks (R79); a reset takes it up again where it is fitted (E157, Table 3.5); DESIGN
  CHOICE true -/
  xt32 : Bool := true
  /-- XT32 found stopped during a sleep, E157 to be raised on wake (R79); reset false -/
  xt32Failed : Bool := false
  /-- re-base source in use: 1 MCLK_IN, 2 ring clock (R109); none at reset -/
  rebased : Option Nat := none
  /-- the reference is lost and ASYN coasts (R91); reset false -/
  lost : Bool := false
  /-- the tu of the latest active marker seen of each reference whose markers commands bring: 1, 14, 15 and 16 (Table 4.3,
  R99); none at reset -/
  marks : Vector (Option Nat) 17 := Vector.replicate 17 none
  /-- the interval in tu between the last two active edges of SYNC_GPIO (R92); none at reset -/
  syncGap : Option Nat := none
  /-- a return is being measured or a jump taken (R92) -/
  returning : Bool := false
  /-- STEP rejoin in the running or next rejoin (Table 4.5) -/
  stepMode : Bool := false
  /-- JUMP of the last return in 1/16 tu, signed (R92); DESIGN CHOICE 0 -/
  jump : Int := 0
  /-- ALIGN_MS of the last rejoin (CLK_REF_SELECT); reset 0 -/
  alignMs : Nat := 0
  /-- the tu at which the running rejoin may end (Table 4.5); reset 0 -/
  alignDue : Nat := 0
  /-- the tu at which a STEP rejoin began its fade-out (Table 4.5); reset 0 -/
  stepFrom : Nat := 0
  /-- the tu at which the dividers of a STEP rejoin stand at the new phase and its fade-in begins (Table 4.5); none while
  no STEP runs -/
  stepAt : Option Nat := none
  /-- REF_FREQ in Hz, 32 bits (CLK_STATUS_GET); DESIGN CHOICE 0 -/
  refFreq : Nat := 0
  /-- REF_ERR in 0.001 ppm, signed 32 bits (CLK_STATUS_GET); DESIGN CHOICE 0 -/
  refErr : Int := 0
  /-- the CLK_REF_SELECT or APPLY that waits for the lock or rejoin -/
  cid : Option Nat := none
  /-- the word 0 of page 0x0400 that the waiting command takes at its effect point (R112) -/
  newWord : Option Nat := none
  /-- a change of family runs (R90) -/
  familyChange : Bool := false
  /-- the check of an external reference before a change of family (R90): its code and the end of the measurement; none
  at reset -/
  famCheck : Option (Nat × Nat) := none
  /-- the tu from which a lost or newly selected reference has to meet R87 for 24,576 tu (R92); reset 0 -/
  lostFrom : Nat := 0
  /-- on a re-based part, CLK_REF_SELECT waits for CSYN to lock on the crystal too (R110) -/
  waitCsyn : Bool := false
  /-- on a re-based part, CSYN runs from the crystal again (R110) -/
  csynBack : Bool := false
  /-- clock outputs CLKOUT0-3 -/
  outs : Vector ClkOut 4 := Vector.replicate 4 {}
  deriving DecidableEq, Repr, Inhabited

/-- One line input (R114 to R118). -/
structure LineIn where
  /-- the modulator and decimator run; reset false -/
  running : Bool := false
  /-- the 1 ms ramp of a disable: its end (R117); none -/
  rampEnd : Option Nat := none
  /-- a change of IMPED or RATE enables the input again after the ramp -/
  again : Bool := false
  /-- present PGA gain, 0-84 in 0.5 dB; reset 0 -/
  gain : Nat := 0
  /-- gain the steps move towards (R116); reset 0 -/
  target : Nat := 0
  /-- end of the zero-crossing timeout of the pending step -/
  stepEnd : Option Nat := none
  /-- overload count, 8 bits saturating (R118); reset 0 -/
  overload : Nat := 0
  /-- no E143 before this device time (R118); none -/
  quietTo : Option Nat := none
  deriving DecidableEq, Repr, Inhabited

/-- STATE of an analog function (ANA_STATUS_GET). -/
inductive FnState where
  | off | starting | on | shuttingDown | restarting | fault | held
  deriving DecidableEq, Repr, Inhabited

/-- One analog function of Table 5.1. -/
structure AnaFn where
  /-- STATE; reset OFF -/
  st : FnState := .off
  /-- present stage code (Tables 5.3 and 5.4); 0 OFF, 0x20 ON; reset 0 -/
  stage : Nat := 0
  /-- tu at which the stage began -/
  began : Nat := 0
  /-- tu at which the stage ends, none while it waits or is steady -/
  due : Option Nat := none
  /-- length of the stage from its very beginning, of a ramp that was reversed that of the whole ramp (R126, R127) -/
  full : Nat := 0
  /-- the enable waits for the pump or the grant and nothing has happened at the balls (R127) -/
  waiting : Bool := false
  /-- started in its own right (the pump, R122) -/
  ownRight : Bool := false
  /-- HELD: the pending enable (true) or disable (false) (R128) -/
  heldCmd : Option Bool := none
  /-- the running shut-down was asked by a HELD cause and ends in HELD (R128) -/
  toHeld : Bool := false
  /-- the running shut-down ends in FAULT (R119, R121, R123) -/
  toFault : Bool := false
  /-- the start-up stage in progress completes and shut-down continues from stage 3 (R127) -/
  thenDown : Bool := false
  /-- stopped by silence (R392); reset false -/
  autoStopped : Bool := false
  /-- the start-up in progress leaves HELD: its ramp up takes 10 ms (R128); reset false -/
  fromHeld : Bool := false
  /-- a headphone channel runs for a load measurement alone: nothing has enabled it (R129, R130); reset false -/
  probe : Bool := false
  deriving DecidableEq, Repr, Inhabited

/-- An ANA_OUT_ENABLE or an APPLY that waits for its functions (R124, R126). -/
structure AnaJob where
  cid : Nat
  mask : Nat
  on : Bool
  /-- a named function was in shut-down stage 3 or later: final status RESTARTING (R126) -/
  restarting : Bool := false
  deriving DecidableEq, Repr, Inhabited

/-- Headphone load measurement (R129 to R131). -/
structure HpMeasure where
  /-- 0 waits for the pump or grant, 1 stages or ramp, 2 tone -/
  step : Nat
  /-- the channels were ON (R129) -/
  wasOn : Bool
  /-- end of the ramp or of the tone -/
  due : Option Nat
  /-- the JACK_HP_MEASURE that waits -/
  cid : Option Nat
  deriving DecidableEq, Repr, Inhabited

/-- One state of a jack or source table (Tables 5.8 and 17.x): actions, timer, next states. -/
structure JackEntry where
  actions : Nat
  timerMs : Nat
  /-- NEXT bytes of conditions 0-15; 0xFF not tested -/
  next : List Nat
  deriving DecidableEq, Repr, Inhabited

/-- Conditions latched by a machine (Table 5.6). -/
structure Latches where
  timer : Bool := false
  hpShort : Bool := false
  hostGo : Bool := false
  hostStop : Bool := false
  hpFail : Bool := false
  deriving DecidableEq, Repr, Inhabited

/-- One jack detector and its machine (R132 to R138). -/
structure Jack where
  /-- machine state index; reset 0 -/
  state : Nat := 0
  /-- debounced: plug present; reset absent -/
  present : Bool := false
  /-- undebounced ball level; DESIGN CHOICE high (pulled up) -/
  level : Bool := true
  /-- open debounce window: end, and the level that must hold -/
  window : Option (Nat × Bool) := none
  /-- latched conditions -/
  latch : Latches := {}
  /-- end of the state's timer -/
  timerEnd : Option Nat := none
  /-- load conditions 3-6 stand for the last completed measurement (R133) -/
  loadValid : Bool := false
  /-- user table committed (R136); none at reset -/
  user : Option (List JackEntry) := none
  /-- the user table is selected (TABLE, Table 5.13); reset 0 -/
  useUser : Bool := false
  /-- a selection waits for the next evaluation: user table or default, and the command -/
  select : Option (Bool × Option Nat) := none
  deriving DecidableEq, Repr, Inhabited

/-- Line inputs, analog functions, headphone measurement, jacks. -/
structure Ana where
  /-- page 0x0500, 128 bits (Table 5.11): EN 0, GAIN 0, IMPED 1, RATE 7 -/
  page0500 : BitVec 128 := BitVec.ofNat 128 ((2 ^ 22 + 7 * 2 ^ 18) * (1 + 2 ^ 32 + 2 ^ 64 + 2 ^ 96))
  /-- page 0x0501, 96 bits (Table 5.12): RAMP_MS 10, CM_RAMP_MS 40, HP_CTRL 1, MB1_V 2, MB0_V 2 -/
  page0501 : BitVec 96 := BitVec.ofNat 96 ((10 * 2 ^ 8 + 40) + 2 ^ 32 + (2 * 2 ^ 20 + 2 * 2 ^ 16) * 2 ^ 64)
  /-- page 0x0600, 64 bits (Table 5.13): DEBOUNCE_MS 20, TABLE 0, PULL 1, POL 0, EN 1 -/
  page0600 : BitVec 64 := BitVec.ofNat 64 ((20 * 2 ^ 8 + 5) * (1 + 2 ^ 32))
  /-- line inputs AIN0-AIN3 -/
  ins : Vector LineIn 4 := Vector.replicate 4 {}
  /-- analog functions 0-8 (Table 5.1) -/
  fns : Vector AnaFn 9 := Vector.replicate 9 {}
  /-- commands that wait for functions -/
  jobs : List AnaJob := []
  /-- a CP_START grant is asked for (R122) -/
  cpAsked : Bool := false
  /-- headphone load measurement running; none at reset -/
  measure : Option HpMeasure := none
  /-- end of the hold after a measurement (R130) -/
  holdEnd : Option Nat := none
  /-- ZL and ZR in 0.1 Ohm, 16 bits each (R129); reset 0 (class NONE) -/
  zl : Nat := 0
  zr : Nat := 0
  /-- CLASS_L and CLASS_R (Table 5.5); reset 0 NONE -/
  classL : Nat := 0
  classR : Nat := 0
  /-- the worse class of the last completed measurement, for the jack conditions (R133); reset 0 NONE -/
  condClass : Nat := 0
  /-- jack detectors JD0, JD1 -/
  jacks : Vector Jack 2 := Vector.replicate 2 {}
  deriving DecidableEq, Repr, Inhabited

end Sys2Proof.Machine
end

