-- ==== Sys2Proof/Machine/StateDrive.lean ====
section
/-! DEFINITION. Drive ports and power-stage groups (chapter 12), protection, supplies and the fault supervisor
(chapter 13) as state. Default values are the reset values. -/

namespace Sys2Proof.Machine

/-- STATE of a drive port (DRV_STATUS_GET). -/
inductive DrvState where
  | stopped | softStart | running | softStop | quietStop | safeStop | retired | restarting
  deriving DecidableEq, Repr, Inhabited

/-- What the legs of a port do in a carrier period. -/
inductive Legs where
  /-- both low -/
  | idle
  /-- in phase at an equal duty; in the half-bridge mode PWMA at that duty (stages 0x12 and 0x03) -/
  | common (duty : Rat)
  /-- the pulses of a modulation -/
  | pulses
  deriving DecidableEq, Repr, Inhabited

/-- The demands that the edges of a carrier period take, before the limit to ±m_max: the leading and trailing edge of the
PWMA pulse, and in the BD mode those of the PWMB pulse (R291). -/
structure Edges where
  aLead : Rat := 0
  aTrail : Rat := 0
  bLead : Rat := 0
  bTrail : Rat := 0
  deriving DecidableEq, Repr, Inhabited

/-- The modulator of a port: its present carrier period. -/
structure Pwm where
  /-- what the legs do in the carrier period; reset idle -/
  legs : Legs := .idle
  /-- the demands its edges take (R291); reset 0 -/
  edges : Edges := {}
  /-- where PWMA and PWMB are high in the carrier period, in edge positions from its begin (R286, Table 12.3); reset none:
  both low -/
  a : List (Nat × Nat) := []
  b : List (Nat × Nat) := []
  /-- interpolated samples on their way, each with the carrier period that carries it (R289); reset none -/
  ahead : List (Nat × Int) := []
  /-- x × FS_V in V of the sample that the carrier period carries (R289, R291); reset 0 -/
  ref : Rat := 0
  /-- states of the noise shaper as the carrier period begins: its last five quantisation errors in edge positions, newest
  first (R290); reset zero -/
  shaper : List Rat := List.replicate 5 0
  /-- states of the loop filter: two integrators and a resonator pair (R291); reset zero -/
  loop : List Rat := List.replicate 4 0
  /-- the loop output at the latest three sense samples, newest first (R291); reset none -/
  outs : List Rat := []
  /-- the demand lies beyond ±m_max at the latest sense sample (R294); reset false -/
  past : Bool := false
  /-- the clamp acts in the carrier period (R294); reset false -/
  clip : Bool := false
  /-- a limit edge fell in the carrier period (R301); reset false -/
  tripped : Bool := false
  /-- a crossing inside a blanking interval that ends in the next carrier period, positive out of the PWMA leg (R300);
  reset none -/
  crossed : Option Bool := none
  /-- how far the blanking of the last edges reaches into the carrier period, in edge positions (R300); reset 0 -/
  blankTo : Nat := 0
  /-- internal time since which the loop error has exceeded 25 % of FS_V with the demand inside ±m_max (Table 12.7);
  reset none -/
  errFrom : Option Nat := none
  /-- carrier boundaries since a quiet stop began, and m as it stood then (R307); reset 0 -/
  quiet : Nat := 0
  from_ : Rat := 0
  deriving DecidableEq, Repr, Inhabited

/-- What the sense paths of a port have given in the running frame (R316, R319, R325). -/
structure LoadMeas where
  /-- output voltage in V and load current in A at the latest fine sample (R316); reset 0 -/
  v : Rat := 0
  iL : Rat := 0
  /-- a fine sample has been taken since the sense chains started; reset false -/
  seen : Bool := false
  /-- fine samples of the frame and the sum of the squares of i_L; reset 0 -/
  count : Nat := 0
  sumI2 : Rat := 0
  /-- fast values of the frame with COARSE_VALID 1 and the sum of max(0, v × i) in W; reset 0 -/
  fast : Nat := 0
  sumVi : Rat := 0
  deriving DecidableEq, Repr, Inhabited

/-- Page 0x1000 + n at reset (Table 12.11). -/
def page1000Reset : BitVec 128 :=
  BitVec.ofNat 128 ((10 * 2 ^ 8 + 8) + (160 * 2 ^ 24 + 10 * 2 ^ 16) * 2 ^ 32 + (1000 * 2 ^ 16 + 2000) * 2 ^ 64
    + (100 * 2 ^ 16 + 0xFF * 2 ^ 8) * 2 ^ 96)

/-- One drive port. -/
structure DrvPort where
  /-- page 0x1000 + n, 128 bits (Table 12.11) -/
  page : BitVec 128 := page1000Reset
  /-- STATE; STOPPED at reset -/
  st : DrvState := .stopped
  /-- STAGE: present stage code, 0 when off; 0x20 is not used here: RUNNING reads 0; reset 0 -/
  stage : Nat := 0
  /-- tu at which the stage began -/
  began : Nat := 0
  /-- tu at which the stage ends; none while it waits for its group or is steady -/
  due : Option Nat := none
  /-- length of a full ramp at the rate of stage 0x14 or 0x01 in progress (R126, R127, R313); reset 0 -/
  ramp : Nat := 0
  /-- waits in stage 0x11 for its group to reach ON (R306) -/
  waiting : Bool := false
  /-- a disable taken in 0x11 or 0x12 lets the stage end and goes on from shut-down stage 3 (R127) -/
  thenDown : Bool := false
  /-- what the host last asked for: true start (R332) -/
  wanted : Bool := false
  /-- in QUIET_STOP, or STOPPED with an enable taken while a cause holds: the port starts when every cause has ended
  (R308) -/
  again : Bool := false
  /-- EN 1 is asked for and its group has no grant yet: the live page follows with the grant (R470) -/
  enWait : Bool := false
  /-- AUTO_STOPPED (R310); reset false -/
  autoStopped : Bool := false
  /-- RESUME (R311); reset false -/
  resume : Bool := false
  /-- load table, 32 bytes (Table 12.4); none at reset -/
  load : Option (List Byte) := none
  /-- measured entry, 32 bytes (R298); none at reset -/
  measured : Option (List Byte) := none
  /-- entry the port started with (R297) -/
  inForce : Option (List Byte) := none
  /-- a new entry is held until the next start-up (R297) -/
  loadPending : Bool := false
  /-- TRIPS and CLIPS since the last read, 16 bits saturating; reset 0 -/
  trips : Nat := 0
  clips : Nat := 0
  /-- clamped in the last carrier period (FLAGS bit 0); reset false -/
  clamped : Bool := false
  /-- consecutive carrier periods with a limit edge (R302), and the number of the last one; reset 0 -/
  limitRun : Nat := 0
  lastLimit : Nat := 0
  /-- the modulator -/
  pwm : Pwm := {}
  /-- voltage and current of the running frame -/
  load_ : LoadMeas := {}
  /-- rail in mV as RAIL_HK measured it, applied at a frame boundary (R291); none: RAIL_MV; reset none -/
  rail : Option Rat := none
  /-- an APPLY of the drive page whose ILIM and BLANK wait for the next carrier period (R313); none at reset -/
  late : Option Late := none
  deriving DecidableEq, Repr, Inhabited

/-- G_STATE of a group (DRV_STATUS_GET). -/
inductive GroupState where
  | off | starting | on | stopping | fault | restarting
  deriving DecidableEq, Repr, Inhabited

/-- Page 0x1020 + g at reset (Table 12.12). -/
def page1020Reset : BitVec 64 := BitVec.ofNat 64 ((2 ^ 28 + 12000) + (20 * 2 ^ 8 + 20) * 2 ^ 32)

/-- One power-stage group. -/
structure DrvGroup where
  /-- page 0x1020 + g, 64 bits (Table 12.12) -/
  page : BitVec 64 := page1020Reset
  /-- G_STATE; OFF at reset -/
  st : GroupState := .off
  /-- end of the running stage; none while it waits for the grant or is steady -/
  due : Option Nat := none
  /-- a start waits for its grant -/
  asked : Bool := false
  /-- the start is covered by a LOAD_CHAR grant and takes none of its own (R298, R385) -/
  covered : Bool := false
  /-- EN_SETTLE completes and the group then stops (R127) -/
  thenDown : Bool := false
  /-- the stop ends in FAULT (R304) -/
  toFault : Bool := false
  /-- EN 1 is asked for and the group has no grant yet: the live page follows with the grant (R470) -/
  enWait : Bool := false
  /-- the group page has been applied; until then PSGg_EN is low (R285); reset false -/
  applied : Bool := false
  /-- level of the PSGg_FLT ball as the rows last told it: pulled up (R285); reset high -/
  fltLevel : Bool := true
  /-- level of PSGg_EN; reset low -/
  enLevel : Bool := false
  /-- a restart on sound is asked for: its AUTO_STOPPED ports start at the grant (R310) -/
  autoAsk : Bool := false
  /-- EN was kept or the group was on before DOZE and starts again on wake (R311) -/
  resume : Bool := false
  /-- the group was stopped on silence (R310) -/
  autoStopped : Bool := false
  deriving DecidableEq, Repr, Inhabited

/-- A DRV_ENABLE, DRV_GROUP_ENABLE or an APPLY of EN that waits. -/
structure DrvJob where
  cid : Nat
  /-- ports named -/
  mask : Nat
  /-- groups named -/
  groups : Nat
  on : Bool
  /-- a named port or group was in shut-down stage 3 or later (R126) -/
  restarting : Bool
  /-- a group was refused its grant -/
  refused : Bool := false
  /-- the master that asked -/
  who : Nat := 4
  deriving DecidableEq, Repr, Inhabited

/-- A characterisation in progress (R298). -/
structure Characterise where
  /-- ports named -/
  mask : Nat
  /-- ports not yet measured, ascending; the head is the one in progress -/
  left : List Nat
  /-- step of Table 12.5: 1 grant or group start, 2 stage 0x11, 3 stage 0x12, 4 chirp, 5 shut-down, 6 the entry -/
  step : Nat
  /-- end of the running step -/
  due : Option Nat
  /-- RESULT bytes -/
  results : Vector Nat 24
  /-- the current limit has tripped in the measurement of the port in progress (R298) -/
  tripped : Bool := false
  /-- the master that asked -/
  who : Nat := 4
  cid : Option Nat
  deriving DecidableEq, Repr, Inhabited

/-- Drive ports and groups. -/
structure Drv where
  /-- ports DRV00-DRV23 -/
  ports : Vector DrvPort 24 := Vector.replicate 24 {}
  /-- groups 0-5 -/
  groups : Vector DrvGroup 6 := Vector.replicate 6 {}
  /-- commands that wait -/
  jobs : List DrvJob := []
  /-- characterisation in progress; none at reset -/
  char : Option Characterise := none
  deriving DecidableEq, Repr, Inhabited

/-- A curve point (Table 13.1). -/
structure CurvePt where
  x : Int
  y : Int
  deriving DecidableEq, Repr, Inhabited

/-- A driver entry (Table 13.2). -/
structure Driver where
  /-- PORT, 0xFF any -/
  port : Nat
  thermal : Bool
  excursion : Bool
  re : Nat
  alpha : Nat
  tMax : Nat
  tMargin : Nat
  rthVc : Nat
  tauVc : Nat
  rthM : Nat
  tauM : Nat
  tAmb : Int
  ambHk : Nat
  /-- FS, QMS, BL, MMS, LE, X_MAX -/
  fs : Nat
  qms : Nat
  bl : Nat
  mms : Nat
  le : Nat
  xMax : Nat
  release : Nat
  iPeak : Nat
  deriving DecidableEq, Repr, Inhabited

/-- A supply table (Tables 13.3 and 13.4). -/
structure SupplyTable where
  hk : Nat
  vFloor : Nat
  rSrc : Nat
  eta : Nat
  iQ : Nat
  release : Nat
  mask : Nat
  /-- V and I_MAX of the points, ascending -/
  points : List (Nat × Nat)
  deriving DecidableEq, Repr, Inhabited

/-- What is known of one supply (PROT_SUPPLY_GET). -/
structure Supply where
  id : Nat
  table : SupplyTable
  /-- a replacement that takes effect at the next frame boundary, with its command (R324) -/
  next : Option (SupplyTable × Nat) := none
  /-- V_s, V_oc, I_B, I_meas and S_peak of the last frame in mV and mA (R325, R326); reset 0 -/
  vs : Rat := 0
  voc : Rat := 0
  budget : Rat := 0
  meas : Rat := 0
  peak : Rat := 0
  /-- g_s squared (R326); 1 before the first frame -/
  gs2 : Rat := 1
  /-- BUDGET_SHORT -/
  short : Bool := false
  /-- reduction last reported by E231, in 0.5 dB; none while not limiting -/
  told : Option Nat := none
  /-- start of the stay within 0.5 dB of 1 -/
  holdFrom : Option Nat := none
  /-- the clamp acts (R328) -/
  clamp : Bool := false
  /-- device time from which every result lay above 1.05 × V_FLOOR, while clamped -/
  clearFrom : Option Nat := none
  /-- the factor rises to 1 since this device time -/
  riseFrom : Option Nat := none
  /-- E232 raised and no result above 1.05 × V_FLOOR since -/
  floorTold : Bool := false
  /-- CLAMPS, 16 bits saturating -/
  clamps : Nat := 0
  deriving DecidableEq, Repr, Inhabited

/-- Protection state of a port (PROT_STATUS_GET). -/
structure PortProt where
  /-- d_vc and d_m in K (R319); reset 0 -/
  dVc : Rat := 0
  dM : Rat := 0
  /-- t_amb of the last frame in °C -/
  tAmb : Rat := 0
  /-- the port is in a SPEAKER_MODEL that has run a frame since its states started -/
  modelled : Bool := false
  /-- g_t and g_x (R319, R320); DESIGN CHOICE 1 -/
  gt : Rat := 1
  gx : Rat := 1
  /-- EXC in % of X_MAX; reset 0 -/
  exc : Nat := 0
  /-- total reduction in 0.5 dB and its cause (R321); reset 0 -/
  red : Nat := 0
  cause : Nat := 0
  /-- limiting has been reported and not ended (R321) -/
  limiting : Bool := false
  /-- cause last reported -/
  toldCause : Nat := 0
  /-- start of the stay below 0.5 dB -/
  holdFrom : Option Nat := none
  /-- MISMATCH, and the internal time at which the running window of it began (R320); reset false, 0 -/
  mismatch : Bool := false
  rmsFrom : Nat := 0
  /-- in that window, the squares of the model's current and of i_L summed in A², and how many of each; reset 0 -/
  rmsModel : Rat := 0
  rmsModelN : Nat := 0
  rmsSense : Rat := 0
  rmsSenseN : Nat := 0
  /-- lanes muted (R322) -/
  lanesMuted : Bool := false
  /-- state restored; RESTORED_NO_TIME (R323) -/
  restored : Bool := false
  noTime : Bool := false
  /-- REMAP_INCOMPLETE (R334) -/
  incomplete : Bool := false
  /-- d_vc, d_m, device time and epoch saved at the last commit point (R323); always-on memory -/
  saved : Option (Rat × Rat × Nat × Nat) := none
  /-- a PROT_TEMP_SET that waits for the frame boundary: d_vc, d_m and the command -/
  set : Option (Rat × Rat × Nat) := none
  deriving DecidableEq, Repr, Inhabited

/-- STATE of a channel of the fault supervisor (PROT_FAULT_GET). -/
inductive FaultState where
  | normal | backoff | retryWait | retired
  deriving DecidableEq, Repr, Inhabited

/-- One channel of a fault class (R329, R330). -/
structure FaultCh where
  /-- STATE; reset normal -/
  st : FaultState := .normal
  /-- COUNT; reset 0 -/
  count : Nat := 0
  /-- CAUSE of the last fault; reset 0 -/
  cause : Nat := 0
  /-- stamp of the last fault counted -/
  stamp : Option Nat := none
  /-- end of the fault window (R330) -/
  windowEnd : Option Nat := none
  /-- end of the backoff -/
  backoffEnd : Option Nat := none
  /-- when the supervisor asks again after NO_GRANT (R332) -/
  reask : Option Nat := none
  /-- RETRIES since reset, 16 bits saturating; reset 0 -/
  retries : Nat := 0
  deriving DecidableEq, Repr, Inhabited

/-- An entry of the retirement map (Table 13.6). -/
structure MapEntry where
  port : Nat
  /-- SOURCE, 0xFFFF the port's present source -/
  source : Nat
  /-- TARGET and WEIGHT of each target -/
  targets : List (Nat × Int)
  deriving DecidableEq, Repr, Inhabited

/-- A route the supervisor set by R334, so that PROT_RESTORE can undo it. -/
structure Remap where
  /-- the retired port -/
  port : Nat
  /-- route target index (Table 8.5) -/
  target : Nat
  /-- what the supervisor set -/
  src : Option Nat
  gain : Int
  /-- what stood before -/
  oldSrc : Option Nat
  oldGain : Int
  /-- mixer taken by this change, if any -/
  mixer : Option Nat := none
  deriving DecidableEq, Repr, Inhabited

/-- A target whose sink moves to its remap mixer at the next frame boundary (R334). -/
structure MixerMove where
  port : Nat
  sink : Nat
  mixer : Nat
  /-- when the mixer's feeds were asked for -/
  asked : Nat
  /-- the device time of the frame boundary at which the mixer was fed; none before it -/
  fedAt : Option Nat
  deriving DecidableEq, Repr, Inhabited

/-- Protection, supplies, fault supervisor. -/
structure Prot where
  /-- page 0x1100, 32 bits (Table 13.8): LANE_GUARD 1, THERMAL_SAVE 1, SUPPLY_CLAMP 1, HOLD 10, REMAP_MIXERS 4 -/
  page1100 : BitVec 32 := BitVec.ofNat 32 (7 * 2 ^ 29 + 10 * 2 ^ 8 + 4)
  /-- an APPLY that takes effect at the next frame boundary (R337): page and command -/
  waiting1100 : Option (Nat × Option Nat) := none
  /-- curve tables by ID (R317); none at reset -/
  curves : List (Nat × List CurvePt) := []
  /-- curve tables replaced while in use, from the next frame boundary, each with its command -/
  newCurves : List (Nat × List CurvePt × Nat) := []
  /-- driver tables by ID (R318); none at reset -/
  drivers : List (Nat × List Driver) := []
  /-- driver tables replaced while in use, likewise -/
  newDrivers : List (Nat × List Driver × Nat) := []
  /-- supplies by table ID (R324); none at reset -/
  supplies : List Supply := []
  /-- retirement map (R333); none at reset -/
  map : List MapEntry := []
  /-- ports 0-23 -/
  ports : Vector PortProt 24 := Vector.replicate 24 {}
  /-- fault classes: 24 drive ports, 16 microphones, 2 ring links, 6 TDM inputs, 24 housekeeping inputs -/
  drvCh : Vector FaultCh 24 := Vector.replicate 24 {}
  micCh : Vector FaultCh 16 := Vector.replicate 16 {}
  ringCh : Vector FaultCh 2 := Vector.replicate 2 {}
  tdmCh : Vector FaultCh 6 := Vector.replicate 6 {}
  hkCh : Vector FaultCh 24 := Vector.replicate 24 {}
  /-- routes set by the supervisor -/
  remaps : List Remap := []
  /-- mixer moves that wait -/
  moves : List MixerMove := []
  /-- R334 is to be carried out again at the next E215 (R335) -/
  redo : Bool := false
  /-- PROT_RESTORE commands that wait for route changes on these targets -/
  restores : List (Nat × List Nat) := []
  deriving DecidableEq, Repr, Inhabited

end Sys2Proof.Machine
end

