-- ==== Sys2Proof/Machine/StateMic.lean ====
section
/-! DEFINITION. PDM microphones, Speedwell, the history and its stream (chapter 06), filter chains (chapter 07) as
state. Default values are the reset values. -/

namespace Sys2Proof.Machine

/-- State of a PDM channel. -/
inductive MicState where
  | off
  /-- enabled, its clock not running yet or STARTUP_MS running -/
  | starting
  | running
  /-- fault supervisor backoff -/
  | retrying
  | retired
  deriving DecidableEq, Repr, Inhabited

/-- One PDM channel. -/
structure MicCh where
  st : MicState := .off
  /-- end of STARTUP_MS (R144), none while the clock is not running -/
  due : Option Nat := none
  /-- a stopped channel falls to zero until then (MIC_ENABLE); none at reset -/
  ramp : Option Nat := none
  /-- FAULT_EN as its last start took it (R160); reset 1 -/
  watch : Bool := true
  deriving DecidableEq, Repr, Inhabited

/-- One detection frame of the history: index of its first instant, device time at which that instant was written,
160 instants of four 16-bit channels (R150, R155). -/
structure HistFrame where
  index : Nat
  time : Nat
  samples : List DWord
  deriving DecidableEq, Repr, Inhabited

/-- A side-channel marker (Table 6.5). -/
structure Marker where
  start : Nat
  length : Nat
  kind : Nat
  deriving DecidableEq, Repr, Inhabited

/-- State of the history (R151). -/
inductive Hist where
  | locked | opened | erasing
  deriving DecidableEq, Repr, Inhabited

/-- Page 0x0700 at reset (Table 6.9). -/
def page0700Reset : BitVec 64 := BitVec.ofNat 64 (0xFFFF + (10 * 2 ^ 8 + 2 * 2 ^ 3) * 2 ^ 32)
/-- Page 0x0800 at reset (Table 6.10). -/
def page0800Reset : BitVec 96 :=
  BitVec.ofNat 96 ((0xF * 2 ^ 24 + 2 ^ 20 + 2 * 2 ^ 16 + 12 * 2 ^ 8 + 10)
    + (10 * 2 ^ 16 + 10 * 2 ^ 8 + 15) * 2 ^ 32 + (0xFF * 2 ^ 16 + 30 * 2 ^ 8 + 4) * 2 ^ 64)

/-- Microphones, Speedwell, history, stream. -/
structure Mic where
  /-- page 0x0700, 64 bits (Table 6.9) -/
  page0700 : BitVec 64 := page0700Reset
  /-- page 0x0800, 96 bits (Table 6.10) -/
  page0800 : BitVec 96 := page0800Reset
  /-- PDM channels 0-15; off at reset -/
  chans : Vector MicCh 16 := Vector.replicate 16 {}
  /-- PDM_CLK0: 0 held low, 1 768 kHz, 2 3.072 MHz (R140); reset 0 -/
  clk0 : Nat := 0
  /-- MIC_MUTE accepted level, 1 asserted (R158); DESIGN CHOICE 0 -/
  mute : Bool := false
  /-- level of the MIC_MUTE ball (R158); reset keeps the level -/
  muteBall : Bool := false
  /-- end of the 10 ms release window of MIC_MUTE (R158); none at reset -/
  muteRelease : Option Nat := none
  /-- noise floors F(c) of channels 0-3 in dBFS, none before the first frame (R146) -/
  floors : Vector (Option Rat) 4 := Vector.replicate 4 none
  /-- last frame energies E(c) in dBFS (R146); DESIGN CHOICE −127 -/
  energies : Vector Rat 4 := Vector.replicate 4 (-127)
  /-- consecutive frames with at least MIN_CH channels above threshold (R146); reset 0 -/
  onset : Nat := 0
  /-- hangover windows as start and end, newest first (R148); none at reset -/
  hangs : List (Nat × Nat) := []
  /-- a hangover window stands open (SPEEDWELL 2); reset false -/
  hangover : Bool := false
  /-- fields of page 0x0700 that wait for the next channel start (R160, R54); none at reset -/
  late0700 : Option Late := none
  /-- fields of page 0x0800 that wait for the next detection frame or opening (R161, R54); none at reset -/
  late0800 : Option Late := none
  /-- MODE_CHG_MS in force: an APPLY acts from the next channel start (R160); reset 2 -/
  modeMs : Nat := 2
  /-- device time from which detections are void: MIC_MUTE rose (R158) -/
  voidFrom : Option Nat := none
  /-- history state (R151); LOCKED at reset -/
  hist : Hist := .locked
  /-- E112 raised and the opening waits: its stamp W and its detection instant (R151, R153) -/
  wantOpen : Option (Nat × Nat) := none
  /-- master served while OPEN (R154) -/
  served : Fin 4 := 0
  /-- end of the release timeout while OPEN (R153) -/
  relockAt : Nat := 0
  /-- detection instant of the opening (R155 HIST) -/
  detected : Nat := 0
  /-- first instant of the next detection frame (R150); reset 0 -/
  nextIndex : Nat := 0
  /-- device time at which the running detection frame began -/
  frameStart : Nat := 0
  /-- instants of the running frame already written, oldest first (R150); none at reset -/
  running : List DWord := []
  /-- the listening path last started then: no earlier edge is a detection (R147) -/
  listenFrom : Nat := 0
  /-- the 200 newest frames of the two history banks, newest first (R150, R157); at reset zero -/
  frames : List HistFrame := []
  /-- side-channel markers, oldest first, at most 64 (Table 6.4); none at reset -/
  markers : List Marker := []
  /-- words of the stream buffer not yet read (R156); empty at reset -/
  stream : List Word := []
  /-- first instant of the next stream block -/
  nextBlock : Nat := 0
  /-- blocks were lost before the next one (R157) -/
  gap : Bool := false
  /-- E118 has been raised since a block was delivered without a gap (R157) -/
  overrunTold : Bool := false
  /-- LOST, instants lost in this opening, saturating 16 bits (R157) -/
  lost : Nat := 0
  /-- WAKES, 16 bits saturating; reset 0 -/
  wakes : Nat := 0
  deriving DecidableEq, Repr, Inhabited

/-- RUN of a chain (FLT_STATUS_GET). -/
inductive ChainRun where
  | stopped | zero | transient | settled | retired
  deriving DecidableEq, Repr, Inhabited

/-- One sample with its bits (R198). -/
structure Smp where
  /-- 32-bit two's complement value, full scale 2^31 -/
  v : Int := 0
  valid : Bool := false
  settled : Bool := false
  deriving DecidableEq, Repr, Inhabited

/-- State of one biquad section in direct form I (R175). -/
structure Section where
  x1 : Int := 0
  x2 : Int := 0
  y1 : Int := 0
  y2 : Int := 0
  deriving DecidableEq, Repr, Inhabited

/-- State of a coefficient bank (R179). -/
inductive BankState where
  | active | ready | loading | invalid
  deriving DecidableEq, Repr, Inhabited

/-- The pass-through image: NBQ 0, NFIR 0, SETTLE_ADD 0 and its CRC (R176, R178, R179). -/
def passImage : List Byte :=
  List.replicate 12 0 ++ leBytes 4 (crc32 (List.replicate 12 (0 : Byte))).toNat

/-- One coefficient bank. -/
structure Bank where
  st : BankState := .ready
  /-- the image as held; in LOADING the bytes staged so far (FLT_BANK_READ) -/
  image : List Byte := passImage
  /-- input samples run since the seal (R180, R181); reset 0 -/
  age : Nat := 0
  /-- filter state of the sections 0 to NBQ − 1 (R175, R179); at reset and at a seal zero -/
  secs : List Section := []
  /-- the newest inputs of the FIR, newest first, at most 255; at reset and at a seal zero -/
  fir : List Int := []
  deriving DecidableEq, Repr, Inhabited

/-- A cross-fade between the banks (R181, R182). -/
structure BankFade where
  /-- N -/
  n : Nat
  /-- mix point: forward k of the last sample, in a reversal k of the next one -/
  pos : Nat
  /-- the bank the fade started towards: true B -/
  goal : Bool
  /-- the mix point moves towards `goal`; false: reversal -/
  forward : Bool
  /-- mix point at the start of the fade or of its last reversal -/
  start : Nat
  /-- the command that waits, and the FLAGS and SWAP_TIME of its response -/
  cid : Option Nat
  flags : Nat
  swapTime : Nat
  /-- the command is FLT_BANK_SWAP (its response has a payload) -/
  isSwap : Bool
  deriving DecidableEq, Repr, Inhabited

/-- A swap that waits for its sample or time (R181). -/
structure SwapWait where
  /-- FADE_LEN; 0 HARD -/
  n : Nat
  /-- internal time the command named (R81), 0 none: the next sample -/
  at_ : Nat
  /-- the boundary had already passed (R81) -/
  late : Bool
  cid : Option Nat
  isSwap : Bool
  deriving DecidableEq, Repr, Inhabited

/-- A sense chain (Table 7.1): no trim filter. -/
def isSense (c : Nat) : Bool := decide (26 ≤ c ∧ c < 74)

/-- The sense-chain calibration of OTP in the page (R174). -/
def otpPage (c : Nat) : BitVec 64 :=
  if isSense c then
    let t := Config.otpTrim c
    BitVec.ofNat 64 ((t.2.toNat % 65536 + t.1.toNat % 65536 * 65536) * 2 ^ 32)
  else 0

/-- A phase-delay cross-fade (R171). -/
structure DelayFade where
  /-- samples of the fade that have run, of 64 -/
  pos : Nat
  /-- the DELAY_INT that fades out -/
  old : Nat
  cid : Option Nat
  deriving DecidableEq, Repr, Inhabited

/-- One filter chain (R162). -/
structure Chain where
  /-- page 0x0900 + c, 64 bits (Table 7.6): 0; calibration from OTP on sense chains -/
  page : BitVec 64 := 0
  /-- device time of the last synchronising reset while the chain runs; none stopped -/
  resetAt : Option Nat := none
  /-- output samples since that reset (R167); reset 0 -/
  count : Nat := 0
  /-- the newest samples of the delay line, newest first, at most 256 (R170); reset zero -/
  line : List Int := []
  /-- the last output sample (R167); reset zero with VALID low -/
  out : Smp := {}
  /-- GAIN_CAL and OFFSET_CAL in force, of the last carrier period (R174) -/
  cal : BitVec 32 := 0
  /-- last value of the fast sense path in full scales (R172); DESIGN CHOICE 0 -/
  coarse : Rat := 0
  /-- sum and number of the sense modulator's outputs in the running carrier period (R172); reset 0 -/
  coarseSum : Rat := 0
  coarseCount : Nat := 0
  /-- COARSE_VALID of that value; reset 0 -/
  coarseOk : Bool := false
  /-- the converter has run since the last carrier boundary; reset false -/
  whole : Bool := false
  /-- valid fast values since the last frame boundary (R172); reset 0 -/
  coarseN : Nat := 0
  /-- D' and S' of that reset (R167) -/
  dPrime : Nat := 0
  sPrime : Nat := 0
  /-- E199 has been raised since that reset (R167); reset false -/
  settled : Bool := false
  /-- the channel is retired (R186) -/
  retired : Bool := false
  /-- banks A and B (R179) -/
  bankA : Bank := { st := .active }
  bankB : Bank := {}
  /-- the ACTIVE bank: false A, true B; reset A -/
  active : Bool := false
  /-- swap waiting (R181) -/
  wait : Option SwapWait := none
  /-- fade running (R181) -/
  fade : Option BankFade := none
  /-- LATE, UNSETTLED, REVERSED of the last swap, bits 2-4 of FLAGS (FLT_STATUS_GET) -/
  lastFlags : Nat := 0
  /-- CLIP, 16 bits saturating, cleared by FLT_STATUS_GET (R175) -/
  clip : Nat := 0
  /-- a phase-delay cross-fade that runs (R171); none at reset -/
  delayFade : Option DelayFade := none
  /-- FLT_DELAY_SET held until the fade ends: DELAY and the command (R171) -/
  delayHeld : Option (Nat × Option Nat) := none
  /-- the newest samples at the rate conversion of an interpolator, newest first, at most 64 (R163); reset none -/
  conv : List Int := []
  /-- an APPLY of the chain page with fields that wait for their effect point (R185); none at reset -/
  late : Option Late := none
  deriving DecidableEq, Repr, Inhabited

/-- A FLT_CHAIN_SYNC that waits: chains left, WHEN (0 the next sample), LATE, the command (R166). -/
structure SyncJob where
  mask : Nat
  at_ : Nat
  late : Bool
  cid : Nat
  deriving DecidableEq, Repr, Inhabited

/-- Filter chains. -/
structure Flt where
  /-- chains 0-97 (Table 7.1) -/
  chains : Vector Chain 98 := Vector.ofFn (fun c => { page := otpPage c.val, cal := (otpPage c.val).extractLsb' 32 32 })
  /-- FLT_CHAIN_SYNC commands that wait -/
  syncs : List SyncJob := []
  deriving DecidableEq, Repr, Inhabited

end Sys2Proof.Machine
end

