-- ==== Sys2Proof/Machine/StateGraph.lean ====
section
/-! DEFINITION. The graph engine (chapter 10) and the hardware scheduler (chapter 11) as state. Default values are the
reset values. -/

namespace Sys2Proof.Machine

/-- A node of an image (Table 10.4) with its live parameter block. -/
structure GNode where
  /-- TYPE 0-17 (Table 10.5) -/
  type : Nat
  /-- PRIO 0-7 -/
  prio : Nat
  /-- NIN, NOUT -/
  nin : Nat
  nout : Nat
  /-- parameter block as it applies now (R257) -/
  param : List Byte
  /-- STATE_REGION, STATE_OFS, STATE_LEN -/
  region : Nat
  ofs : Nat
  stateLen : Nat
  deriving DecidableEq, Repr, Inhabited

/-- An edge (Table 10.6). -/
structure GEdge where
  fromNode : Nat
  fromPort : Nat
  toPort : Nat
  toNode : Nat
  region : Nat
  delayed : Bool
  ofs : Nat
  deriving DecidableEq, Repr, Inhabited

/-- A graph image (Table 10.3). -/
structure Image where
  /-- IMAGE_ID -/
  id : Nat
  /-- log2 F -/
  frame : Nat
  /-- FH_MASK -/
  fhMask : Nat
  /-- BANK_MASK -/
  banks : Nat
  /-- CRC of the header -/
  crc : Nat
  nodes : List GNode
  edges : List GEdge
  deriving DecidableEq, Repr, Inhabited

/-- Where a committed image stands (Table 10.8). -/
inductive CommitStep where
  /-- waits for the BANK_POWER grant -/
  | grant
  /-- prepared since `began` (step 3), waits for the boundary B -/
  | boundary
  /-- step 4b: the old graph has stopped, shared regions are zeroed and filled -/
  | fill
  /-- step 4b: filled, the new graph starts at the next boundary -/
  | start
  deriving DecidableEq, Repr, Inhabited

/-- A commit that waits (R255). -/
structure Commit where
  image : Image
  /-- earliest device time of B -/
  at_ : Nat
  /-- the boundary had passed (R81) -/
  late : Bool
  step : CommitStep
  /-- device time at which the running step began -/
  began : Nat
  cid : Option Nat
  /-- the 8 bytes of the response -/
  resp : List Byte
  deriving DecidableEq, Repr, Inhabited

/-- A parameter write that is held or waits for its boundary (R257). -/
structure ParamWrite where
  node : Nat
  ofs : Nat
  data : List Byte
  /-- HOLD and not yet released by a write without HOLD -/
  held : Bool
  cid : Option Nat
  /-- master whose command it is; none for a firmware service -/
  by_ : Option (Fin 4)
  deriving DecidableEq, Repr, Inhabited

/-- Level and peak of a METER channel in 0.01 dBFS (GRAPH_METER_READ). -/
structure MeterCh where
  level : Int := -32768
  peak : Int := -32768
  deriving DecidableEq, Repr, Inhabited

/-- One frame on an edge (R243): its FP32 samples, 1.0 being fabric full scale; none for the zeros of a first frame. -/
structure EdgeFrame where
  vals : List Rat := []
  valid : Bool := false
  settled : Bool := false
  deriving DecidableEq, Repr, Inhabited

/-- A linear change over `n` samples, `k` of them gone: the ramp of a gain, the cross-fade of a delay (R257). -/
structure Ramp where
  from_ : Rat
  to_ : Rat
  n : Nat
  k : Nat
  deriving DecidableEq, Repr, Inhabited

/-- What a SUPPLY_LIMIT node found of its supply in one frame (R325, R326): V_s, V_oc, I_B, I_meas and S_peak in mV and mA,
g_s squared, BUDGET_SHORT. -/
structure SupplyFrame where
  vs : Rat
  voc : Rat
  budget : Rat
  meas : Rat
  peak : Rat
  gs2 : Rat
  short : Bool
  deriving DecidableEq, Repr, Inhabited

/-- What a SPEAKER_MODEL port found in one frame: g_t, g_x and EXC (R319, R320). -/
structure PortFrame where
  gt : Rat
  gx : Rat
  exc : Nat
  deriving DecidableEq, Repr, Inhabited

/-- A node at work: its state in memory (Table 10.4), and its buffers' latest frames. -/
structure NodeRun where
  /-- bytes of its state region -/
  mem : List Byte := []
  /-- samples on their way through the node, newest first: of a DELAY, DYNAMICS or SUPPLY_LIMIT the inputs, of the node types
  with a latency of their own the outputs, of a SPEAKER_MODEL the inputs, the modelled currents in A and the excursions in
  mm, of a SUPPLY_LIMIT one more of the ports' supply current in mA (R248) -/
  lines : List (List Rat) := []
  /-- gains of a GAIN or MIX, delays of a DELAY (R257) -/
  ramps : List Ramp := []
  /-- predicted load currents that a SPEAKER_MODEL publishes for the samples of its output frame, in A, by port (R249, R321) -/
  pred : List (List Rat) := []
  /-- what a SPEAKER_MODEL found of its ports, a SUPPLY_LIMIT of its supply -/
  ports : List PortFrame := []
  supply : Option SupplyFrame := none
  /-- by channel of a METER what the frames of its window held, newest first: greatest square or mean square -/
  meter : List (List Rat) := []
  /-- frame number and output port of the non-finite values replaced with zero whose operation has not retired (R245) -/
  bad : List (Nat × Nat) := []
  /-- frames processed since its state was last reset (R243) -/
  done : Nat := 0
  /-- the frame written last to each output port (Table 10.6) -/
  outs : List EdgeFrame := []
  /-- internal time at which a TONE_GEN's tone began -/
  toneAt : Option Nat := none
  deriving DecidableEq, Repr, Inhabited

/-- One channel of a SINK's frame on its way to a graph output. -/
structure SinkFrame where
  node : Nat
  output : Nat
  smps : List Smp
  deriving DecidableEq, Repr, Inhabited

/-- The graph engine. -/
structure Graph where
  /-- image in force (R255); none at reset -/
  image : Option Image := none
  /-- number of the image in force, by which its tasks know it; MODEL, reset 0 -/
  gen : Nat := 0
  /-- the image before, while its last items retire (R259) -/
  oldImage : Option Image := none
  /-- where the numbering of the frames of the image before began (R242); reset 0 -/
  oldBase : Nat := 0
  /-- the last frame of the image before: the tick at which its presentation starts, and its number (R255); none -/
  oldCheck : Option (Nat × Nat) := none
  /-- commit waiting (R255); none at reset -/
  commit : Option Commit := none
  /-- ring bulk staging buffer, at most 262,144 bytes (R357); empty at reset -/
  ringStage : List Byte := []
  /-- pause causes (Table 10.2), 5 bits; reset 0 -/
  pause : Nat := 0
  /-- the pause is in effect, E217 raised; reset false -/
  paused : Bool := false
  /-- GRAPH_RUN commands that wait for the next frame boundary -/
  runs : List Nat := []
  /-- parameter writes held or waiting, in the order taken (R257); none at reset -/
  writes : List ParamWrite := []
  /-- late frames since the last read, 32 bits saturating (R244); reset 0 -/
  late : Nat := 0
  /-- levels of the METER channels: node, channel (GRAPH_METER_READ); none at reset -/
  meters : List (Nat × Nat × MeterCh) := []
  /-- for each node that raised E216, the device time before which it raises none (R245) -/
  faultQuiet : List (Nat × Nat) := []
  /-- shared banks powered, 32-bit mask; reset: the two spill banks (R282) -/
  banks : Nat := 0x30000000
  /-- device time of the last frame boundary taken; none at reset -/
  lastBoundary : Option Nat := none
  /-- sample-tick number at which Fh last came into force (R265); reset 0 -/
  fhSince : Nat := 0
  /-- SAMPLE while ASYN makes no tick (R86, R265), none while it does; reset 0 -/
  countHeld : Option Nat := some 0
  /-- number of the frame whose gathering began at the last boundary (R242); reset 0 -/
  frameNo : Nat := 0
  /-- sample-tick number at which the present numbering of frames began: a switch or a change of Fh (R242); reset 0 -/
  gridBase : Nat := 0
  /-- first frame gathered since the graph began to run or resumed (R246) -/
  runFrom : Nat := 0
  /-- frame from which no frame is gathered while paused, none while running (R246) -/
  runTo : Option Nat := none
  /-- E217 is owed at the next frame boundary: the cause that appeared first (R246); none at reset -/
  pauseTold : Option Nat := none
  /-- the graph output is muted while CSYN is not locked (Table 4.11); reset false -/
  muted : Bool := false
  /-- samples still to be presented at each graph output, next first (R242); none at reset -/
  play : List (Nat × List Smp) := []
  /-- the nodes of the image in force (R245, Table 10.6); none at reset -/
  nodes : List NodeRun := []
  /-- graph inputs gathered for the running frame, one row of 32 a sample, oldest first (R242); none at reset -/
  gather : List (List Smp) := []
  /-- the frame in its processing slot, presented from the next boundary (R242); none at reset -/
  ready : List SinkFrame := []
  /-- the last frame of the image before, presented from the tick in `oldCheck` (R255); none at reset -/
  oldReady : List SinkFrame := []
  /-- SINK nodes whose last frame was late: the next complete one is faded in (R244); none at reset -/
  lateSinks : List Nat := []
  /-- samples presented since the graph began to run or resumed (R246, Table 10.8); reset 0 -/
  rise : Nat := 0
  /-- nodes whose state is reset at the next frame boundary (R245); none at reset -/
  resets : List Nat := []
  /-- nodes and METER levels of the image named in `pwr.keptImage`, as they stood at the commit point (R390); none at
  reset -/
  keptNodes : List NodeRun := []
  keptMeters : List (Nat × Nat × MeterCh) := []
  deriving DecidableEq, Repr, Inhabited

/-- STATE of a task descriptor (Table 11.1). -/
inductive TaskState where
  | free | armed | cancelled | held
  deriving DecidableEq, Repr, Inhabited

/-- Flow kind (Table 11.1). -/
inductive FlowKind where
  | unordered | step | flight
  deriving DecidableEq, Repr, Inhabited

/-- A task descriptor (Table 11.1, R260). -/
structure Task where
  /-- STATE; FREE at reset -/
  st : TaskState := .free
  /-- FLOW -/
  flow : Nat := 0
  /-- flow kind -/
  kind : FlowKind := .unordered
  /-- ALL, CONSUME -/
  all : Bool := false
  consume : Bool := false
  /-- PRIO -/
  prio : Nat := 0
  /-- LAST_CORE, PINNED -/
  lastCore : Nat := 0
  pinned : Bool := false
  /-- FLAGS, 32 bits -/
  flags : Nat := 0
  /-- MASK, 32 bits, and the bits of it that the image gave -/
  mask : Nat := 0
  baseMask : Nat := 0
  /-- DEADLINE -/
  deadline : Nat := 0
  /-- GROUP -/
  group : Nat := 0
  /-- NODE and the image it belongs to -/
  node : Nat := 0xFFFF
  gen : Nat := 0
  /-- the channel of a step-per-channel task -/
  chan : Nat := 0
  /-- ITEMS -/
  items : Nat := 1
  /-- readinesses taken; frames made -/
  made : Nat := 0
  /-- items retired since the task was created -/
  ret : Nat := 0
  /-- frame numbers and stamps of the latest readinesses, newest first, at most 3 (R264, R276) -/
  frames : List Nat := []
  stamps : List Nat := []
  /-- RUNS, MISSES, RACES -/
  runs : Nat := 0
  misses : Nat := 0
  races : Nat := 0
  /-- device time before which E208 is not raised again (R276) -/
  quiet : Nat := 0
  /-- readinesses taken whose items are not yet made (R275) -/
  owed : Nat := 0
  deriving DecidableEq, Repr, Inhabited

/-- An item that waits (R258). -/
structure Item where
  task : Nat
  /-- its number in the flow, in the order made -/
  num : Nat
  /-- frame number -/
  frame : Nat
  /-- stamp at which it was made -/
  made : Nat
  /-- deadline stamp (R276) -/
  deadline : Option Nat
  prio : Nat
  /-- the list it waits in: its core -/
  core : Nat
  /-- AFFINITY as it stood when the item was placed, in 10 ns (R270, R282) -/
  affinity : Nat := 0
  deriving DecidableEq, Repr, Inhabited

/-- An operation in flight (R258, R270, R271). -/
structure Oper where
  item : Item
  core : Nat
  /-- execution and result writes have ended, held for release -/
  done : Bool := false
  /-- device time at which it began to execute -/
  began : Option Nat
  deriving DecidableEq, Repr, Inhabited

/-- A delay-list entry (R266, R267). -/
structure DelayEntry where
  /-- its slot, 0-255 -/
  slot : Nat
  task : Nat
  bit : Nat
  /-- sample-tick number or device time, as its list counts -/
  due : Nat
  period : Nat
  /-- first tick at which it may fire: the one after its insertion (R266) -/
  notBefore : Nat := 0
  deriving DecidableEq, Repr, Inhabited

/-- Page 0x0F00 at reset (Table 11.5). -/
def page0F00Reset : BitVec 128 := BitVec.ofNat 128 (28 * 2 ^ 16 + 2 * 2 ^ 8 + 50)

/-- The scheduler. -/
structure Sched where
  /-- page 0x0F00, 128 bits (Table 11.5): SPILL_BANK 28, SPILL_BANKS 2, AFFINITY 50 -/
  page0F00 : BitVec 128 := page0F00Reset
  /-- TICK fields of an APPLY that wait for their list's next tick (R282); none at reset -/
  late : Option Late := none
  /-- page 0x0F01, 2,048 bits (R283); reset 0 -/
  page0F01 : BitVec 2048 := 0
  /-- descriptors 0-1,023; FREE at reset -/
  tasks : Vector Task 1024 := Vector.replicate 1024 {}
  /-- on-chip ready store, at most 512 items, oldest first (R269, R273); empty at reset -/
  store : List Item := []
  /-- spill queues, oldest first (R273); empty at reset -/
  spill : List Item := []
  /-- operations in flight, oldest first (R258); none at reset -/
  ops : List Oper := []
  /-- delay lists 0-3, sorted by due (R265, R266); empty at reset -/
  delays : Vector (List DelayEntry) 4 := Vector.replicate 4 []
  /-- tasks in HELD, in the order they entered it (R275) -/
  heldOrder : List Nat := []
  /-- E210 has been raised since the area was last empty (R274); reset false -/
  spillTold : Bool := false
  /-- spill high-water mark in KiB (R274); reset 0 -/
  spillHigh : Nat := 0
  /-- the spill area was full and use has not fallen to half (R274); reset false -/
  spillFull : Bool := false
  /-- draining since a boundary (R280); reset false -/
  draining : Bool := false
  /-- E213 raised for the drain in progress; reset false -/
  drained : Bool := false
  /-- deadline misses since the last read, 32 bits saturating; reset 0 -/
  misses : Nat := 0
  /-- items taken from other lists since the last read, per core; reset 0 -/
  steals : Vector Nat 8 := Vector.replicate 8 0
  /-- load of each core in the last complete window, 0.1 % (R281); reset 0 -/
  load : Vector Nat 8 := Vector.replicate 8 0
  /-- waiting-time histograms of the 8 priorities, 16 bins of 32 bits (Table 11.4); reset 0 -/
  hist : Vector (Vector Nat 16) 8 := Vector.replicate 8 (Vector.replicate 16 0)
  /-- cycles of the running load window: in which each core executed, and all of them, in 1/24,576,000 (R281); reset 0 -/
  busy : Vector Nat 8 := Vector.replicate 8 0
  cycles : Nat := 0
  /-- end of the running load window (R281): a multiple of 24,576,000 tu -/
  windowEnd : Nat := 24576000
  deriving DecidableEq, Repr, Inhabited

end Sys2Proof.Machine
end

