-- ==== Sys2Proof/Machine/StatePower.lean ====
section
/-! DEFINITION. Performance levels, grants, sleep and wake (chapter 16), and boot, firmware images and identity
(chapter 18) as state. Default values are the reset values. -/

namespace Sys2Proof.Machine

/-- The work a grant lets begin (Table 16.4): what the part does when the grant is given. -/
inductive GrantFor where
  /-- 1 PL_RAISE: the level change in progress -/
  | plRaise
  /-- 2 SYNTH_RELOCK: lowering the level -/
  | plLower
  /-- 2 SYNTH_RELOCK: relock of ASYN after loss -/
  | relockAsyn
  /-- 2 SYNTH_RELOCK: relock of CSYN after loss -/
  | relockCsyn
  /-- 3 CP_START: charge-pump start -/
  | cpStart
  /-- 4 PSG_ENABLE: power-stage group -/
  | psgEnable (g : Fin 6)
  /-- 5 LOAD_CHAR: characterisation of one port -/
  | loadChar (port : Fin 24)
  /-- 6 SORREL_SWEEP: sweep of one channel -/
  | sorrel (ch : Fin 16)
  /-- 7 BANK_POWER: graph image commit -/
  | bankPower
  /-- 8 RING_TRAIN: ring link training of a port -/
  | ringTrain (port : Fin 2)
  /-- 9 FW_VERIFY: firmware image verification -/
  | fwVerify
  deriving DecidableEq, Repr, Inhabited

/-- A grant request, waiting or held (R384, R385). -/
structure Grant where
  /-- operation code 1-9 (Table 16.4) -/
  op : Nat
  /-- priority 0-7 (R383) -/
  prio : Nat
  /-- 0-3 the master whose command asks, 4 a firmware service -/
  requester : Nat
  /-- the work that begins at the grant -/
  work : GrantFor
  /-- the command that needs it, if one waits -/
  cid : Option Nat := none
  /-- device time of the request -/
  asked : Nat
  /-- end of the timeout window; none for priority 7 -/
  due : Option Nat
  /-- core cost in mW (Table 16.4) -/
  core : Nat
  /-- bulk cost in mA (Table 16.4) -/
  bulk : Nat := 0
  /-- ports the operation concerns, 24-bit mask (R384) -/
  ports : Nat := 0
  /-- E233 has been raised for this request (R384) -/
  warned : Bool := false
  /-- the operation has begun; a priority-7 grant is held before its operation begins in the same tu (R384) -/
  begun : Bool := false
  deriving DecidableEq, Repr, Inhabited

/-- Where a level change stands (Tables 16.2 and 16.3). -/
inductive LevelStep where
  /-- waiting for the grant -/
  | grant
  /-- raising: VSEL written, waiting for DVDD_OK and DVDD_SETTLE_US -/
  | settleUp
  /-- waiting for the next frame boundary, at which CSYN retargets -/
  | frame
  /-- CSYN retargeting, waiting for lock -/
  | lock
  /-- lowering: VSEL written after lock, waiting for DVDD_OK and DVDD_SETTLE_US -/
  | settleDown
  deriving DecidableEq, Repr, Inhabited

/-- A level change in progress (R379). -/
structure LevelChange where
  source : Nat
  /-- VSEL before the change -/
  vsel : Nat := 0
  target : Nat
  step : LevelStep
  /-- the PWR_LEVEL_SET that waits, none for a change of AUTO or the thermal policy -/
  cid : Option Nat
  /-- end of the 2 ms DVDD_OK wait, while one runs -/
  due : Nat := 0
  deriving DecidableEq, Repr, Inhabited

/-- A sleep entry in progress (Table 16.7). -/
structure SleepEntry where
  /-- 1 DOZE, 2 LISTEN, 3 RETAIN, 4 OFF -/
  target : Nat
  /-- step 1-8 of Table 16.7 that is running -/
  step : Nat
  /-- the PWR_SLEEP that waits, none for the idle timer -/
  cid : Option Nat
  /-- device time at which the running step began -/
  began : Nat
  /-- WAKE_AFTER_MS -/
  wakeAfter : Nat
  /-- drive ports that were started, starting or to start again, 24-bit mask (R395) -/
  ports : Nat := 0
  /-- groups that were on by their own right, 6-bit mask (R395) -/
  groups : Nat := 0
  /-- analog outputs 0-5 that were on, mask (R395) -/
  outs : Nat := 0
  /-- the ring announced its departure (R354) -/
  ringLeft : Bool := false
  /-- under RISE, PDM_CLK0 fell to 768 kHz (R159) -/
  clkFell : Bool := false
  deriving DecidableEq, Repr, Inhabited

/-- A sleep (Table 16.5). -/
structure Sleep where
  /-- 1 DOZE, 2 LISTEN, 3 RETAIN, 4 OFF -/
  target : Nat
  /-- device time of the commit point -/
  commit : Nat
  /-- end of the timed wake, if any -/
  wakeDue : Option Nat
  /-- step 8 of Table 16.7 has ended -/
  settled : Bool
  /-- 32.768 kHz ticks counted (R79) -/
  ticks : Nat := 0
  /-- the tick at which XT32 was found stopped (R79) -/
  rcFrom : Option Nat := none
  deriving DecidableEq, Repr, Inhabited

/-- A wake in progress (Table 16.8). -/
structure Wake where
  /-- step 1-6 of Table 16.8 that is running -/
  step : Nat
  /-- wake-source code (Table 16.9) -/
  source : Nat
  /-- state being left -/
  leaving : Nat
  /-- regulator: end of the 2 ms DVDD_OK wait; in step 3 the end of the 5 ms in which the crystal must be confirmed -/
  due : Nat := 0
  /-- regulator: end of the 1 ms wait with VSEL at 0b111 after a failure (R398) -/
  retryAt : Option Nat := none
  /-- attempts that failed (R398) -/
  retries : Nat := 0
  /-- the crystal was not confirmed within 5 ms of step 3 (R85) -/
  noXtal : Bool := false
  deriving DecidableEq, Repr, Inhabited

/-- Page 0x1400 at reset (Table 16.10). -/
def page1400Reset : BitVec 160 :=
  BitVec.ofNat 160
    ((4 * 2 ^ 25 + 7 * 2 ^ 22 + 7 * 2 ^ 16 + 2 ^ 15)
      + (600 * 2 ^ 16 + 20 * 2 ^ 8 + 2) * 2 ^ 32
      + (2400 * 2 ^ 16 + 110 * 2 ^ 8 + 135) * 2 ^ 96
      + 100 * 2 ^ 128)

/-- Page 0x1401 at reset: priorities and timeouts of Table 16.4. -/
def page1401Reset : BitVec 288 :=
  BitVec.ofNat 288 (leNat (([(4, 100), (6, 100), (5, 100), (5, 200), (3, 1000), (2, 5000), (4, 100), (3, 1000),
    (1, 10000)] : List (Nat × Nat)).flatMap (fun p => leBytes 4 (p.1 * 2 ^ 29 + p.2))))

/-- Levels, grants, sleep. -/
structure Power where
  /-- level in force, 0-4 (R377); reset 0 -/
  level : Nat := 0
  /-- VSEL[2:0], 3 bits (R377); reset 0b000 -/
  vsel : Nat := 0
  /-- DVDD_OK ball, 1 bit (R378); PRESUMED high after reset (the release from reset needs it, R437) -/
  dvddOk : Bool := true
  /-- the buffers of IOVDD_H and of IOVDD_D are set for 3.3 V, not 1.8 V, as sensed when the rail rose (R432); DESIGN CHOICE
  false -/
  ioH : Bool := false
  ioD : Bool := false
  /-- a supply fault holds every hall but HALL_AO off (R378); reset false -/
  supplyFault : Bool := false
  /-- page 0x1400, 160 bits (Table 16.10) -/
  page1400 : BitVec 160 := page1400Reset
  /-- page 0x1401, 288 bits (Table 16.11) -/
  page1401 : BitVec 288 := page1401Reset
  /-- POLICY, PL_FLOOR, PL_CEIL and THERM_CAP waiting for the next frame boundary: the whole page written (R399) and
  the command; none at reset -/
  waiting1400 : Option (Nat × Option Nat) := none
  /-- grant requests waiting, head first, at most 24 (R384); empty at reset -/
  queue : List Grant := []
  /-- grants held (R384); empty at reset -/
  held : List Grant := []
  /-- an evaluation point of the queue stands at this tu: a grant was released or a frame boundary passed (R384) -/
  evalPoint : Bool := false
  /-- level change in progress (R379); none at reset -/
  change : Option LevelChange := none
  /-- a request taken after step 2 of a change: level and command (R380); none at reset -/
  next : Option (Nat × Option Nat) := none
  /-- thermal warning holds (R382); reset false -/
  warn : Bool := false
  /-- thermal shut-down holds (R382); reset false -/
  shut : Bool := false
  /-- consecutive load windows with every core below 50 % (R381); reset 0 -/
  lightWindows : Nat := 0
  /-- stamp of the last activity (R391); reset 0 -/
  lastActivity : Nat := 0
  /-- sleep entry in progress (R394); none at reset -/
  entry : Option SleepEntry := none
  /-- a wake source stamped at or before the commit point (R395); none at reset -/
  abortBy : Option Nat := none
  /-- the sleep the part is in (R387); none at reset -/
  asleep : Option Sleep := none
  /-- the wake in progress (R397); none at reset -/
  wake : Option Wake := none
  /-- LAST_WAKE, 16 bits (PWR_STATUS_GET); DESIGN CHOICE 0 -/
  lastWake : Nat := 0
  /-- LAST_STATE 0-4 (PWR_STATUS_GET); reset 0 none -/
  lastState : Nat := 0
  /-- LAST_ENTRY 0-2 (PWR_STATUS_GET); DESIGN CHOICE 0 -/
  lastEntry : Nat := 0
  /-- SLEEPS, saturating 16 bits; reset 0 -/
  sleeps : Nat := 0
  /-- ABORTS, saturating 16 bits; reset 0 -/
  aborts : Nat := 0
  /-- DVDD_RETRIES, 16 bits (R398); DESIGN CHOICE 0 -/
  dvddRetries : Nat := 0
  /-- RESET_CAUSE 0-4; 0 after power-on -/
  resetCause : Nat := 0
  /-- KEPT, banks kept at the last entry; DESIGN CHOICE 0 -/
  kept : Nat := 0
  /-- SLEPT_MS, 32 bits; DESIGN CHOICE 0 -/
  sleptMs : Nat := 0
  /-- IMAGE_ID and CRC of the graph image in force at the last commit point of LISTEN or RETAIN and the banks kept
  (R390); none at reset -/
  keptImage : Option (Nat × Nat × Nat) := none
  /-- GPIO0 level comparator in OFF: consecutive ticks the wake level has held (R387); reset 0 -/
  offLevelTicks : Nat := 0
  deriving DecidableEq, Repr, Inhabited

/-- A running installation of a firmware image (Table 18.5). -/
structure Install where
  /-- 1 waiting for the grant, 2 checking, 3 erasing, programming and reading back -/
  step : Nat
  /-- the BOOT_IMAGE_COMMIT that waits -/
  cid : Option Nat
  /-- 0 check only, 1 check and install -/
  action : Nat
  /-- 0 mailbox staging, 1 ring bulk staging, 2 flash -/
  source : Nat
  /-- the image -/
  image : List Byte
  /-- TOTAL of the commit -/
  total : Nat
  /-- slot being written, 0 A, 1 B -/
  slot : Nat := 0
  deriving DecidableEq, Repr, Inhabited

/-- What the part's reset and boot machinery is doing. -/
inductive Life where
  /-- held in power-on reset, below the thresholds (R437) -/
  | off
  /-- both rails above 1.50 V, waiting for the release (R437) -/
  | rising
  /-- RESET_N held low (R449) -/
  | resetLow
  /-- the boot ROM runs (R414) -/
  | rom
  /-- the firmware runs -/
  | firmware
  /-- the firmware restarts (R415) -/
  | restarting
  deriving DecidableEq, Repr, Inhabited

/-- Boot, slots and identity. -/
structure Boot where
  /-- reset and boot state; after reset the boot ROM runs (R413) -/
  life : Life := .rom
  /-- internal time of step 1 of the boot (Table 18.2); reset 0 -/
  began : Nat := 0
  /-- PP_STATUS.READY, 1 bit (Table 2.7); reset 0 -/
  ready : Bool := false
  /-- PP_STATUS.BOOTED, 1 bit (Table 2.7); reset 0 -/
  booted : Bool := false
  /-- levels of the balls BOOTSEL0-2, 3 bits; DESIGN CHOICE 0 (the outside world's) -/
  bootselPins : Nat := 0
  /-- sampled BOOTSEL, 3 bits (R413); DESIGN CHOICE 0 -/
  bootsel : Nat := 0
  /-- levels of ADDR1 and ADDR0 sampled when RESET_N rises, 2 bits (R32); DESIGN CHOICE 0 -/
  addrPins : Nat := 0
  /-- PHASE 0-3 (BOOT_STATUS_GET); reset 1 loading for a flash boot -/
  phase : Nat := 1
  /-- SOURCE 0-4 (BOOT_STATUS_GET); DESIGN CHOICE 0 -/
  source : Nat := 0
  /-- REASON of the last check failure (Table 18.4); reset 0 -/
  reason : Nat := 0
  /-- ROLLBACK of the running image, 0-64; reset 0 -/
  imgLevel : Nat := 0
  /-- FW_VERSION of the running image, 24 bits (Table 2.6); reset 0 -/
  fwVersion : Nat := 0
  /-- anti-rollback counter, 0-64, one-time programmable (R419); DESIGN CHOICE 0 -/
  otpLevel : Nat := 0
  /-- contents of the serial flash on the memory port: address and byte, rising, unlisted bytes erased 0xFF (R420);
  DESIGN CHOICE empty -/
  flash : List Host.Cell := []
  /-- running installation (Table 18.5); none at reset -/
  install : Option Install := none
  /-- PROGRESS, bytes programmed (BOOT_STATUS_GET); reset 0 -/
  progress : Nat := 0
  /-- BOOT_CONFIRM commands that wait for the slot record (R420); none at reset -/
  confirm : List Nat := []
  /-- BOOT_ROLLBACK_ADVANCE commands that wait for the OTP bits (R419); none at reset -/
  advance : List Nat := []
  /-- page 0x1600, 32 bits (Table 18.6); EN 0 (1 after a flash boot), OCTAL 0, CLK_DIV 12 -/
  page1600 : BitVec 32 := 12
  /-- page 0x1600 applied while a flash access runs, carried out when it ends: value and command (R424); none -/
  waiting1600 : Option (Nat × Option Nat) := none
  /-- COUNT of attestations since reset, 32 bits (R427); reset 0 -/
  attestCount : Nat := 0
  /-- running attestation: the command and the challenge (R427); none at reset -/
  attest : Option (Nat × List Byte) := none
  /-- the image a host or ring load has passed, to be started (R416, R417); none at reset -/
  loaded : Option (List Byte) := none
  deriving DecidableEq, Repr, Inhabited

end Sys2Proof.Machine
end

