-- ==== Sys2Proof/Machine/StateRing.lean ====
section
/-! DEFINITION. The Gallery ring (chapter 14) and the housekeeping converter (chapter 15) as state. Default values are
the reset values. -/

namespace Sys2Proof.Machine

/-- Link state (RING_STATUS_GET LINK_A, LINK_B). -/
inductive LinkState where
  | disabled | noSignal | training | up | loopedBack | retired | familyMismatch | peerLeft
  deriving DecidableEq, Repr, Inhabited

/-- ROLE (RING_STATUS_GET). -/
inductive RingRole where
  | off | member | head | successor | alone
  deriving DecidableEq, Repr, Inhabited

/-- One ring port. -/
structure RingPort where
  /-- link state; disabled at reset -/
  st : LinkState := .disabled
  /-- the link has been up since reset (R350); reset false -/
  been : Bool := false
  /-- end of the 10 ms a training may take, once its grant is given; none while none runs -/
  trainDue : Option Nat := none
  /-- a training grant is asked for -/
  asked : Bool := false
  /-- signal is present on RX -/
  signal : Bool := false
  /-- the RING_LINK_TRAIN commands that wait -/
  cids : List Nat := []
  /-- the supervisor holds off training until its backoff ends -/
  backoff : Bool := false
  /-- next look for signal (R350) -/
  pollAt : Nat := 0
  /-- UID of the last neighbour (R344), always-on memory; none at reset -/
  uid : Option (BitVec 128) := none
  /-- its address -/
  addr : Nat := 0
  /-- one-way delay measured at the last training, in 1/64 modulator periods (R345); reset 0 -/
  delay : Nat := 0
  /-- CHANGED: the last training raised E164 -/
  changed : Bool := false
  /-- the neighbour announced its departure: the period from which the link idles (R354) -/
  leaving : Option Nat := none
  /-- that departure is an entry into DOZE, whose link stays trained -/
  dozed : Bool := false
  /-- this part has announced that it disables the port: AT_PERIOD, from which the link idles (R354) -/
  dropAt : Option Nat := none
  deriving DecidableEq, Repr, Inhabited

/-- A binding of the ring slot map (Table 14.3). -/
structure RingBind where
  out : Bool
  point : Nat
  wide : Bool
  slot : Nat
  deriving DecidableEq, Repr, Inhabited

/-- A sample of a ring input that has arrived and waits for its presentation instant (R348). -/
structure RingSmp where
  /-- internal time of its tick -/
  at_ : Nat
  v : Int
  valid : Bool
  deriving DecidableEq, Repr, Inhabited

/-- What this part writes into the audio slots of the period of one base tick (R348). -/
structure RingCapture where
  /-- internal time of the base tick -/
  at_ : Nat
  /-- slots with their words and VALID bits -/
  slots : List (Nat × BitVec 32 × Bool)
  deriving DecidableEq, Repr, Inhabited

/-- A ring input: the samples that wait, and concealment (R348). -/
structure Conceal where
  /-- gain × samples of CONCEAL ring periods, from all of them (1) down to 0; none while nothing is missing -/
  gain : Option Nat := none
  /-- ring periods whose sample was missing, 16 bits saturating -/
  missed : Nat := 0
  /-- samples that wait, oldest first -/
  queue : List RingSmp := []
  /-- the last sample received; none before the first -/
  last : Option Int := none
  /-- what the input presents -/
  out : Smp := {}
  /-- base tick of the sample last found missing, and the instant at which it was -/
  missTick : Option Nat := none
  missAt : Option Nat := none
  deriving DecidableEq, Repr, Inhabited

/-- A control message waiting to be inserted (Table 14.6). -/
structure RingMsg where
  dest : Nat
  type : Nat
  seq : Nat
  payload : List Byte
  deriving DecidableEq, Repr, Inhabited

/-- RING_PP_ACCESS that waits (R355). -/
structure PpAccess where
  dest : Nat
  seq : Nat
  op : Nat
  count : Nat
  due : Nat
  cid : Option Nat
  deriving DecidableEq, Repr, Inhabited

/-- A bulk transfer being sent (R357). -/
structure BulkSend where
  dest : Nat
  kind : Nat
  len : Nat
  /-- accepted by the receiver -/
  accepted : Bool := false
  /-- bytes sent and bytes acknowledged -/
  sent : Nat := 0
  acked : Nat := 0
  /-- end of the 100 ms wait for an acknowledgement -/
  due : Nat
  cid : Option Nat
  deriving DecidableEq, Repr, Inhabited

/-- A bulk transfer being received. -/
structure BulkRecv where
  src : Nat
  kind : Nat
  len : Nat
  dcrc : Nat
  written : Nat := 0
  deriving DecidableEq, Repr, Inhabited

/-- Page 0x1200 at reset (Table 14.8). -/
def page1200Reset : BitVec 96 := BitVec.ofNat 96 (2 ^ 28 + (250 * 2 ^ 16 + 48 * 2 ^ 8) * 2 ^ 32)

/-- The ring. -/
structure Ring where
  /-- page 0x1200, 96 bits (Table 14.8): FAULT_EN 1, PRES_US 250, CONCEAL 48 -/
  page : BitVec 96 := page1200Reset
  /-- fields of page 0x1200 that wait for their effect point (R54, R358); none at reset -/
  late : Option Late := none
  /-- HEAD_PRIO and FIXED_ADDR in force since the last training (R358); reset 0 -/
  headPrio : Nat := 0
  fixedAddr : Nat := 0
  /-- ROLE; off at reset -/
  role : RingRole := .off
  /-- GALA and GALB -/
  ports : Vector RingPort 2 := Vector.replicate 2 {}
  /-- own address, 0 none; reset 0 -/
  addr : Nat := 0
  /-- ADDR_CONFLICT -/
  conflict : Bool := false
  /-- head address and hops on the present path; reset 0 -/
  headAddr : Nat := 0
  hops : Nat := 0
  /-- FOLDED, open chain, and the FOLD_ADDR last announced; reset false -/
  folded : Bool := false
  openChain : Bool := false
  foldAddr : Nat := 0
  /-- UNFOLD_DUE with UNFOLD_AT (R353); none -/
  unfoldAt : Option Nat := none
  /-- PERIOD last received or sent, 32 bits; reset 0 -/
  period : Nat := 0
  /-- DELAY_ACC, 32 bits; reset 0 -/
  delayAcc : Nat := 0
  /-- presentation delay in force in tu; reset PRES_US 250 -/
  presTu : Nat := 6144
  /-- a change of the presentation delay announced by the head: boundary and new delay (R349) -/
  presChange : Option (Nat × Nat) := none
  /-- a change at work: begin of its fades and new delay (R349); none at reset -/
  presFade : Option (Nat × Nat) := none
  /-- device time at which the last valid timing field came (R342) -/
  lastTiming : Nat := 0
  /-- the member stands for head (R342); end of the arbitration -/
  standing : Option Nat := none
  /-- a better arbitration message has been received -/
  beaten : Bool := false
  /-- missing samples and failed checks since the last read, 16 bits saturating; reset 0 -/
  misses : Nat := 0
  crcErrs : Nat := 0
  /-- the recovered ring clock is lost and E169 raised (R346) -/
  clockLost : Bool := false
  /-- slot map in force and a new one, from the next ring period boundary (R347); none at reset -/
  map : List RingBind := []
  newMap : Option (List RingBind) := none
  /-- the SYS_TABLE_COMMIT that waits for it -/
  mapCid : Option Nat := none
  /-- ring inputs 0-31 -/
  conceal : Vector Conceal 32 := Vector.replicate 32 {}
  /-- samples of the bound outputs, newest base tick first; none at reset -/
  capture : List RingCapture := []
  /-- internal time of the base tick whose period was last sent on; none at reset -/
  sentAt : Option Nat := none
  /-- ring address from which the last command of M3 came (R74); reset 0, none -/
  ownerAddr : Nat := 0
  /-- control messages to send, oldest first -/
  out : List RingMsg := []
  /-- next SEQ -/
  seq : Nat := 0
  /-- accesses that wait for their reply -/
  access : List PpAccess := []
  /-- transfer being sent, transfer being received -/
  send : Option BulkSend := none
  recv : Option BulkRecv := none
  /-- the ring bulk staging buffer is being taken by a commit -/
  recvLock : Bool := false
  /-- the links were left idle by DOZE and rejoin on wake (R354) -/
  left : Bool := false
  /-- a sleep entry has announced the departure: its AT_PERIOD (R354); none at reset -/
  leaveAt : Option Nat := none
  deriving DecidableEq, Repr, Inhabited

/-- Page 0x1300 at reset (Table 15.3). -/
def page1300Reset : BitVec 256 :=
  BitVec.ofNat 256 (leNat (
    leBytes 4 (2 ^ 31 + 8 * 2 ^ 24 + 2 ^ 16) ++ leBytes 4 245760 ++ leBytes 4 (1250 * 2 ^ 16 + 10 * 2 ^ 8)
      ++ (List.range 16).flatMap (fun k => leBytes 1 (64 + if k < 8 then 16 + k else 0))
      ++ leBytes 4 (115 * 2 ^ 24 + 5 * 2 ^ 16)))

/-- Page 0x1301 at reset (Table 15.4). -/
def page1301Reset : BitVec 128 :=
  BitVec.ofNat 128 (leNat ((List.range 4).flatMap (fun _ => leBytes 4 (3 * 2 ^ 28 + 2 ^ 24))))

/-- Dividers of the internal channels 16-23 (Table 15.1); die sensors have none. -/
def hkDivider (c : Nat) : Nat := if c = 18 ∨ c = 21 then 4 else if c = 19 ∨ c = 22 ∨ c = 23 then 2 else 1

/-- Page 0x1302 at reset (Table 15.5). -/
def page1302Reset : BitVec 1536 :=
  BitVec.ofNat 1536 (leNat ((List.range 24).flatMap (fun c =>
    leBytes 4 (4095 * 2 ^ 20) ++ leBytes 4 (100 * (if c < 16 then 1 else hkDivider c) * 2 ^ 16))))

/-- Window state (R371). -/
inductive HkWin where
  | inside | above | below
  deriving DecidableEq, Repr, Inhabited

/-- One housekeeping channel (R370 to R374). -/
structure HkCh where
  /-- calibrated code, 12 bits; DESIGN CHOICE 0 -/
  code : Nat := 0
  /-- VALUE (R360); DESIGN CHOICE 0 -/
  value : Int := 0
  /-- stamp of the result -/
  stamp : Nat := 0
  /-- NEW; reset false -/
  new : Bool := false
  /-- window state; reset INSIDE -/
  win : HkWin := .inside
  /-- outside its alarm range (R372), or above TEMP_HI (R373); reset false -/
  alarm : Bool := false
  /-- consecutive results 0, and consecutive results 4,095 (R374); reset 0 -/
  zeros : Nat := 0
  fulls : Nat := 0
  /-- results of the running frame and the sum of their VALUE (R319, R325); reset 0 -/
  frameN : Nat := 0
  frameSum : Int := 0
  deriving DecidableEq, Repr, Inhabited

/-- What converts now. -/
inductive HkRun where
  /-- entry k of the regular sequence -/
  | regular (entry : Nat)
  /-- injected slot s -/
  | injected (slot : Nat)
  /-- calibration, with its end -/
  | calibrating (due : Nat)
  deriving DecidableEq, Repr, Inhabited

/-- The converter. -/
structure Hk where
  /-- page 0x1300, 256 bits (Table 15.3) -/
  page1300 : BitVec 256 := page1300Reset
  /-- page 0x1301, 128 bits (Table 15.4) -/
  page1301 : BitVec 128 := page1301Reset
  /-- page 0x1302, 1,536 bits (Table 15.5) -/
  page1302 : BitVec 1536 := page1302Reset
  /-- a page 0x1300 applied, whose sequence and trigger fields take effect at the end of the pass (R366) -/
  next1300 : Option Nat := none
  /-- slots whose new configuration takes effect once they are neither pending nor converting (R376) -/
  next1301 : Vector (Option Nat) 4 := Vector.replicate 4 none
  /-- a change of REF waits until no conversion runs (R361) -/
  nextRef : Option Nat := none
  /-- APPLYs that wait for the sequence, for REF, for the slots -/
  seqCids : List Nat := []
  refCids : List Nat := []
  slotCids : List Nat := []
  /-- REF_SETTLED of internal, HK_REF, AVDD18; reset low -/
  settled : Vector Bool 3 := Vector.replicate 3 false
  /-- when the selected reference was selected, and when HALL_ANA powered up (R361); reset 0 -/
  refSince : Nat := 0
  anaSince : Nat := 0
  /-- REF_BAD; reset false -/
  refBad : Bool := false
  /-- what converts now; nothing at reset -/
  run : Option HkRun := none
  /-- start and end of the running conversion -/
  began : Nat := 0
  due : Nat := 0
  /-- a pass is running; the next entry to convert -/
  pass : Bool := false
  entry : Nat := 0
  /-- entries converted in the running pass -/
  done : Nat := 0
  /-- an entry was aborted and restarts (R367) -/
  aborted : Bool := false
  /-- a trigger is pending (R365) -/
  trig : Bool := false
  /-- injected slots pending, 4-bit mask -/
  inj : Nat := 0
  /-- HK_CALIBRATE waits for the running conversion: its command -/
  calWait : Option (Option Nat) := none
  /-- the calibration was DEFERRED (R369) -/
  calDeferred : Bool := false
  /-- the command the running calibration completes -/
  calCid : Option Nat := none
  /-- OVERRUN, REFUSED 16 bits, ABORTS 32 bits, saturating; reset 0 -/
  overrun : Nat := 0
  refused : Nat := 0
  aborts : Nat := 0
  /-- INJ_OVR of the slots, 8 bits saturating; reset 0 -/
  injOvr : Vector Nat 4 := Vector.replicate 4 0
  /-- CAL_OFFSET and CAL_GAIN of each reference once calibrated; OTP values before (R369) -/
  cals : Vector (Option (Int × Int)) 3 := Vector.replicate 3 none
  /-- channels 0-23 -/
  chans : Vector HkCh 24 := Vector.replicate 24 {}
  /-- the 3.3 V range of IOVDD_D, set by the first result of channel 21 (Table 15.1); none at reset -/
  iovdd33 : Option Bool := none
  /-- the converter is gated (DOZE) -/
  gated : Bool := false
  deriving DecidableEq, Repr, Inhabited

end Sys2Proof.Machine
end

