-- ==== Sys2Proof/Machine/StateRoute.lean ====
section
/-! DEFINITION. The routing fabric, landings, silence detectors, direct lanes (chapter 08), TDM and S/PDIF ports
(chapter 09) as state. Default values are the reset values. -/

namespace Sys2Proof.Machine

/-- A route change that waits for its frame boundary (R207). -/
structure RouteWait where
  /-- new source point, none for "no source" -/
  src : Option Nat
  /-- new gain -/
  gain : Int
  /-- fade in samples at Fh -/
  fade : Nat
  /-- device time after which the boundary must fall -/
  asked : Nat
  cid : Option Nat
  deriving DecidableEq, Repr, Inhabited

/-- A route fade that runs (R207). -/
structure RouteFade where
  /-- its length in samples at Fh -/
  n : Nat
  /-- device time of the boundary sample -/
  began : Nat
  /-- source and gain that fade out -/
  oldSrc : Option Nat
  oldGain : Int
  cid : Option Nat
  /-- samples of the fade that have run -/
  pos : Nat := 0
  deriving DecidableEq, Repr, Inhabited

/-- One route target (Table 8.5). -/
structure Target where
  /-- source point, none at reset (R199) -/
  src : Option Nat := none
  /-- saturated samples since the last read, 16 bits saturating (R198); reset 0 -/
  clip : Nat := 0
  /-- change waiting; none at reset -/
  wait : Option RouteWait := none
  /-- fade running; none at reset -/
  fade : Option RouteFade := none
  deriving DecidableEq, Repr, Inhabited

/-- A basic gain change that waits or ramps (R203 to R205, R214). -/
structure GainJob where
  /-- gain index 0-1,279 (Table 8.5); 1,280 + j for direct lane j -/
  index : Nat
  /-- gain asked for -/
  goal : Int
  /-- end of the zero-crossing timeout -/
  due : Nat
  /-- a ramp runs: its start and the gain it left in 0.05 dB, none mute -/
  ramp : Option (Nat × Option Rat) := none
  cid : Option Nat
  deriving DecidableEq, Repr, Inhabited

/-- The samples that entered a landing at one instant, one for each channel (R193). -/
structure LandIn where
  at_ : Nat
  smps : List Smp
  deriving DecidableEq, Repr, Inhabited

/-- State of a landing (ROUTE_LANDING_GET). -/
inductive LandState where
  | off | acquiring | locked
  deriving DecidableEq, Repr, Inhabited

/-- One landing (R190 to R195). -/
structure Landing where
  /-- page 0x0A01 + k, 96 bits (Table 8.11); reset 0 -/
  page : BitVec 96 := 0
  /-- off at reset -/
  st : LandState := .off
  /-- deviation of the ratio from nominal in 0.001 ppm, signed (ROUTE_LANDING_GET); reset 0 -/
  ppm : Int := 0
  /-- the deviation at lock or at the last E196 (R194); reset 0 -/
  mark : Int := 0
  /-- tu at which the ratio was last taken, and whether it then drifted by more than 500 ppm per second (R193); reset 0 -/
  ppmAt : Nat := 0
  drifts : Bool := false
  /-- locks since reset, 16 bits saturating; reset 0 -/
  locks : Nat := 0
  /-- a ROUTE_LANDING_SET that waits for the lock: the command and the end of its 100 ms -/
  cid : Option (Nat × Nat) := none
  /-- samples the outputs have risen since the lock, of 256 (Table 8.2) -/
  rise : Nat := 0
  /-- samples the outputs still fall, of 32, and the level they fell from, of 256 (R194); reset 0 -/
  fall : Nat := 0
  fallFrom : Nat := 0
  /-- the points that fall: direction and channels before the change (R195) -/
  fallOut : Bool := false
  fallChans : List Nat := []
  /-- the input and output rate of the fall in Hz -/
  fallHz : Nat × Nat := (0, 0)
  /-- what has entered, newest first, at most 400 instants (R193); reset none -/
  ins : List LandIn := []
  deriving DecidableEq, Repr, Inhabited

/-- One silence detector (R210, R211). -/
structure Silence where
  /-- THRESH in dBFS, −120 to −40; reset −90 -/
  thresh : Int := -90
  /-- HOLD in s, 1 to 1,800; reset 10 -/
  hold : Nat := 10
  /-- IDLE; reset false -/
  idle : Bool := false
  /-- SILENT; reset false -/
  silent : Bool := false
  /-- no window opened before this internal time counts: reset, a new setting or a wake (R210); reset 0 -/
  since : Nat := 0
  /-- the first quiet sample after one that was not quiet, while every sample since is quiet (R210); reset none -/
  quietAt : Option Nat := none
  deriving DecidableEq, Repr, Inhabited

/-- What a direct lane does (R215). -/
inductive LaneState where
  | stopped | running | muted | fault
  deriving DecidableEq, Repr, Inhabited

/-- The ramp of a lane (R214, R215). -/
inductive LaneRamp where
  /-- the gain rises from zero -/
  | start
  /-- the gain falls to zero; `again`: the lane starts again with its new ends -/
  | stop (again : Bool)
  | mute
  | unmute
  deriving DecidableEq, Repr, Inhabited

/-- One direct lane (R212 to R215). -/
structure Lane where
  /-- state of E205; reset stopped -/
  st : LaneState := .stopped
  /-- a 1 ms ramp and its end; none at reset -/
  ramp : Option (LaneRamp × Nat) := none
  /-- SRC and SNK with which the lane runs -/
  src : Nat := 0
  snk : Nat := 0
  /-- gain in force, R199 encoding; reset 0 -/
  gain : Int := 0
  /-- an end was retired: stays stopped until reconfigured -/
  barred : Bool := false
  /-- the lane runs through a change of Fh while its sink is held or stopped (R216); reset false -/
  kept : Bool := false
  /-- the ROUTE_LANE_SET that waits -/
  cid : Option Nat := none
  /-- the signal the lane adds at its sink, at its last instant at Fi (R212); reset 0 -/
  sig : Int := 0
  /-- the level a ramp began at, and the level it goes to or that holds, in parts of 24,576 (R214, R215); reset 0 -/
  levelFrom : Nat := 0
  levelTo : Nat := 0
  /-- the lane's last input sample was negative (R203, R214); reset false -/
  neg : Bool := false
  deriving DecidableEq, Repr, Inhabited

/-- A change of Fh (Table 8.8). -/
structure FhChange where
  /-- new FH code -/
  target : Nat
  /-- 1 waiting for the frame boundary, 3 resets done, waiting for step 4, 4 the graph resumes at the next boundary -/
  step : Nat
  cid : Option Nat
  deriving DecidableEq, Repr, Inhabited

/-- Page 0x0A00 at reset (Table 8.10). -/
def page0A00Reset : BitVec 32 := BitVec.ofNat 32 (2 ^ 24 + 8 * 2 ^ 16 + 64)

/-- Source and sink points that are Home at Fh at reset (Table 8.1): every point but those of TDM and the ring. -/
def homeSrcReset : BitVec 256 := BitVec.ofNat 256 ((2 ^ 68 - 1) + (2 ^ 120 - 1) * 2 ^ 136)
def homeSnkReset : BitVec 128 := BitVec.ofNat 128 ((2 ^ 30 - 1) + 3 * 2 ^ 62 + (2 ^ 32 - 1) * 2 ^ 96)

/-- Fabric, mixers, landings, silence detectors, lanes. -/
structure Fabric where
  /-- page 0x0A00, 32 bits (Table 8.10): FH 1, ZC_TIMEOUT_MS 8, FADE 64 -/
  page0A00 : BitVec 32 := page0A00Reset
  /-- page 0x0A10, 512 bits (Table 8.12); reset 0 -/
  page0A10 : BitVec 512 := 0
  /-- route targets 0-1,151 (Table 8.5) -/
  targets : Vector Target 1152 := Vector.replicate 1152 {}
  /-- gains 0-1,279 in 0.05 dB, −32,768 mute (R199): crosspoints and trims 0, mixer inputs mute -/
  gains : Vector Int 1280 := Vector.ofFn (fun i => if 128 ≤ i.val ∧ i.val < 1152 then -32768 else 0)
  /-- basic gain changes that wait or ramp, at most one for each index; none at reset -/
  gainJobs : List GainJob := []
  /-- saturated mixer samples since the last GAIN_GET, 32 bits saturating (R202); reset 0 -/
  mixerClips : Nat := 0
  /-- for each mixer the device time before which E204 is not raised again (R202); reset 0 -/
  clipQuiet : Vector Nat 64 := Vector.replicate 64 0
  /-- landings L0-L3 -/
  lands : Vector Landing 4 := Vector.replicate 4 {}
  /-- silence detectors of source points 0-255 -/
  silence : Vector Silence 256 := Vector.replicate 256 {}
  /-- direct lanes 0-7 -/
  lanes : Vector Lane 8 := Vector.replicate 8 {}
  /-- change of Fh that runs; none at reset -/
  fhChange : Option FhChange := none
  /-- sample of each source point at the fabric's entry (R196, R217); reset zero with VALID low -/
  src : Vector Smp 256 := Vector.replicate 256 {}
  /-- sample of each sink point at the fabric's exit (R198, R217); reset zero with VALID low -/
  snk : Vector Smp 128 := Vector.replicate 128 {}
  /-- source and sink points that connect directly, since the last frame boundary (R189) -/
  homeSrc : BitVec 256 := homeSrcReset
  homeSnk : BitVec 128 := homeSnkReset
  /-- mixers that have saturated since their last E204 (R202); reset 0 -/
  mixClip : BitVec 64 := 0
  /-- gains 0-1,279 whose input's last sample was negative (R203); reset 0 -/
  inNeg : BitVec 1280 := 0
  deriving DecidableEq, Repr, Inhabited

/-- One format entry (Table 9.2). -/
structure TdmFormat where
  framing : Nat
  slots : Nat
  slotBits : Nat
  dataBits : Nat
  rate : Nat
  flags : Nat
  width : Nat
  deriving DecidableEq, Repr, Inhabited

/-- One slot-map entry (Table 9.3). -/
structure TdmBind where
  /-- DIR: true output -/
  out : Bool
  /-- bits 4:0 of POINT -/
  point : Nat
  port : Nat
  slot : Nat
  deriving DecidableEq, Repr, Inhabited

/-- STATE of a TDM port (TDM_STATUS_GET). -/
inductive TdmState where
  | off | acquiring | running | lost | retired | held
  deriving DecidableEq, Repr, Inhabited

/-- One TDM port (R218 to R229). -/
structure TdmPort where
  /-- page 0x0C00 + n, 32 bits (Table 9.5): FAULT_EN 1 -/
  page : BitVec 32 := 0x10000000
  /-- STATE; reset off -/
  st : TdmState := .off
  /-- format table in force, 1 to 8 entries (R221); none loaded at reset -/
  formats : List TdmFormat := []
  /-- a committed table that takes effect at the end of the frame (R222) -/
  newFormats : Option (List TdmFormat) := none
  /-- the SYS_TABLE_COMMIT that waits for it -/
  fmtCid : Option Nat := none
  /-- rate code in use, none while not acquired -/
  rate : Option Nat := none
  /-- rate code before the last clock loss (R227) -/
  before : Option Nat := none
  /-- the supervisor holds off acquisition until its backoff ends (R228); reset false -/
  backoff : Bool := false
  /-- slot errors since the last read, 16 bits saturating; reset 0 -/
  slotErrs : Nat := 0
  /-- clock losses since reset, 16 bits saturating; reset 0 -/
  losses : Nat := 0
  /-- slot errors in the window of R226: its start and how many have been seen -/
  errWindow : Option (Nat × Nat) := none
  /-- slot-map bindings in force on this port (R224); none at reset -/
  map : List TdmBind := []
  /-- bindings of a new map, from the port's next FSYNC (R224) -/
  newMap : Option (List TdmBind) := none
  /-- the SYS_TABLE_COMMIT that waits for it -/
  mapCid : Option Nat := none
  /-- a master runs from this sample tick (R219, R222); reset 0 -/
  startAt : Nat := 0
  /-- internal time from which a slave port has measured its FSYNC (R225); reset 0 -/
  since : Nat := 0
  /-- the present frame is broken: its samples enter as zero (R226); reset false -/
  broken : Bool := false
  /-- what DOUT carries in the present frame, slot by slot: the word with its MSB in bit 31, none high impedance (R220,
  R224); reset none, DOUT at its idle state -/
  dout : List (Option (BitVec 32)) := []
  /-- the same of the frame before, whose last bit FRAMING 0 and 2 carry in period 0 of the present one (R220); reset none -/
  doutPrev : List (Option (BitVec 32)) := []
  /-- the port was gated in DOZE and has not lost its clock since: its landings need not acquire again (R195, R229); reset
  false -/
  dozed : Bool := false
  deriving DecidableEq, Repr, Inhabited

/-- State of an S/PDIF receiver (SPDIF_STATUS_GET). -/
inductive RxState where
  | off | unlocked | pcm | nonPcm
  deriving DecidableEq, Repr, Inhabited

/-- One S/PDIF receiver (R230 to R235). -/
structure SpdifRx where
  /-- STATE; reset off -/
  st : RxState := .off
  /-- rate code while locked -/
  rate : Option Nat := none
  /-- data type of the last Pc, 5 bits; 0 none; reset 0 -/
  pcType : Nat := 0
  /-- the burst seen carries 16 bits (R234) -/
  bits16 : Bool := false
  /-- errors since the last read, 16 bits saturating (R232); reset 0 -/
  errs : Nat := 0
  /-- internal time from which the receiver has sought its lock (R231), or heard no burst preamble (R233); reset 0 -/
  since : Nat := 0
  /-- a complete block with bit 1 at 0 has ended since (R233); reset false -/
  clean : Bool := false
  /-- channels whose next sample repeats the one before (R232); reset 0 -/
  again : BitVec 2 := 0
  /-- channel status of A and B, 24 bytes each (R235); none until a block is stored -/
  status : Option (List Byte) := none
  /-- user bits of A and B, 24 bytes each (R235); none until a block is stored -/
  user : Option (List Byte) := none
  /-- channel status of the last complete block, differing from the stored one (R235) -/
  candidate : Option (List Byte) := none
  deriving DecidableEq, Repr, Inhabited

/-- TDM and S/PDIF. -/
structure Tdm where
  /-- TDM ports 0-5 -/
  ports : Vector TdmPort 6 := Vector.replicate 6 {}
  /-- page 0x0D00, 64 bits (Table 9.6): AUTO_CS 1, WORD 2, RATE 7 -/
  page0D00 : BitVec 64 := BitVec.ofNat 64 ((2 ^ 14 + 2 * 2 ^ 12 + 7 * 2 ^ 8) * 2 ^ 48)
  /-- S/PDIF receivers 0 and 1 -/
  rx : Vector SpdifRx 2 := Vector.replicate 2 {}
  /-- OUT_STATE: 0 off, 1 running, 2 sending invalid frames; reset 0 -/
  outState : Nat := 0
  /-- a frame sent since the line started had both samples VALID (R237); reset false -/
  outBoth : Bool := false
  /-- such a frame, or after an E186 one with a VALID sample, arms E186 (R237); reset false -/
  outValid : Bool := false
  /-- sample words and validity bits of the frame SPDIF_OUT sends (R236); reset none -/
  outFrame : List (BitVec 32 × Bool) := []
  /-- channel-status and user bytes the transmitter sends, 96 bytes (R237); DESIGN CHOICE zero -/
  outBytes : List Byte := List.replicate 96 0
  /-- bytes that wait for the next block and the commands (R237); none -/
  outNext : Option (List Byte × List Nat) := none
  deriving DecidableEq, Repr, Inhabited

end Sys2Proof.Machine
end

