-- ==== Sys2Proof/Machine/StateSvc.lean ====
section
/-! DEFINITION. Firmware services (chapter 17) as state. Default values are the reset values. -/

namespace Sys2Proof.Machine

/-- A Sorrel result (R409, SVC_SORREL_READ). -/
structure SorrelRes where
  result : Nat
  residual : Nat := 0
  delay : Nat := 0
  snr : Nat := 0
  /-- 20 bytes a section -/
  sections : List Byte := []
  deriving DecidableEq, Repr, Inhabited

/-- A Sorrel run (R408). -/
structure SorrelRun where
  /-- channels named -/
  mask : Nat
  /-- channels not yet done, ascending; the head is being measured -/
  left : List Nat
  /-- step of Table 17.5: 1 grant, 2 waits for the boundary B, 3 noise window, 4 sweep, 5 analysis -/
  step : Nat
  /-- end of the running step -/
  due : Option Nat := none
  /-- a channel was refused its grant -/
  refused : Bool := false
  /-- Yarrow or Tansy reduced a port by 0.5 dB or more during the sweep -/
  limited : Bool := false
  /-- RESULT bytes of the run; 6 not named -/
  results : Vector Nat 16 := Vector.replicate 16 6
  /-- the capture of the channel being measured, newest first (R407) -/
  capture : List (BitVec 16) := []
  /-- blocks of VOL_NODE and HP_NODE before the run -/
  saved : List (Nat × List Byte) := []
  cid : Option Nat
  deriving DecidableEq, Repr, Inhabited

/-- A selection that waits or fades (R401, R404). -/
structure SrcSelect where
  source : Nat
  /-- targets whose fades must end -/
  targets : List Nat
  cid : Option Nat
  deriving DecidableEq, Repr, Inhabited

/-- Page 0x1500 at reset (Table 17.6). -/
def page1500Reset : BitVec 320 :=
  BitVec.ofNat 320 (leNat (leBytes 4 (96 * 2 ^ 8 + 2 * 2 ^ 4) ++ leBytes 4 (500 * 2 ^ 16 + 64)
    ++ (List.range 8).flatMap (fun _ => leBytes 4 (2 ^ 24))))

/-- Page 0x1501 at reset (Table 17.7). -/
def page1501Reset : BitVec 160 :=
  BitVec.ofNat 160 (leNat (leBytes 4 (2 ^ 30) ++ leBytes 4 0 ++ leBytes 4 0xFFFFFFFF ++ leBytes 4 0xFFFF0000
    ++ leBytes 4 (10 * 2 ^ 24)))

/-- Page 0x1502 at reset (Table 17.8). -/
def page1502Reset : BitVec 192 :=
  BitVec.ofNat 192 (leNat (leBytes 4 0xFFFFFFFF ++ leBytes 4 (0xFFFF0000 + 8 * 2 ^ 8 + 26)
    ++ leBytes 4 (20 * 2 ^ 16 + 20000) ++ leBytes 4 (2000 * 2 ^ 16 + (65536 - 400))
    ++ leBytes 4 (6 * 2 ^ 28 + 60 * 2 ^ 16 + 120 * 2 ^ 8) ++ leBytes 4 (2000 * 2 ^ 16)))

/-- Services. -/
structure Svc where
  /-- page 0x1500, 320 bits (Table 17.6) -/
  page1500 : BitVec 320 := page1500Reset
  /-- page 0x1501, 160 bits (Table 17.7) -/
  page1501 : BitVec 160 := page1501Reset
  /-- page 0x1502, 192 bits (Table 17.8) -/
  page1502 : BitVec 192 := page1502Reset
  /-- source machine state index; reset 0 -/
  state : Nat := 0
  /-- end of the state's timer -/
  timerEnd : Option Nat := none
  /-- TIMER latched -/
  timer : Bool := false
  /-- user table (R403); none at reset -/
  user : Option (List JackEntry) := none
  /-- the machine enters state 0 at its next evaluation -/
  restart : Bool := false
  /-- source in force, 8 none; reset 8 -/
  source : Nat := 8
  /-- tu since which every point of the source in force has carried VALID low (Table 17.1); none while one is VALID -/
  lowFrom : Option Nat := none
  /-- source named by a selection that waits or fades -/
  select : Option SrcSelect := none
  /-- last jack reports: AUX_PRESENT, HP_PRIORITY_ON; reset false -/
  auxPresent : Bool := false
  hpInUse : Bool := false
  /-- V and V_hp, R199 encoding; DESIGN CHOICE 0 -/
  vol : Int := 0
  volHp : Int := 0
  /-- G_eff and G_hp last written; none before -/
  gEff : Option Int := none
  gHp : Option Int := none
  /-- CAP in force in 0.05 dB; none -/
  cap : Option Rat := none
  /-- SVC_VOLUME_SET commands that wait for their write to apply: WHICH and command -/
  waits : List (Nat × Nat) := []
  /-- when the cap is evaluated next -/
  capAt : Nat := 0
  /-- SUPPLY_HK results since its last evaluation and the sum of their VALUE (Table 17.4); reset 0 -/
  supplyN : Nat := 0
  supplySum : Int := 0
  /-- a volume stored during a Sorrel run or without a graph is to be written (R406) -/
  owed : Bool := false
  /-- Sorrel run; none at reset -/
  sorrel : Option SorrelRun := none
  /-- results of channels 0-15; none at reset -/
  results : Vector (Option SorrelRes) 16 := Vector.replicate 16 none
  deriving DecidableEq, Repr, Inhabited

end Sys2Proof.Machine
end

