-- ==== Sys2Proof/Machine/State.lean ====
section
/-! DEFINITION. The state of the block: everything the spec gives the part, and the queue of waiting commands. -/

namespace Sys2Proof.Machine

open Sys2Proof

/-- Why a step stops with a fault. No command of the table faults: the spec gives every one an effect. -/
inductive Fault where
  /-- Raised by no command; kept so that the type is inhabited. Safe. -/
  | none
  deriving DecidableEq, Repr

/-- Why a step refuses. -/
inductive Refusal where
  /-- The dispatcher raises it for a command that has no meaning yet. Safe. -/
  | notModelled (mnemonic : String)
  deriving DecidableEq, Repr

/-- The halls at reset: HALL_AO and HALL_CTRL run, the crossings of the others open when the firmware has
initialised them (R414). -/
def hallsReset : Vector Hall 7 := Vector.ofFn (fun i => if i.val ≤ 1 then {} else { cross := .closed })

/-- The state of the block. -/
structure State where
  /-- the seven halls (R12, Table 1.1) -/
  halls : Vector Hall 7 := hallsReset
  /-- the four masters' pages (R32) -/
  ports : Vector Port 4 := Vector.replicate 4 {}
  /-- ownership and device-wide mailbox state -/
  own : Own := {}
  /-- event router -/
  ev : Events := {}
  /-- device time -/
  time : Time := {}
  /-- levels, grants, sleep -/
  pwr : Power := {}
  /-- boot and identity -/
  boot : Boot := {}
  /-- clock synthesis -/
  clk : Clk := {}
  /-- analog inputs, outputs and jacks -/
  ana : Ana := {}
  /-- microphones, Speedwell, history, stream -/
  mic : Mic := {}
  /-- filter chains -/
  flt : Flt := {}
  /-- fabric, landings, silence detectors, lanes -/
  fab : Fabric := {}
  /-- TDM and S/PDIF ports -/
  tdm : Tdm := {}
  /-- graph engine -/
  gra : Graph := {}
  /-- hardware scheduler -/
  sch : Sched := {}
  /-- drive ports and power-stage groups -/
  drv : Drv := {}
  /-- protection, supplies, fault supervisor -/
  prot : Prot := {}
  /-- Gallery ring -/
  ring : Ring := {}
  /-- housekeeping converter -/
  hk : Hk := {}
  /-- firmware services -/
  svc : Svc := {}
  /-- MODEL: the counter that picks fresh open values; the model's own field, DESIGN CHOICE 0 at reset -/
  free : Nat := 0
  /-- commands waiting, first in, first out; empty at reset -/
  pending : List Instr := []
  deriving DecidableEq, Repr

/-- The machine right after reset. -/
def State.reset : State := {}

end Sys2Proof.Machine
end

