-- ==== Sys2Proof/Machine/Ops.lean ====
section
/-! DEFINITION. The operations every command family shares: the masters' pages, device time, raising events
(R64), completing PENDING commands (R52), responses (R44, R45), ownership (R58 to R63) and grant requests
(R383 to R386). -/

namespace Sys2Proof.Machine

open Sys2Proof

/-- The outcome of a meaning. -/
abbrev Out := Host.Outcome State Fault Refusal

/-- Status codes (Table 2.20). -/
def Status.code : Status → Nat
  | .ok => 0 | .pending => 1 | .deferred => 2 | .superseded => 3 | .restarting => 4
  | .badCommand => 0x10 | .badLength => 0x11 | .badParam => 0x12 | .notOwner => 0x13 | .busy => 0x14
  | .noGrant => 0x15 | .retired => 0x16 | .notReady => 0x17 | .authFail => 0x18 | .timeout => 0x19
  | .privacy => 0x1A | .noLock => 0x1B

/-! ### Time -/

/-- One millisecond in tu (R8). -/
abbrev tuPerMs : Nat := 24576
/-- Ticks of 32.768 kHz in tu (R79). -/
abbrev tuPerTick : Nat := 750
/-- Microseconds in tu, rounded up. -/
def usTu (us : Nat) : Nat := cdiv (us * 24576) 1000
/-- Milliseconds in tu. -/
def msTu (ms : Nat) : Nat := ms * tuPerMs

/-- Device time (R76, R77). -/
def devTime (s : State) : Nat := s.time.now - s.time.start

/-- The count of tu at which device time reads `t` in this epoch. -/
def atDev (s : State) (t : Nat) : Nat := s.time.start + t
/-- Internal time of the device time a command names; 0 where it names none (R81). -/
def whenNamed (t : Nat) (s : State) : Nat := if t = 0 then 0 else atDev s t

/-- Tu since reset, with the ticks counted where device time is counted in ticks: RETAIN and OFF until the crystal
is confirmed at step 3 of the wake (R79, Table 16.8). -/
def clockNow (s : State) : Nat :=
  match s.pwr.asleep, s.pwr.wake with
  | some sl, some w => if 3 ≤ sl.target ∧ w.step ≤ 3 then s.time.now + tuPerTick * sl.ticks else s.time.now
  | some sl, none => if 3 ≤ sl.target then s.time.now + tuPerTick * sl.ticks else s.time.now
  | none, _ => s.time.now

/-- Device time holds its value (R80). -/
def timeHolds (s : State) : State :=
  if s.time.held then s else { s with time.held := true, time.heldTicks := 0 }

/-- The stamp an occurrence gets now (R76, R79): while device time is held, the held value (R80). -/
def stampNow (s : State) : Nat := if s.time.held then devTime s else clockNow s - s.time.start

/-- A window that ends at `due`, on the count of tu, has closed (R82). -/
def closed (due : Nat) (s : State) : Bool := decide (due ≤ s.time.now)

/-- The same for a window that may not be open. -/
def closedO (due : Option Nat) (s : State) : Bool :=
  match due with
  | some d => closed d s
  | none => false

/-- A window has ended, or device time is held and the physical stage may end (R80). -/
def stageOver (due : Option Nat) (s : State) : Bool := closedO due s || (due.isSome && s.time.held)

/-! ### Fresh open values -/

/-- A fresh open number. -/
def freshNat (s : State) : Nat × State := (Config.freeNat s.free, { s with free := s.free + 1 })
/-- A fresh open truth value. -/
def freshBool (s : State) : Bool × State := (Config.freeBool s.free, { s with free := s.free + 1 })

/-- A quotient rounded to a whole number; which way, where it is not whole, is open. -/
def roundDiv (d x : Int) : Int :=
  x / d + (if x % d = 0 then 0 else if Config.roundUp d x then 1 else 0)

/-- The greatest number below `base + 2 ^ k` that passes a test which only smaller numbers pass. -/
def greatest (test : Nat → Bool) : Nat → Nat → Nat
  | 0, base => base
  | k + 1, base => greatest test k (if test (base + 2 ^ k) then base + 2 ^ k else base)

/-- IOVDD_D rises, or may have risen since it was looked at: its buffers are set for the level of the rail, which is open
(R432). -/
def senseD (s : State) : State :=
  let r := freshBool s
  { r.2 with pwr.ioD := r.1 }

/-- IOVDD_H rises at a power-on reset (R432). -/
def senseH (s : State) : State :=
  let r := freshBool s
  { r.2 with pwr.ioH := r.1 }

/-! ### Ports -/

/-- The page of a master. -/
def portOf (s : State) (m : Fin 4) : Port := s.ports.get m

/-- Change one master's page. -/
def onPort (m : Fin 4) (f : Port → Port) (s : State) : State :=
  { s with ports := s.ports.set m.val (f (s.ports.get m)) m.isLt }

/-- Change every master's page. -/
def onPorts (f : Port → Port) (s : State) : State := { s with ports := s.ports.map f }

/-! ### Halls -/

def hallOf (s : State) (h : Nat) : Hall := vget s.halls h

/-- Change the halls of a mask (Table 3.1). -/
def onHalls (mask : Nat) (f : Hall → Hall) (s : State) : State :=
  { s with halls := vmapi s.halls (fun i h => if maskBit mask i then f h else h) }

/-- The crossings of every hall of the mask are OPEN: CLOSED ones refuse, and DRAINING ones accept no new word (R19, R20,
R46 check 6). That a command finds a DRAINING crossing as it finds a CLOSED one is DEDUCED (log entry "Crossings"). -/
def hallsOpen (mask : Nat) (s : State) : Bool :=
  (maskList mask 7).all (fun h => (hallOf s h).cross == .opened)

/-- The crossings of a hall of the mask are CLOSED. -/
def hallShut (mask : Nat) (s : State) : Bool := (maskList mask 7).any (fun h => (hallOf s h).cross == .closed)

/-- A state code as a reporting command shows it: a function whose hall has CLOSED crossings is shown off (R466). -/
def shown (mask : Nat) (s : State) (code : Nat) : Nat := if hallShut mask s then 0 else code

/-- Mask of the halls on a safety clock (CLK_STATUS_GET.FALLBACK); HALL_AO's normal clock is the crystal. -/
def fallbackMask (s : State) : Nat :=
  maskOf ((List.range 7).map (fun i =>
    if i = 0 then (hallOf s i).clk == .rc else (hallOf s i).clk != .normal))

/-! ### Events -/

/-- An epoch is later than another: the count wraps (R77), so the nearer way round says which. -/
def epochAfter (a b : Nat) : Bool := a != b && decide ((a + 65536 - b) % 65536 < 32768)

/-- A record stands after another in one queue: by EPOCH, then TIME, then EVENT (R69). -/
def recAfter (a b : Record) : Bool :=
  epochAfter a.epoch b.epoch
    || decide (a.epoch = b.epoch ∧ (b.time < a.time ∨ (b.time = a.time ∧ b.ev < a.ev)))

/-- A record put in its place: after every record that may stand before it (R69). -/
def insertRecord (r : Record) (l : List Record) : List Record :=
  l.takeWhile (fun x => !recAfter x r) ++ r :: l.dropWhile (fun x => !recAfter x r)

/-- The route word of an event. -/
def routeOf (s : State) (ev : Nat) : Nat := (vget s.ev.route ev).toNat

/-- Fields of HIRQ ball `b` in PP_IRQCFG (Table 2.14). -/
def irqBit (s : State) (b k : Nat) : Bool := s.own.irqcfg.getLsbD (8 * b + k)
/-- The master whose summary drives HIRQ ball `b` in level mode. -/
def irqMaster (s : State) (b : Nat) : Nat := bitsAt s.own.irqcfg.toNat (8 * b + 4) 2
/-- PULSE_W in µs; 0 gives 1 (Table 2.14). -/
def irqPulse (s : State) : Nat := max 1 (bitsAt s.own.irqcfg.toNat 16 8)

/-- Pulse mode: one pulse per occurrence, merged into a pulse already being given (R42). -/
def hirqPulse (b ev : Nat) (s : State) : State :=
  if (routeOf s ev).testBit b && irqBit s b 0 && irqBit s b 1 && (vget s.ev.hirqPulse b).isNone then
    { s with ev.hirqPulse := vset s.ev.hirqPulse b (some (s.time.now + usTu (irqPulse s))) }
  else s

/-- Pulse or toggle of the GPIO a route word drives (R75). -/
def gpioRoute (ev : Nat) (s : State) : State :=
  let w := routeOf s ev
  let g := bitsAt w 19 5
  if w.testBit 4 && decide (g < 24) then
    if bitsAt w 17 2 = 0 then
      if (vget s.ev.gpioPulse g).isNone then
        { s with
          ev.gpioPulse := vset s.ev.gpioPulse g (some (s.time.now + usTu 1))
          ev.gpioOut := s.ev.gpioOut ||| BitVec.ofNat 24 (2 ^ g) }
      else s
    else { s with ev.gpioOut := s.ev.gpioOut ^^^ BitVec.ofNat 24 (2 ^ g) }
  else s

/-- SCHED (R262): the bit SCHED_BIT is set in every task of the group that byte `ev` of page 0x0F01 names. -/
def schedRoute (ev : Nat) (s : State) : State :=
  let w := routeOf s ev
  let g := Page.get s.sch.page0F01 (8 * ev) 6
  if w.testBit 5 && g != 0 then
    { s with
      sch.tasks := s.sch.tasks.map (fun t =>
        if t.group = g ∧ t.st ≠ .free then { t with flags := t.flags ||| 2 ^ bitsAt w 8 5 } else t) }
  else s

/-- A sleep entry runs whose target state is woken by events and host activity (Table 16.5, R395). -/
def entryWakes (s : State) : Bool := match s.pwr.entry with | some e => e.target != 4 | none => false

/-- The masters whose PP_EVMASK enables an event (R64). -/
def maskedMasters (s : State) (ev : Nat) : Nat := maskOf (s.ports.toList.map (fun p => p.evmask.getLsbD ev))

def galOf (s : State) (p : Nat) : RingPort := vget s.ring.ports p
/-- A link carries ring periods. -/
def galUp (s : State) (p : Nat) : Bool := (galOf s p).st == .up
def ringLinkUp (s : State) : Bool := galUp s 0 || galUp s 1

/-- The hall has its supply and its clock runs (R22). -/
def hallRuns (s : State) (h : Nat) : Bool := (hallOf s h).powered && !(hallOf s h).gated

/-- The part sends and receives ring periods. -/
def ringRuns (s : State) : Bool := hallRuns s hGAL && !s.ring.left && ringLinkUp s

/-- RING acts on an occurrence (R74): the bit stands, M3 owns the part, its address is known and a path exists. The
owner, its address and the path are judged when the occurrence reaches the router (R64), and PP_EVMASK of M3 does not
bear on the forward: DESIGN CHOICE, the spec says neither (log entry "Forwarding a record over the ring"). -/
def ringForwards (s : State) (ev : Nat) : Bool :=
  (routeOf s ev).testBit 3 && s.own.owner == some 3 && s.ring.ownerAddr != 0 && ringRuns s

/-- An occurrence reaches the event router (R64): summary bits on the four pages, the record into the router's
hold, the destinations of the route word. A forward with no path is dropped (R74). -/
def deliver (r : Record) (s : State) : State :=
  let s := onPorts (fun p => { p with evsum := p.evsum ||| BitVec.ofNat 256 (2 ^ r.ev) }) s
  let r := { r with masters := maskedMasters s r.ev, ring := ringForwards s r.ev }
  let s := { s with
    ev.held := if r.masters = 0 then s.ev.held else insertRecord r s.ev.held
    ev.forward := if r.ring then s.ev.forward ++ [(s.ring.ownerAddr, r)] else s.ev.forward }
  let s := hirqPulse 1 r.ev (hirqPulse 0 r.ev s)
  let s := schedRoute r.ev (gpioRoute r.ev s)
  if (routeOf s r.ev).testBit 2 && entryWakes s && s.pwr.abortBy.isNone then
    { s with pwr.abortBy := some r.ev }
  else s

/-- The hall that observes the cause of an event (Tables 1.1 and 3.2 to 3.10). What Rakaos itself decides or answers
belongs to HALL_CTRL, in which the router stands. -/
def eventHall (ev : Nat) : Nat :=
  if ev < 96 then hDRV
  else if ev < 112 then hANA
  else if ev < 120 then hAO
  else if ev < 144 then hANA
  else if ev = 152 ∨ ev = 153 ∨ ev = 157 then hAO
  else if ev = 155 ∨ ev = 156 ∨ ev = 158 then hDRV
  else if ev < 160 then hCTRL
  else if ev = 164 ∨ ev = 166 ∨ ev = 168 then hCTRL
  else if ev < 176 then hGAL
  else if ev < 208 then hAUD
  else if ev < 224 then hDSP
  else if ev < 248 then hCTRL
  else hAO

/-- The event crossing of the hall takes an occurrence: it is OPEN (R19, R20). HALL_CTRL's own events cross nothing, and
HALL_AO holds its own while the part sleeps (R69). -/
def crossingTakes (ev : Nat) (s : State) : Bool :=
  let h := eventHall ev
  h == hCTRL || h == hAO || (hallOf s h).cross == .opened

/-- An occurrence (R64, R67): a DRAINING or CLOSED crossing takes none, so the occurrence is discarded (R19, R20). While
the part sleeps HALL_AO holds it until E226 (R69). -/
def raiseRec (r : Record) (s : State) : State :=
  if !crossingTakes r.ev s then s
  else if s.pwr.asleep.isSome then { s with ev.aoHeld := insertRecord r s.ev.aoHeld }
  else deliver r s

/-- An event occurs with the stamp given, in the present epoch. -/
def raiseAt (ev arg stamp : Nat) (s : State) : State :=
  raiseRec { ev := ev, arg := arg % 65536, epoch := s.time.epoch, held := s.time.held, time := stamp,
             born := clockNow s, heldAt := s.time.heldTicks } s

/-- An event occurs now. -/
def raise (ev arg : Nat) (s : State) : State := raiseAt ev arg (stampNow s) s

/-- The mergeable events (Tables 3.2 to 3.10). -/
def mergeable (ev : Nat) : Bool := decide (ev < 96 ∧ ev % 4 = 0) || ev == 165 || ev == 170 || ev == 209

/-! ### Responses and completions -/

/-- The bytes of a response (Table 2.18). -/
def Resp.bytes (r : Resp) : List Byte :=
  leBytes 2 r.code ++ leBytes 1 r.seq ++ leBytes 1 r.flags ++ leBytes 2 r.payload.length
    ++ leBytes 2 r.status.code ++ r.payload

/-- A message as the 64 words of a slot; the words beyond it are zero. -/
def slotWords (bs : List Byte) : Vector Word 64 := Vector.ofFn (fun i => BitVec.ofNat 32 (leAt bs (4 * i.val) 4))

/-- The bytes of a slot. -/
def slotBytes (v : Vector Word 64) : List Byte := v.toList.flatMap (fun w => leBytes 4 w.toNat)

/-- The response enters the slot, RSP_READY rises and REQ_BUSY falls (R44 step 4). -/
def writeRsp (r : Resp) (p : Port) : Port :=
  { p with rspSlot := slotWords r.bytes, rspReady := true, reqBusy := false, heldRsp := none }

/-- The part answers: at once, or held while an earlier response is not acknowledged (R44). -/
def answerPort (r : Resp) (p : Port) : Port :=
  if p.rspReady then { p with heldRsp := some r } else writeRsp r p

/-- Number of commands of a master that are PENDING (R52). -/
def pendCount (s : State) (m : Fin 4) : Nat := (portOf s m).pend.length

/-- The list of recorded final statuses keeps the 8 most recent (SYS_RESULT_GET). -/
def pushResult (r : Result) (l : List Result) : List Result := (l ++ [r]).drop (l.length + 1 - 8)

/-- A PENDING command of one master completes (R52). -/
def completeOn (m : Fin 4) (cid : Nat) (st : Status) (flags : Nat) (payload : List Byte) (s : State) : State :=
  match (portOf s m).pend.find? (fun e => e.cid == cid) with
  | none => s
  | some e =>
    let s := onPort m (fun p => { p with
      pend := p.pend.filter (fun x => x.cid != cid)
      results := pushResult { seq := e.seq, status := st, code := e.code, flags := flags, payload := payload }
        p.results }) s
    if e.quiet then s else raise 241 (st.code % 256 * 256 + e.seq) s

/-- A PENDING command completes on the page that holds it; one whose entry was cleared reports nothing (R43). -/
def completeNow (cid : Nat) (st : Status) (flags : Nat) (payload : List Byte) (s : State) : State :=
  completeOn 3 cid st flags payload (completeOn 2 cid st flags payload
    (completeOn 1 cid st flags payload (completeOn 0 cid st flags payload s)))

/-- A PENDING command completes, whoever sent it. An APPLY with several parts completes with its last part, or with the
first that fails. -/
def completeWith (cid : Nat) (st : Status) (flags : Nat) (payload : List Byte) (s : State) : State :=
  match s.own.joint.find? (fun j => j.1 == cid) with
  | none => completeNow cid st flags payload s
  | some j =>
    let rest := s.own.joint.filter (fun x => x.1 != cid)
    if st = .ok ∧ 1 < j.2 then { s with own.joint := (cid, j.2 - 1) :: rest }
    else if st = .ok ∧ j.2 = 1 then { s with own.joint := rest }
    else completeNow cid st flags payload { s with own.joint := rest }

/-- Completion of the command that waits, if one does. -/
def complete (cid : Option Nat) (st : Status) (s : State) : State :=
  match cid with
  | some c => completeWith c st 0 [] s
  | none => s

/-- Completion with response FLAGS and payload. -/
def completeP (cid : Option Nat) (st : Status) (flags : Nat) (payload : List Byte) (s : State) : State :=
  match cid with
  | some c => completeWith c st flags payload s
  | none => s

/-- Completion of several commands, in order. -/
def completeAll (cids : List Nat) (st : Status) (s : State) : State :=
  cids.foldl (fun s c => completeWith c st 0 [] s) s

/-! ### Fields of a page with a later effect point (R54, R470)

A field that applies from the next start of something waits while one of its kind is at work, and is taken at the next
start, or as soon as none is at work: DESIGN CHOICE (log entry "Effect points"). -/

/-- The bits of `new` where the mask has ones, the bits of `old` elsewhere. -/
def mergeBits (old new mask : Nat) : Nat := old - (old &&& mask) + (new &&& mask)

/-- Bits `start` to `start + n - 1`. -/
def fieldMask (start n : Nat) : Nat := (2 ^ n - 1) * 2 ^ start

/-- Two pages differ in a field. -/
def differ (a b start len : Nat) : Bool := bitsAt a start len != bitsAt b start len

/-- The live word once the waiting fields of a mask are taken. -/
def lateLive (live mask : Nat) (l : Option Late) : Nat :=
  match l with
  | some x => mergeBits live x.v mask
  | none => live

/-- What still waits, of the late fields `all`. -/
def lateLeft (live all : Nat) (l : Option Late) : Option Late :=
  l.filter (fun x => mergeBits live x.v all != live)

/-- Once nothing waits any more the APPLY completes. -/
def lateDone (before after : Option Late) (s : State) : State :=
  if after.isNone then complete (before.bind (fun x => x.cid)) .ok s else s

/-- A second APPLY overtakes the first. -/
def lateOvertaken (l : Option Late) (s : State) : State := complete (l.bind (fun x => x.cid)) .superseded s

/-! ### Ownership -/

def isOwner (s : State) (m : Fin 4) : Bool := s.own.owner == some m

/-- Standing claim priority of the owner (Table 2.8). -/
def ownerPrio (s : State) : Nat :=
  match s.own.owner with
  | some m => if (portOf s m).claim then (portOf s m).prio.toNat else 0
  | none => 0

/-- The claimant with the highest PRIO, ties to the lower index (R60). -/
def electionWinner (s : State) : Option (Fin 4) :=
  ([0, 1, 2, 3] : List (Fin 4)).foldl (fun best m =>
    if (portOf s m).claim then
      match best with
      | some b => if (portOf s b).prio.toNat < (portOf s m).prio.toNat then some m else best
      | none => some m
    else best) none

/-- VALID × 256 + OWNER (E240). -/
def ownerArg (o : Option (Fin 4)) : Nat := match o with | some m => 256 + m.val | none => 0

/-- Held parameter writes of a master are discarded (R59): SUPERSEDED. -/
def dropHeld (m : Fin 4) (s : State) : State :=
  let mine (w : ParamWrite) : Bool := w.held && w.by_ == some m && s.gra.writes.all (fun x => x.held)
  let gone := s.gra.writes.filter mine
  gone.foldl (fun s w => complete w.cid .superseded s) { s with gra.writes := s.gra.writes.filter (fun w => !mine w) }

/-- A commit is checking or installing the mailbox staging buffer (R59): a firmware installation from source 0. A graph
commit reads its image when it is taken and leaves the buffer free. -/
def mbxCommits (s : State) : Bool := match s.boot.install with | some i => i.source == 0 | none => false

/-- The former owner's unfinished configuration work is cleared (R59). A bulk transfer being sent keeps the bytes it was
given at its start; the buffer itself is emptied under it. -/
def clearWork (m : Fin 4) (s : State) : State :=
  let s := dropHeld m (onPort m (fun p => { p with shadow := none, staging := [] }) s)
  if mbxCommits s then s else { s with own.mbxStage := [] }

/-- Ownership passes (R58, R59, R60, R62): the former owner's work is cleared, the new owner starts with no shadow and
with empty staging buffers, supervision stops, the change is counted and E240 raised. -/
def passOwner (new : Option (Fin 4)) (s : State) : State :=
  if new = s.own.owner then s
  else
    let s := match s.own.owner with | some m => clearWork m s | none => s
    let s := match new with | some m => clearWork m s | none => s
    let s := { s with
      own.owner := new, own.elections := s.own.elections + 1, own.hbPeriod := 0, own.hbDue := 0
      own.expired := none }
    raise 240 (ownerArg new) s

/-- An open handover is cancelled by another owner change: TIMEOUT, E243 after the E240 (R63). -/
def cancelHandover (s : State) : State :=
  match s.own.handover with
  | none => s
  | some h => complete (some h.cid) .timeout (raise 243 h.target.val { s with own.handover := none })

/-- An election (R60). -/
def elect (s : State) : State :=
  let w := electionWinner s
  if w = s.own.owner then s else cancelHandover (passOwner w s)

/-- The claim window closes at its end (R61). -/
def claimWindowClose (s : State) : State :=
  if closedO s.own.claimEnd s then
    let s := { s with own.claimEnd := none }
    if s.own.owner.isSome then s else elect s
  else s

/-- A request that is the OWN_ACCEPT of the open handover, inside its window (R63). -/
def acceptMeets (q : Req) (s : State) : Bool :=
  match s.own.handover, s.own.owner with
  | some h, some o =>
    h.target == q.m && decide (s.time.now < h.due) && q.len == 4 && q.u8 0 == o.val
      && ((q.payload.drop 1).take 3).all (· == 0) && q.status == 0 && decide (q.flags.toNat ≤ 1)
  | _, _ => false

/-- An acceptance waits among the commands of this tu: typed, or rung and not yet taken. -/
def acceptComing (s : State) : Bool :=
  s.pending.any (fun i => match i with | .ownAccept q => acceptMeets q s | _ => false)
    || s.own.inbox.any (fun e =>
        let b := (portOf s e.2).reqSlot.toList.flatMap (fun w => leBytes 4 w.toNat)
        leAt b 0 2 == 0x0203 && acceptMeets (readReq e.2 b) s)

/-- The acceptance of the open handover: ownership passes at this tu (R63). -/
def acceptHandover (h : Handover) (s : State) : State :=
  complete (some h.cid) .ok (passOwner (some h.target) { s with own.handover := none })

/-- An acceptance that comes at the tu at which a heartbeat window closes is taken before all else of that tu, in whatever
order its commands are taken (R62, R63). Its own command then only answers. -/
def acceptEarly (s : State) : State :=
  match s.own.handover, s.own.owner with
  | some h, some o =>
    if s.own.hbPeriod ≠ 0 ∧ s.own.hbDue = s.time.now ∧ acceptComing s then
      { acceptHandover h s with own.early := some (h.target, o) }
    else s
  | _, _ => s

/-- A heartbeat that lapsed (R62): E242, the claim of the former owner cleared, an election. -/
def heartbeatLapse (s : State) : State :=
  match s.own.owner with
  | none => s
  | some m =>
    if s.own.hbPeriod ≠ 0 ∧ closed s.own.hbDue s then
      let s := raise 242 m.val s
      let s := onPort m (fun p => { p with claim := false }) s
      elect { s with own.hbPeriod := 0, own.hbDue := 0 }
    else s

/-- The handover window closes without acceptance (R63). -/
def handoverFail (s : State) : State :=
  match s.own.handover with
  | none => s
  | some h =>
    if closed h.due s then
      raise 243 h.target.val (complete (some h.cid) .timeout { s with
        own.handover := none, own.expired := s.own.owner.map (fun m => (h.target, m)) })
    else s

/-- The closings that are due are taken before any command of the same tu (R61, R62, R63, R82). -/
def settleOwnership (s : State) : State := handoverFail (heartbeatLapse (acceptEarly (claimWindowClose s)))

/-! ### Grants -/

/-- PRIO of operation `op` (Table 16.11). -/
def grantPrio (s : State) (op : Nat) : Nat := Page.get s.pwr.page1401 (32 * (op - 1) + 29) 3
/-- TIMEOUT_MS of operation `op` (Table 16.11). -/
def grantTimeout (s : State) (op : Nat) : Nat := Page.get s.pwr.page1401 (32 * (op - 1)) 16

/-- Digital power figures of the levels in mW (Table 16.1). -/
def levelMw (l : Nat) : Nat := [150, 270, 470, 710, 1060].getD l 0

/-- Level figure plus the core costs of the grants held (CORE_EST, R384). -/
def coreEst (s : State) : Nat := levelMw s.pwr.level + (s.pwr.held.map (fun g => g.core)).foldl (· + ·) 0

/-- A request takes its place by priority, then by age (R384). -/
def insertGrant (g : Grant) (l : List Grant) : List Grant :=
  l.takeWhile (fun x => decide (g.prio ≤ x.prio)) ++ g :: l.dropWhile (fun x => decide (g.prio ≤ x.prio))

/-- The operation code of a piece of work (Table 16.4). -/
def GrantFor.op : GrantFor → Nat
  | .plRaise => 1 | .plLower => 2 | .relockAsyn => 2 | .relockCsyn => 2 | .cpStart => 3 | .psgEnable _ => 4
  | .loadChar _ => 5 | .sorrel _ => 6 | .bankPower => 7 | .ringTrain _ => 8 | .fwVerify => 9

/-- What a request came to. -/
inductive Asked where
  | waiting | held | refused
  deriving DecidableEq, Repr

/-- Ask Tansy for a grant (R383 to R385): a 25th request is refused with E230; a priority-7 request is held at
once, and its operation begins at the evaluation of the same tu. Requests and grants are activity (R391). -/
def askGrant (work : GrantFor) (cid : Option Nat) (requester core bulk ports : Nat) (s : State) : State × Asked :=
  let op := work.op
  let prio := grantPrio s op
  let s := { s with pwr.lastActivity := s.time.now }
  let g : Grant := { op := op, prio := prio, requester := requester, work := work, cid := cid, asked := s.time.now,
                     due := if prio = 7 then none else some (s.time.now + msTu (grantTimeout s op)),
                     core := core, bulk := bulk, ports := ports }
  if prio = 7 then
    (raise 229 op { s with pwr.held := s.pwr.held ++ [g], pwr.evalPoint := true }, .held)
  else if 24 ≤ s.pwr.queue.length then (raise 230 op s, .refused)
  else ({ s with pwr.queue := insertGrant g s.pwr.queue }, .waiting)

/-- A relock after loss of lock always runs at priority 7 with no timeout and begins at once (R383). -/
def relockGrant (work : GrantFor) (s : State) : State :=
  let g : Grant := { op := 2, prio := 7, requester := 4, work := work, asked := s.time.now, due := none, core := 0,
                     begun := true }
  raise 229 2 { s with pwr.held := s.pwr.held ++ [g], pwr.lastActivity := s.time.now }

/-- Remove the first entry that meets a test. -/
def dropFirst {α : Type} (p : α → Bool) : List α → List α
  | [] => []
  | a :: l => if p a then l else a :: dropFirst p l

/-- A grant is released, or a waiting request of the same work leaves the queue without an event (R385); a
release is an evaluation point (R384). -/
def releaseGrant (work : GrantFor) (s : State) : State :=
  if s.pwr.held.any (fun g => g.work == work) then
    { s with
      pwr.held := dropFirst (fun g => g.work == work) s.pwr.held
      pwr.evalPoint := true
      pwr.lastActivity := s.time.now }
  else if s.pwr.queue.any (fun g => g.work == work) then
    { s with pwr.queue := dropFirst (fun g => g.work == work) s.pwr.queue, pwr.lastActivity := s.time.now }
  else s

/-- The grant for a piece of work is held. -/
def grantHeld (work : GrantFor) (s : State) : Bool := s.pwr.held.any (fun g => g.work == work)
/-- The request for a piece of work waits in the queue. -/
def grantWaits (work : GrantFor) (s : State) : Bool := s.pwr.queue.any (fun g => g.work == work)

/-! ### Activity (R391, R395) -/

/-- HOST_WAKE names a master (Table 16.10). -/
def hostWakes (s : State) (m : Fin 4) : Bool := decide (m.val < 3) && Page.bit s.pwr.page1400 (16 + m.val)

/-- A command that passes the checks and is no GET or READ is activity, and during a sleep entry a wake source. -/
def noteActivity (m : Fin 4) (s : State) : State :=
  let s := { s with pwr.lastActivity := s.time.now }
  if entryWakes s && s.pwr.abortBy.isNone && hostWakes s m then
    { s with pwr.abortBy := some (0x100 + m.val) }
  else s

/-! ### Serving a command (R46, R50, R52, R466) -/

/-- What a command's facts table states. -/
structure Facts where
  /-- command code -/
  code : Nat
  /-- owner-only -/
  owner : Bool
  /-- carries GET or READ in its name: only reports state (R50) -/
  report : Bool := false
  /-- LENGTH allowed -/
  len : Nat → Bool
  /-- the LENGTH that a COUNT in the payload asks for -/
  lenQ : Req → Bool := fun _ => true
  /-- reserved fields zero and fields in range -/
  fields : Req → State → Bool := fun _ _ => true
  /-- halls needed (Table 2.24) -/
  halls : Req → Nat := fun _ => 0

/-- What a command answers. -/
structure Answer where
  status : Status
  flags : Nat := 0
  payload : List Byte := []

/-- The first check of R46 that fails, if any. Reserved FLAGS bits of the request are checked with the reserved
fields (Table 2.18). -/
def firstFailure (f : Facts) (q : Req) (s : State) : Option Status :=
  if 248 < q.len then some .badLength
  else if f.owner && !isOwner s q.m then some .notOwner
  else if !f.len q.len || !f.lenQ q then some .badLength
  else if q.status ≠ 0 ∨ 1 < q.flags.toNat ∨ !f.fields q s then some .badParam
  else if !hallsOpen (f.halls q) s then some .notReady
  else none

/-- The answer goes to the master's page; a mailbox reset that waits is taken by its own row (R43). -/
def respond (code : Nat) (q : Req) (a : Answer) (s : State) : State :=
  onPort q.m (answerPort { code := code, seq := q.seq.toNat, flags := a.flags, status := a.status,
                           payload := a.payload }) s

/-- A command that answers PENDING stands in the list until it completes (R52). -/
def pend (code cid : Nat) (q : Req) (s : State) : State :=
  let e : Pend := { cid := cid, seq := q.seq.toNat, code := code, quiet := q.flags.getLsbD 0 }
  onPort q.m (fun p => { p with pend := p.pend ++ [e] }) s

/-- A command that answered with a final status leaves the list again. -/
def unpend (cid : Nat) (q : Req) (s : State) : State :=
  onPort q.m (fun p => { p with pend := p.pend.filter (fun e => e.cid != cid) }) s

/-- A request has passed the checks of R46: the command's own effect. A master with 8 PENDING gets BUSY, without effect,
where the command would become PENDING (R52). `body` gets the number by which work names the command, the request and
the state, in which the command stands as PENDING, so that work which ends at once completes it. -/
def carryOut (code : Nat) (body : Nat → Req → State → State × Answer) (q : Req) (s : State) : State :=
  let cid := s.own.nextCid
  let s := { s with own.nextCid := cid + 1 }
  let r := body cid q (pend code cid q s)
  if r.2.status = .pending then
    if 8 ≤ pendCount s q.m then respond code q { status := .busy } s else respond code q r.2 r.1
  else respond code q r.2 (unpend cid q r.1)

/-- The firmware takes a request while READY is 1 (R44): the checks of R46, then what the command does. A command that
only reports is no activity and never becomes PENDING (R50, R391). -/
def serve (f : Facts) (body : Nat → Req → State → State × Answer) (q : Req) (s : State) : State :=
  if !s.boot.ready then s
  else
    let s := settleOwnership s
    match firstFailure f q s with
    | some st => respond f.code q { status := st } s
    | none =>
      if f.report then
        let r := body s.own.nextCid q s
        respond f.code q r.2 r.1
      else carryOut f.code body q (noteActivity q.m s)

/-- A command that only reports: its answer is a function of the state. -/
def report (f : Facts) (payload : Req → State → List Byte) (q : Req) (s : State) : State :=
  serve f (fun _ q s => (s, { status := .ok, payload := payload q s })) q s

/-- A plain answer. -/
def ans (st : Status) (payload : List Byte := []) : Answer := { status := st, payload := payload }

/-- Bytes `off` to `off + n - 1` of the payload are zero (R5). -/
def zeros (q : Req) (off n : Nat) : Bool := ((q.payload.drop off).take n).all (· == 0)

/-- One exact length. -/
def lenIs (n : Nat) : Nat → Bool := fun k => k == n

/-- Hall masks of Table 2.24. -/
def needAUD : Req → Nat := fun _ => 8
def needANA : Req → Nat := fun _ => 0x28
def needDSP : Req → Nat := fun _ => 4
def needDRV : Req → Nat := fun _ => 0x10
def needGAL : Req → Nat := fun _ => 0x40

/-! ### Byte memory in one canonical form (the flash on the memory port, R420) -/

/-- What a byte that the flash does not list reads as: erased (R420). -/
def erased : Byte := 0xFF

/-- One byte. -/
def memRead : List Host.Cell → Nat → Byte
  | [], _ => erased
  | (b, v) :: l, a => if a = b then v else if a < b then erased else memRead l a

/-- A byte put in its place; the erased value is not listed. -/
def memWrite : List Host.Cell → Nat → Byte → List Host.Cell
  | [], a, v => if v = erased then [] else [(a, v)]
  | (b, w) :: l, a, v =>
    if a < b then (if v = erased then (b, w) :: l else (a, v) :: (b, w) :: l)
    else if a = b then (if v = erased then l else (a, v) :: l)
    else (b, w) :: memWrite l a v

/-- The canonical form: addresses strictly rising from `lo`, no byte listed that reads as erased. -/
def memWfFrom : Nat → List Host.Cell → Bool
  | _, [] => true
  | lo, (a, v) :: l => decide (lo ≤ a) && v != erased && memWfFrom (a + 1) l

/-- The canonical form of the flash. -/
def memWf (l : List Host.Cell) : Bool := memWfFrom 0 l

/-- Several bytes, from `a` upwards. -/
def memWriteList (l : List Host.Cell) (a : Nat) : List Byte → List Host.Cell
  | [] => l
  | b :: bs => memWriteList (memWrite l a b) (a + 1) bs

/-- `n` bytes from `a`. -/
def memReadList (l : List Host.Cell) (a : Nat) : Nat → List Byte
  | 0 => []
  | n + 1 => memRead l a :: memReadList l (a + 1) n

/-- Every byte of `[a, a + n)` erased. -/
def memErase (l : List Host.Cell) (a n : Nat) : List Host.Cell :=
  l.filter (fun c => decide (c.1 < a ∨ a + n ≤ c.1))

end Sys2Proof.Machine
end

