-- ==== Sys2Proof/Machine/Operands.lean ====
section
/-! DEFINITION. Operand forms of the mailbox commands: masks, lists of fixed records, and the byte forms of answers
(R4, R5, R6). -/

namespace Sys2Proof.Machine

open Sys2Proof

/-- One, two, four and eight bytes of an answer. -/
def b1 (x : Nat) : List Byte := leBytes 1 x
def b2 (x : Nat) : List Byte := leBytes 2 x
def b4 (x : Nat) : List Byte := leBytes 4 x
def b8 (x : Nat) : List Byte := leBytes 8 x
/-- Signed answers in two's complement (R4). -/
def i2 (x : Int) : List Byte := leBytes 2 (unsignedOf 16 x)
def i4 (x : Int) : List Byte := leBytes 4 (unsignedOf 32 x)
/-- `n` reserved bytes. -/
def rz (n : Nat) : List Byte := List.replicate n 0

/-- A counter of `bits` bits that saturates. -/
def sat (bits x : Nat) : Nat := min x (2 ^ bits - 1)

/-- A mask field of an operand: some bit set and none at or above `n`. -/
def maskOk (mask n : Nat) : Bool := decide (mask ≠ 0 ∧ mask < 2 ^ n)

/-- A range test on a Nat. -/
def within (lo hi x : Nat) : Bool := decide (lo ≤ x ∧ x ≤ hi)
/-- A range test on a signed operand. -/
def withinI (lo hi x : Int) : Bool := decide (lo ≤ x ∧ x ≤ hi)

/-- Milliseconds left to a device time, rounded up. -/
def msLeft (due : Nat) (s : State) : Nat := cdiv (due - s.time.now) tuPerMs

/-- The rate family in force: true for 44.1 kHz (Table 4.13). -/
def famOf (s : State) : Bool := Page.bit s.clk.page 12

end Sys2Proof.Machine
end

