-- ==== Sys2Proof/Machine/Route.lean ====
section
/-! DEFINITION. The Home rate and its ticks (R86, R187, R189), points and their domains (R188), routes, gains, direct
lanes and landings as shared operations (chapter 08). -/

namespace Sys2Proof.Machine

open Sys2Proof

/-! ### The Home rate -/

/-- FH of page 0x0A00. -/
def fhCode (s : State) : Nat := Page.get s.fab.page0A00 24 2
/-- A rate code of FH in Hz (Table 8.10). -/
def fhOf (code : Nat) : Nat := [44100, 48000, 88200, 96000].getD code 48000
/-- Fh in Hz. -/
def fhHz (s : State) : Nat := fhOf (fhCode s)
/-- Base rate of the family in force in Hz (Table 4.2). -/
def baseHz (s : State) : Nat := if famOf s then 44100 else 48000
/-- Fi of the direct lanes in Hz. -/
def fiHz (s : State) : Nat := 16 * baseHz s
/-- ZC_TIMEOUT_MS in tu. -/
def zcTimeoutTu (s : State) : Nat := msTu (Page.get s.fab.page0A00 16 8)
/-- FADE of page 0x0A00. -/
def defaultFade (s : State) : Nat := Page.get s.fab.page0A00 0 9

/-- Rates of Table 5.2 in Hz. -/
def rateHz (code : Nat) : Nat :=
  [8000, 11025, 16000, 22050, 24000, 32000, 44100, 48000, 88200, 96000, 176400, 192000].getD code 48000

/-- `n` samples of a rate in tu, rounded up. -/
def samplesTu (hz n : Nat) : Nat := cdiv (n * 24576000) hz
/-- Ticks of a rate made from ASYN in `dt` tu, from an aligned base tick (R86). -/
def ticksIn (s : State) (hz dt : Nat) : Nat :=
  if s.time.tickPpb = 0 then dt * hz / 24576000
  else dt * hz * (1000000000 + s.time.tickPpb).toNat / 24576000000000000
/-- `n` ticks of a rate made from ASYN in tu, rounded up. -/
def ticksTu (s : State) (hz n : Nat) : Nat :=
  if s.time.tickPpb = 0 then samplesTu hz n
  else cdiv (n * 24576000000000000) (hz * (1000000000 + s.time.tickPpb).toNat)
/-- ASYN is locked or coasts: its ticks run (R86). -/
def asynRuns (s : State) : Bool :=
  s.clk.asyn == .locked || s.clk.asyn == .coasting || s.clk.asyn == .rejoining
/-- A tick of a rate made from ASYN stands at this tu (R86, R165). -/
def onTick (s : State) (hz : Nat) : Bool :=
  let dt := s.time.now - s.time.tickBase
  asynRuns s && decide (s.time.tickBase ≤ s.time.now) && ticksTu s hz (ticksIn s hz dt) == dt
/-- Internal time of the next tick of a rate, at or after now. -/
def nextTick (s : State) (hz : Nat) : Nat :=
  let dt := s.time.now - s.time.tickBase
  let k := ticksIn s hz dt
  s.time.tickBase + (if ticksTu s hz k = dt then dt else ticksTu s hz (k + 1))
/-- A tick of a rate stood in `[t, now)`: a boundary at or after `t` has passed (R81). -/
def tickPassed (s : State) (hz t : Nat) : Bool :=
  let dt := s.time.now - s.time.tickBase
  let k := ticksIn s hz dt
  let last := if ticksTu s hz k = dt then k - 1 else k
  decide (t < s.time.now ∧ t ≤ s.time.tickBase + ticksTu s hz last ∧ s.time.tickBase + ticksTu s hz last < s.time.now)
/-- Number of the sample tick at Fh that stands at the internal time `t`: ticks are counted from an aligned base tick at
the rate of the reference ASYN follows (R86, R99). -/
def tickAt (s : State) (t : Nat) : Nat := s.time.tickNo + ticksIn s (fhHz s) (t - s.time.tickBase)
/-- Number of the latest sample tick at Fh. -/
def sampleNo (s : State) : Nat := tickAt s s.time.now
/-- Internal time of sample tick `k`. -/
def tickTu (s : State) (k : Nat) : Nat := s.time.tickBase + ticksTu s (fhHz s) (k - s.time.tickNo)
/-- Number of base ticks since the aligned base tick that ticks are counted from. -/
def baseTicks (s : State) : Nat := ticksIn s (baseHz s) (s.time.now - s.time.tickBase)
/-- Internal time of the latest base tick. -/
def baseTickTu (s : State) : Nat := s.time.tickBase + ticksTu s (baseHz s) (baseTicks s)
/-- Sample ticks at Fh in one base period. -/
def fhPerBase (s : State) : Nat := fhHz s / baseHz s
/-- Ticks go on at another rate from the latest base tick. A tick's place within its tu is not kept, and a rate below the
base rate counts its ticks from there: which base ticks carry them the spec does not say (DESIGN CHOICE, log entry
"Base tick"). -/
def retick (ppb : Int) (s : State) : State :=
  if s.time.tickPpb = ppb then s
  else { s with
    time.tickBase := baseTickTu s, time.tickNo := s.time.tickNo + fhPerBase s * baseTicks s
    time.baseNo := s.time.baseNo + baseTicks s, time.tickPpb := ppb }
/-- The base tick moves by `j` sixteenths of a tu: the dividers stepped (Table 4.5). -/
def tickShift (j : Int) (s : State) : State :=
  { s with time.tickBase := ((s.time.tickBase : Int) + j / 16).toNat }
/-- The base tick is aligned to a marker at `m`, at or before now, and ticks run at a rate `ppb` from the crystal's; sample
ticks go on in number (R99). -/
def alignAt (m : Nat) (ppb : Int) (s : State) : State :=
  let n := sampleNo s
  let b := s.time.baseNo + baseTicks s
  let s := { s with time.tickBase := m, time.tickPpb := ppb }
  let p := ticksIn s (fhHz s) (s.time.now - m)
  let q := baseTicks s
  if p ≤ n ∧ q ≤ b then { s with time.tickNo := n - p, time.baseNo := b - q }
  else { s with time.tickBase := baseTickTu s, time.tickNo := n, time.baseNo := b }

/-- The base tick is aligned to a marker of the crystal: device time is a multiple of 245,760 tu there (R99). -/
def alignXtal (s : State) : State := alignAt (s.time.start + devTime s / 245760 * 245760) 0 s

/-- The base tick is aligned to the first marker of the reference ASYN locks to that fine lock is followed by: the latest
marker seen since the sequence began. Where no command has brought one, where it fell is open (R99, log entry "Base
tick"). -/
def alignRef (ppb : Int) (s : State) : State :=
  match vget s.clk.marks s.clk.target with
  | some m =>
    if s.clk.measureDue ≤ m + tuPerMs then alignAt m ppb s
    else let r := freshNat s; alignAt (s.time.now - r.1 % (24576000 / baseHz s)) ppb r.2
  | none => let r := freshNat s; alignAt (s.time.now - r.1 % (24576000 / baseHz s)) ppb r.2

/-- SYNC_GPIO of page 0x0400. Its active edge is taken as the rising one: the spec does not say (DESIGN CHOICE, log entry
"Base tick"). -/
def syncGpio (s : State) : Nat := Page.get s.clk.page 40 8

/-- An active marker of reference `ref` comes now (Table 4.3). -/
def markSeen (ref : Nat) (s : State) : State :=
  { s with
    clk.marks := vset s.clk.marks ref (some s.time.now)
    clk.syncGap := if ref = 1 then (vget s.clk.marks 1).map (fun m => s.time.now - m) else s.clk.syncGap }

/-- 5 ms in tu: the fades of a STEP rejoin (Table 4.5). -/
abbrev stepFade : Nat := 122880

/-- Level of the analog outputs, drive ports and digital outputs in a STEP rejoin, of `stepFade` (Table 4.5): down over 5 ms,
silent until the dividers stand at the new phase, up over 5 ms. -/
def stepLevel (s : State) : Nat :=
  match s.clk.stepAt with
  | none => stepFade
  | some a => if s.time.now < a then stepFade - (s.time.now - s.clk.stepFrom) else min stepFade (s.time.now - a)

/-- SAMPLE of SCHED_STATUS_GET before it wraps (R265). -/
def sampleCount (s : State) : Nat := match s.gra.countHeld with | some k => k | none => sampleNo s - s.gra.fhSince

/-- ASYN's ticks stop: SAMPLE stands still (R86, R265). -/
def countStop (s : State) : State := { s with gra.countHeld := some (sampleCount s) }

/-- ASYN's ticks run: SAMPLE goes on. -/
def countGo (s : State) : State := { s with gra.fhSince := sampleNo s - sampleCount s, gra.countHeld := none }
/-- F: the frame size in force (R189). -/
def frameSize (s : State) : Nat := match s.gra.image with | some i => 2 ^ i.frame | none => 8
/-- Device time of the latest frame boundary on the grid (R189). -/
def boundaryTu (s : State) : Nat :=
  tickTu s ((sampleNo s - s.gra.gridBase) / frameSize s * frameSize s + s.gra.gridBase)
/-- A frame boundary stands that has not been taken. -/
def boundaryDue (s : State) : Bool :=
  match s.gra.lastBoundary with
  | some b => decide (b < boundaryTu s ∧ boundaryTu s ≤ s.time.now)
  | none => decide (boundaryTu s ≤ s.time.now)
/-- A change of Fh holds outputs and ports: before its step 4 (Table 8.8). -/
def fhChanging (s : State) : Bool := match s.fab.fhChange with | some f => f.step != 4 | none => false

/-- A frame boundary has been taken after device time `t`, and no change of Fh holds boundaries back (R216). -/
def boundarySince (t : Nat) (s : State) : Bool :=
  s.fab.fhChange.isNone && (match s.gra.lastBoundary with | some b => decide (t < b) | none => false)

/-! ### Points and their domains (Tables 8.1, 8.3, 8.4) -/

/-- Domain of a point; a Foreign point carries the number of its clock. -/
inductive Domain where
  | home | alternate | foreign (clock : Nat)
  deriving DecidableEq, Repr

/-- Rate and domain of a point. -/
structure PointRate where
  /-- 0: not known, no clock -/
  hz : Nat
  dom : Domain
  deriving DecidableEq, Repr

def tdmOf (s : State) (n : Nat) : TdmPort := vget s.tdm.ports n
def onTdm (n : Nat) (f : TdmPort → TdmPort) (s : State) : State := { s with tdm.ports := vupd s.tdm.ports n f }
def rxOf (s : State) (k : Nat) : SpdifRx := vget s.tdm.rx k
def onRx (k : Nat) (f : SpdifRx → SpdifRx) (s : State) : State := { s with tdm.rx := vupd s.tdm.rx k f }

/-- MASTER and FORMAT of a TDM port (Table 9.5). -/
def tdmMaster (s : State) (n : Nat) : Bool := Page.bit (tdmOf s n).page 30
def tdmEn (s : State) (n : Nat) : Bool := Page.bit (tdmOf s n).page 31
def tdmFormat (s : State) (n : Nat) : Option TdmFormat := (tdmOf s n).formats[Page.get (tdmOf s n).page 0 3]?

/-- The port is ASYN's reference by BCLK or FSYNC (Table 4.3). -/
def tdmIsRef (s : State) (n : Nat) : Bool := s.clk.ref == 2 + n || s.clk.ref == 8 + n
/-- The receiver is ASYN's reference (Table 4.3). -/
def rxIsRef (s : State) (k : Nat) : Bool := s.clk.ref == 14 + k

/-- Rate belongs to the 44.1 kHz family. -/
def is441 (hz : Nat) : Bool := hz % 11025 == 0

/-- Home or Alternate by rate (Table 8.1). -/
def byRate (s : State) (hz : Nat) : PointRate := ⟨hz, if is441 hz == famOf s then .home else .alternate⟩

/-- The TDM port and slot that a TDM point is bound to, where the binding is active (R224). -/
def tdmBinding (s : State) (out : Bool) (point : Nat) : Option (Nat × TdmBind) :=
  ((List.range 6).findSome? (fun n => ((tdmOf s n).map.find? (fun b => b.out == out && b.point == point)).map
    (fun b => (n, b)))).filter (fun x => match tdmFormat s x.1 with
      | some f => decide (x.2.slot < f.slots)
      | none => false)

/-- Rate and domain of a TDM port. -/
def tdmRate (s : State) (n : Nat) : PointRate :=
  let nominal := match tdmFormat s n with | some f => rateHz f.rate | none => 0
  if tdmMaster s n then byRate s nominal
  else
    let hz := match (tdmOf s n).rate with | some r => rateHz r | none => nominal
    if tdmIsRef s n then byRate s hz else ⟨hz, .foreign (1 + n)⟩

/-- The binding of a ring point (R347). -/
def ringBinding (s : State) (out : Bool) (point : Nat) : Option RingBind :=
  s.ring.map.find? (fun b => b.out == out && b.point == point)

/-- R142: the full path of group 0 is in the Home domain. -/
def group0Home (s : State) : Bool := s.clk.ref == 0 && !famOf s && fhCode s == 1

/-- Rate and domain of a source point; none where nothing is bound to it. -/
def sourceRate (s : State) (p : Nat) : Option PointRate :=
  let home : PointRate := ⟨fhHz s, .home⟩
  if p < 4 then some (byRate s (rateHz (Page.get s.ana.page0500 (32 * p + 18) 4)))
  else if p < 8 then some (if group0Home s then home else ⟨48000, .foreign 9⟩)
  else if p < 68 then some home
  else if p < 100 then (tdmBinding s false (p - 68)).map (fun x => tdmRate s x.1)
  else if p < 104 then
    let k := (p - 100) / 2
    let hz := match (rxOf s k).rate with | some r => rateHz r | none => 0
    some (if rxIsRef s k then byRate s hz else ⟨hz, .foreign (7 + k)⟩)
  else if p < 136 then
    (ringBinding s false (p - 104)).map (fun b => ⟨if b.wide then 2 * baseHz s else baseHz s, .home⟩)
  else some home

/-- Rate and domain of a sink point. -/
def sinkRate (s : State) (k : Nat) : Option PointRate :=
  if 30 ≤ k ∧ k < 62 then (tdmBinding s true (k - 30)).map (fun x => tdmRate s x.1)
  else if k = 62 ∨ k = 63 then some (byRate s (rateHz (Page.get s.tdm.page0D00 56 4)))
  else if 64 ≤ k ∧ k < 96 then
    (ringBinding s true (k - 64)).map (fun b => ⟨if b.wide then 2 * baseHz s else baseHz s, .home⟩)
  else some ⟨fhHz s, .home⟩

/-- Rate and domain of a point of a landing: sinks for an outbound one. -/
def pointRate (s : State) (out : Bool) (p : Nat) : Option PointRate := if out then sinkRate s p else sourceRate s p

/-- The point is Home at Fh and connects directly (R189). -/
def homeAtFh (s : State) (out : Bool) (p : Nat) : Bool := pointRate s out p == some ⟨fhHz s, .home⟩

/-- The clock of a point runs (R192, R194). -/
def pointClock (s : State) (out : Bool) (p : Nat) : Bool :=
  let tdmRuns (n : Nat) : Bool := (tdmOf s n).st == .running && decide ((tdmOf s n).startAt ≤ s.time.now)
  if out then
    if 30 ≤ p ∧ p < 62 then (match tdmBinding s true (p - 30) with | some x => tdmRuns x.1 | none => false)
    else if p = 62 ∨ p = 63 then Page.bit s.tdm.page0D00 63
    else if 64 ≤ p ∧ p < 96 then s.ring.role != .off && s.ring.role != .alone
    else true
  else if 4 ≤ p ∧ p < 8 then s.mic.clk0 != 0 || s.mic.mute
  else if 68 ≤ p ∧ p < 100 then (match tdmBinding s false (p - 68) with | some x => tdmRuns x.1 | none => false)
  else if 100 ≤ p ∧ p < 104 then (rxOf s ((p - 100) / 2)).st == .pcm || (rxOf s ((p - 100) / 2)).st == .nonPcm
  else if 104 ≤ p ∧ p < 136 then s.ring.role != .off && s.ring.role != .alone
  else true

/-! ### Retired channels (R209) -/

def drvOf (s : State) (n : Nat) : DrvPort := vget s.drv.ports n
def onDrv (n : Nat) (f : DrvPort → DrvPort) (s : State) : State := { s with drv.ports := vupd s.drv.ports n f }

/-- A drive port is retired. -/
def drvRetired (s : State) (n : Nat) : Bool := (drvOf s n).st == .retired

/-- A source point belongs to a retired channel (Table 13.5). -/
def sourceRetired (s : State) (p : Nat) : Bool :=
  if 4 ≤ p ∧ p < 20 then (vget s.mic.chans (p - 4)).st == .retired
  else if 20 ≤ p ∧ p < 44 then drvRetired s (p - 20)
  else if 44 ≤ p ∧ p < 68 then drvRetired s (p - 44)
  else if 68 ≤ p ∧ p < 100 then
    (List.range 6).any (fun n => (tdmOf s n).st == .retired
      && (tdmOf s n).map.any (fun b => !b.out && b.point == p - 68))
  else false

/-- A sink point belongs to a retired channel. -/
def sinkRetired (s : State) (k : Nat) : Bool :=
  if 6 ≤ k ∧ k < 30 then drvRetired s (k - 6)
  else if 30 ≤ k ∧ k < 62 then
    (List.range 6).any (fun n => (tdmOf s n).st == .retired
      && (tdmOf s n).map.any (fun b => b.out && b.point == k - 30))
  else false

/-- A route target belongs to a retired channel. -/
def targetRetired (s : State) (t : Nat) : Bool := decide (t < 128) && sinkRetired s t

/-! ### Gains (R199, R203 to R206, R214) -/

/-- Mute. -/
abbrev mute : Int := -32768
/-- A gain of the encoding of R199. -/
def gainOk (g : Int) : Bool := g == mute || withinI (-2400) 480 g

def targetOf (s : State) (t : Nat) : Target := vget s.fab.targets t
def onTarget (t : Nat) (f : Target → Target) (s : State) : State := { s with fab.targets := vupd s.fab.targets t f }
def laneOf (s : State) (j : Nat) : Lane := vget s.fab.lanes j
def onLane (j : Nat) (f : Lane → Lane) (s : State) : State := { s with fab.lanes := vupd s.fab.lanes j f }

/-- Stored gain of an index; 1,280 + j is direct lane j. -/
def gainStored (s : State) (i : Nat) : Int := if i < 1280 then vget s.fab.gains i else (laneOf s (i - 1280)).gain
def putGain (i : Nat) (g : Int) (s : State) : State :=
  if i < 1280 then { s with fab.gains := vset s.fab.gains i g }
  else onLane (i - 1280) (fun l => { l with gain := g }) s

/-- The basic change that waits or ramps on an index. -/
def gainJob (s : State) (i : Nat) : Option GainJob := s.fab.gainJobs.find? (fun j => j.index == i)

/-- A gain in 0.05 dB, none mute (R199). -/
def gainOf (g : Int) : Option Rat := if g = mute then none else some (g : Rat)

/-- `n ≤ a × 10^(g/400)` in whole numbers. -/
def gainFits (g : Rat) (a n : Nat) : Bool :=
  let e := 400 * g.den
  if 0 ≤ g.num then decide (n ^ e ≤ a ^ e * 10 ^ g.num.toNat) else decide (n ^ e * 10 ^ (-g.num).toNat ≤ a ^ e)

/-- The product is the whole number `n`. -/
def gainWhole (g : Rat) (a n : Nat) : Bool :=
  let e := 400 * g.den
  if 0 ≤ g.num then decide (n ^ e = a ^ e * 10 ^ g.num.toNat) else decide (n ^ e * 10 ^ (-g.num).toNat = a ^ e)

/-- A sample times a gain of `g` × 0.05 dB, 10^(g/400) (R198 to R200); which way a product that is not whole is rounded is
open. -/
def gainMul (g : Rat) (v : Int) : Int :=
  if g = 0 then v
  else
    let n := greatest (gainFits g v.natAbs) 48 0
    v.sign * ((n + (if gainWhole g v.natAbs n then 0 else b2n (Config.gainUp g v)) : Nat) : Int)

/-- Length of a ramp and the rate it counts at (R204, R214). -/
def rampLen (i : Nat) : Nat := if i < 1280 then 32 else 512
def rampHz (s : State) (i : Nat) : Nat := if i < 1280 then fhHz s else fiHz s

/-- A dB-linear ramp after `k` of `n` samples (R204): a straight line in dB between two gains. -/
def rampLevel (from_ goal : Option Rat) (n k : Nat) : Option Rat :=
  if n ≤ k then goal
  else if k = 0 then from_
  else match from_, goal with
    | some a, some b => some (a + (b - a) * (k : Rat) / (n : Rat))
    | a, b => Config.muteRamp a b k n

/-- Gain in force in 0.05 dB, none mute: within a ramp the value it has reached. -/
def gainLevel (s : State) (i : Nat) : Option Rat :=
  match gainJob s i with
  | some { ramp := some (t, g), goal := goal, .. } =>
    rampLevel g (gainOf goal) (rampLen i) ((s.time.now - t) * rampHz s i / 24576000)
  | _ => gainOf (gainStored s i)

/-- Gain in force in whole steps of 0.05 dB; within a ramp the rounding is open. -/
def gainNow (s : State) (i : Nat) : Int :=
  match gainJob s i with
  | some { ramp := some _, .. } =>
    match gainLevel s i with
    | some g => roundDiv g.den g.num
    | none => mute
  | _ => gainStored s i

/-- Remove the change on an index. -/
def dropGainJob (i : Nat) (s : State) : State :=
  { s with fab.gainJobs := s.fab.gainJobs.filter (fun j => j.index != i) }

/-- A waiting or ramping change is cancelled with SUPERSEDED (R205, R206). -/
def cancelGain (i : Nat) (s : State) : State :=
  match gainJob s i with
  | some j => complete j.cid .superseded (putGain i (gainNow s i) (dropGainJob i s))
  | none => s

/-- A basic change of a gain (R203 to R205). -/
def gainBasic (i : Nat) (g : Int) (cid : Option Nat) (s : State) : State :=
  match gainJob s i with
  | none => { s with fab.gainJobs := s.fab.gainJobs ++ [{ index := i, goal := g, due := s.time.now + zcTimeoutTu s,
                                                          cid := cid }] }
  | some j =>
    let reached := gainLevel s i
    let j' := match j.ramp with
      | none => { j with goal := g, cid := cid }
      | some _ => { j with goal := g, ramp := some (s.time.now, reached), cid := cid }
    let s := dropGainJob i s
    complete j.cid .superseded { s with fab.gainJobs := s.fab.gainJobs ++ [j'] }

/-- A change takes its final value. -/
def gainDone (i : Nat) (s : State) : State :=
  match gainJob s i with
  | some j => complete j.cid .ok (putGain i j.goal (dropGainJob i s))
  | none => s

/-- The timeout has closed: the ramp begins, E203 (R204). A lane has no gain index: the argument is then open. -/
def rampBegin (i : Nat) (s : State) : State :=
  match gainJob s i with
  | some j =>
    let g := gainLevel s i
    let s := dropGainJob i s
    let s := { s with fab.gainJobs := s.fab.gainJobs ++ [{ j with ramp := some (s.time.now, g) }] }
    if i < 1280 then raise 203 i s
    else
      let r := freshNat s
      raise 203 r.1 r.2
  | none => s

/-- The last sample of a gain's input was negative; zero counts as positive (R203). -/
def gainSign (s : State) (i : Nat) : Bool := if i < 1280 then s.fab.inNeg.getLsbD i else (laneOf s (i - 1280)).neg

/-- A sample of a gain's input is a zero crossing (R203), or has VALID low (R204). -/
def gainCross (s : State) (i : Nat) (a : Smp) : Bool := !a.valid || a.v == 0 || decide (a.v < 0) != gainSign s i

/-- A sample of its input meets the basic change of a gain (R203, R204): a ramp that has run its length ends, a timeout that
has closed begins one, and inside the timeout a zero crossing takes the change. -/
def gainMeet (i : Nat) (a : Smp) (s : State) : State :=
  match gainJob s i with
  | none => s
  | some j =>
    match j.ramp with
    | some (t, _) => if closed (t + samplesTu (rampHz s i) (rampLen i)) s then gainDone i s else s
    | none => if closed j.due s then rampBegin i s else if gainCross s i a then gainDone i s else s

/-- A change at the next sample (R206). -/
def gainDirect (i : Nat) (g : Int) (s : State) : State := putGain i g (cancelGain i s)

/-! ### Routes (R207 to R209) -/

/-- A basic route change (R207, R208): it replaces one that waits and cancels gain changes of the target (R205). -/
def routeChange (t : Nat) (src : Option Nat) (gain : Int) (fade : Nat) (cid : Option Nat) (s : State) : State :=
  let s := cancelGain t s
  let old := (targetOf s t).wait
  let s := onTarget t (fun x => { x with wait := some { src := src, gain := gain, fade := fade, asked := s.time.now,
                                                        cid := cid } }) s
  match old with
  | some w => complete w.cid .superseded s
  | none => s

/-- An expert route change (R208): waiting change and fade end with SUPERSEDED, the target switches. -/
def routeDirect (t : Nat) (src : Option Nat) (gain : Int) (s : State) : State :=
  let s := cancelGain t s
  let x := targetOf s t
  let s := onTarget t (fun x => { x with src := src, wait := none, fade := none }) s
  let s := putGain t gain s
  let s := match x.fade with | some f => complete f.cid .superseded s | none => s
  let s := match x.wait with
    | some w => complete w.cid .superseded s
    | none => s
  raise 200 t s

/-- A waiting change takes effect at its boundary (R207): E200, the fade begins. -/
def routeApply (t : Nat) (s : State) : State :=
  match (targetOf s t).wait with
  | none => s
  | some w =>
    let g := gainStored s t
    let s := onTarget t (fun x => { x with
      src := w.src, wait := none
      fade := if w.fade = 0 then none
        else some { n := w.fade, began := s.time.now, oldSrc := x.src, oldGain := g, cid := w.cid, pos := 0 } }) s
    let s := raise 200 t (putGain t w.gain s)
    if w.fade = 0 then complete w.cid .ok s else s

/-! ### Direct lanes (R212 to R215) -/

/-- Fields of page 0x0A10 (Table 8.12). -/
def laneEn (s : State) (j : Nat) : Bool := Page.bit s.fab.page0A10 (64 * j + 31)
def laneMute (s : State) (j : Nat) : Bool := Page.bit s.fab.page0A10 (64 * j + 30)
def laneSrc (s : State) (j : Nat) : Nat := Page.get s.fab.page0A10 (64 * j + 16) 8
def laneSnk (s : State) (j : Nat) : Nat := Page.get s.fab.page0A10 (64 * j + 8) 8

/-- The points a lane may use (Table 8.6). -/
def lanePoints (src snk : Nat) : Bool := (decide (src < 20) || (decide (68 ≤ src ∧ src < 100))) && decide (snk < 30)

/-- The source of a lane runs (Table 8.6). -/
def laneSrcRuns (s : State) (p : Nat) : Bool :=
  if p < 4 then (vget s.ana.ins p).running && (vget s.ana.ins p).rampEnd.isNone
  else if p < 8 then
    (vget s.mic.chans (p - 4)).st == .running && s.mic.clk0 == 2 && s.pwr.asleep.isNone && group0Home s
  else if p < 20 then (vget s.mic.chans (p - 4)).st == .running
  else match tdmBinding s false (p - 68) with
    | some x => pointClock s false p && decide ((tdmRate s x.1).dom = .home ∧ (tdmRate s x.1).hz ≤ 96000)
    | none => false

/-- The sink of a lane runs (Table 8.6): output ON, or port running in closed or open loop. -/
def laneSnkRuns (s : State) (k : Nat) : Bool :=
  if k < 6 then (vget s.ana.fns k).st == .on
  else (drvOf s (k - 6)).st == .running && Page.get (drvOf s (k - 6)).page 29 2 != 2

/-- Both ends of a lane run and HALL_AUD carries it. -/
def laneEnds (s : State) (src snk : Nat) : Bool := laneSrcRuns s src && laneSnkRuns s snk && hallsOpen 8 s

/-- The sink of a lane is on its way through a change of Fh: held or stopped, or on its way back (Table 8.8, R216). -/
def laneSnkReturns (s : State) (k : Nat) : Bool :=
  if k < 6 then
    let f := vget s.ana.fns k
    f.st == .held || f.st == .starting || (f.st == .shuttingDown && f.toHeld)
  else (drvOf s (k - 6)).st == .softStart || ((drvOf s (k - 6)).st == .quietStop && (drvOf s (k - 6)).again)

/-- The lane goes on: both ends run, or it is kept through a change of Fh. -/
def laneGoes (s : State) (l : Lane) : Bool :=
  laneEnds s l.src l.snk || (l.kept && laneSrcRuns s l.src && laneSnkReturns s l.snk && hallsOpen 8 s)

/-- State code of E205. -/
def LaneState.code : LaneState → Nat
  | .stopped => 0 | .running => 1 | .muted => 2 | .fault => 3

/-- A lane changes state: E205 (R215). -/
def laneTo (j : Nat) (st : LaneState) (s : State) : State :=
  raise 205 (j * 256 + st.code) (onLane j (fun l => { l with st := st }) s)

/-- The command of a lane completes. -/
def laneDone (j : Nat) (st : Status) (s : State) : State :=
  complete (laneOf s j).cid st (onLane j (fun l => { l with cid := none }) s)

/-- The protection keeps the lanes that end at a sink muted (R322). -/
def laneGuarded (s : State) (snk : Nat) : Bool :=
  decide (6 ≤ snk ∧ snk < 30) && (vget s.prot.ports (snk - 6)).lanesMuted

/-- Level of a lane in parts of 24,576: along its 1 ms ramp, or at rest. -/
def laneLevel (s : State) (j : Nat) : Nat :=
  let l := laneOf s j
  match l.ramp with
  | some (_, d) =>
    let rest := min tuPerMs (d - s.time.now)
    (l.levelFrom * rest + l.levelTo * (tuPerMs - rest)) / tuPerMs
  | none => l.levelTo

/-- A ramp of 1 ms begins from the level the lane has. -/
def laneRamp (j : Nat) (what : LaneRamp) (goal : Nat) (s : State) : State :=
  let v := laneLevel s j
  onLane j (fun l => { l with ramp := some (what, s.time.now + tuPerMs), levelFrom := v, levelTo := goal }) s

/-- A lane starts: its gain rises from zero over 1 ms (R215), a muted one stays at zero. -/
def laneStart (j : Nat) (s : State) : State :=
  laneRamp j .start (if laneMute s j || laneGuarded s (laneSnk s j) then 0 else tuPerMs)
    (onLane j (fun l => { l with ramp := none, levelTo := 0, src := laneSrc s j, snk := laneSnk s j }) s)

/-- A lane that carries or raises sound. -/
def laneLive (l : Lane) : Bool :=
  l.st == .running || l.st == .muted || (match l.ramp with | some (.start, _) => true | _ => false)

/-- A lane falls to zero over 1 ms. -/
def laneStop (j : Nat) (again : Bool) (s : State) : State := laneRamp j (.stop again) 0 s

/-- An end of an enabled lane is retired: the lane stays stopped until it is reconfigured (R215). -/
def laneBar (s : State) : State :=
  { s with
    fab.lanes := vmapi s.fab.lanes (fun j l => { l with
      barred := l.barred || (laneEn s j && (sourceRetired s (laneSrc s j) || sinkRetired s (laneSnk s j))) }) }

/-- Every lane whose end no longer runs stops at once, E205 with state 3 (R215); a lane kept through a change of Fh is an
ordinary one again once its sink runs. -/
def laneFollow (s : State) : State :=
  (List.range 8).foldl (fun s j =>
    let l := laneOf s j
    if laneLive l && !laneGoes s l then
      let s := onLane j (fun l => { l with
        ramp := none, levelTo := 0, kept := false, barred := l.barred || sourceRetired s l.src || sinkRetired s l.snk }) s
      laneDone j .ok (laneTo j .fault s)
    else if l.kept && !fhChanging s && laneEnds s l.src l.snk then onLane j (fun l => { l with kept := false }) s
    else s) (laneBar s)

/-- Live lanes are kept through a change of Fh, or no longer are (R216). -/
def lanesKeep (on : Bool) (s : State) : State :=
  { s with fab.lanes := s.fab.lanes.map (fun l => { l with kept := on && laneLive l }) }

/-- A lane mutes or unmutes with the 1 ms ramp (R214, R322). -/
def laneMuteRamp (j : Nat) (on : Bool) (s : State) : State :=
  laneRamp j (if on then .mute else .unmute) (if on then 0 else tuPerMs) s

/-- A lane may start: configured, at rest, no end retired, both ends run (R215). -/
def laneMayStart (s : State) (j : Nat) : Bool :=
  let l := laneOf s j
  laneEn s j && !l.barred && !laneLive l && l.ramp.isNone && laneEnds s (laneSrc s j) (laneSnk s j)

/-- Other enabled lanes that end at a sink (R212). -/
def lanesAt (s : State) (j snk : Nat) : Nat := ((List.range 8).filter (fun i => i != j && laneEn s i && laneSnk s i == snk)).length

/-- Write the fields of a lane in page 0x0A10. -/
def lanePut (j : Nat) (en mute : Bool) (src snk : Nat) (g : Int) (s : State) : State :=
  { s with
    fab.page0A10 := Page.put s.fab.page0A10 (64 * j) 64
      (b2n en * 2 ^ 31 + b2n mute * 2 ^ 30 + src * 2 ^ 16 + snk * 2 ^ 8 + unsignedOf 16 g * 2 ^ 32) }

/-- The command of a lane is replaced by a newer one. -/
def laneCid (j : Nat) (cid : Option Nat) (s : State) : State :=
  let old := (laneOf s j).cid
  complete old .superseded (onLane j (fun l => { l with cid := cid }) s)

/-- Configure, start or stop a lane (ROUTE_LANE_SET, R214, R215). -/
def laneSet (j : Nat) (en mute : Bool) (src snk : Nat) (g : Int) (cid : Option Nat) (s : State) : State × Status :=
  if !lanePoints src snk || (en && decide (2 ≤ lanesAt s j snk)) then (s, .badParam)
  else if sourceRetired s src || sinkRetired s snk then (s, .retired)
  else
    let wasMute := laneMute s j
    let s := lanePut j en mute src snk g s
    let l := laneOf s j
    if en then
      match l.ramp with
      | some (.stop _, due) =>
        (onLane j (fun l => { l with ramp := some (.stop true, due), gain := g, barred := false }) (laneCid j cid s),
          .pending)
      | _ =>
        if laneLive l && l.src == src && l.snk == snk then
          if mute != wasMute && !laneGuarded s snk then
            let s := if g = gainNow s (1280 + j) then s else gainBasic (1280 + j) g none s
            (laneMuteRamp j mute (laneCid j cid s), .pending)
          else if g = gainNow s (1280 + j) ∧ (gainJob s (1280 + j)).isNone then (s, .ok)
          else (gainBasic (1280 + j) g cid s, .pending)
        else if laneLive l then (laneStop j true (onLane j (fun l => { l with gain := g }) (laneCid j cid s)), .pending)
        else
          let s := onLane j (fun l => { l with gain := g, barred := false }) s
          if laneEnds s src snk then (laneStart j (laneCid j cid s), .pending) else (s, .notReady)
    else if laneLive l then (laneStop j false (laneCid j cid s), .pending)
    else
      match l.ramp with
      | some (.stop _, due) =>
        (onLane j (fun l => { l with ramp := some (.stop false, due) }) (laneCid j cid s), .pending)
      | _ => (if l.st = .fault then laneTo j .stopped s else s, .ok)

/-! ### Landings (R190 to R195) -/

def landOf (s : State) (k : Nat) : Landing := vget s.fab.lands k
def onLand (k : Nat) (f : Landing → Landing) (s : State) : State := { s with fab.lands := vupd s.fab.lands k f }

/-- Fields of a landing page (Table 8.11). -/
def landEn (l : Landing) : Bool := Page.bit l.page 31
def landOut (l : Landing) : Bool := Page.bit l.page 30
def landTrack (l : Landing) : Bool := Page.bit l.page 29
def landChans (l : Landing) : List Nat := (List.range (Page.get l.page 24 4)).map (fun i => Page.get l.page (32 + 8 * i) 8)

/-- Input and output rate of a landing. -/
def landRates (s : State) (l : Landing) : Nat × Nat :=
  let p := match landChans l with
    | c :: _ => ((pointRate s (landOut l) c).map (fun r => r.hz)).getD 0
    | [] => 0
  if landOut l then (fhHz s, p) else (p, fhHz s)

/-- ASYNC mode (R191). -/
def landAsync (s : State) (l : Landing) : Bool :=
  match landChans l with
  | c :: _ => (match pointRate s (landOut l) c with | some ⟨_, .foreign _⟩ => true | _ => false)
  | [] => false

/-- A point's TDM port comes back from DOZE (R195, R229). -/
def pointDozed (s : State) (out : Bool) (p : Nat) : Bool :=
  let x := if out then (if 30 ≤ p ∧ p < 62 then tdmBinding s true (p - 30) else none)
    else if 68 ≤ p ∧ p < 100 then tdmBinding s false (p - 68) else none
  match x with
  | some x => (tdmOf s x.1).dozed
  | none => false

/-- The source clock of a landing is present, or has been since before DOZE. -/
def landClock (s : State) (l : Landing) : Bool :=
  (landChans l).all (fun p => pointClock s (landOut l) p || pointDozed s (landOut l) p)

/-- A point is attached to a landing. -/
def landHas (l : Landing) (out : Bool) (p : Nat) : Bool := landEn l && landOut l == out && (landChans l).contains p

/-- Ratio range and channel limit for an input and an output rate (R190). -/
def landRatioOk (hz fh n : Nat) : Bool :=
  hz == 0 || (decide (hz ≤ 8 * fh ∧ fh ≤ 8 * hz) && decide (n ≤ (if 96000 < hz then 4 else 8)))

/-- A configuration is acceptable (R190). -/
def landConfigOk (s : State) (out : Bool) (chans : List Nat) : Bool :=
  chans.all (fun p => decide (p < (if out then 128 else 256))) &&
  (match chans with
   | [] => false
   | c :: _ => match pointRate s out c with
     | none => false
     | some r => chans.all (fun p => pointRate s out p == some r && !homeAtFh s out p)
         && landRatioOk r.hz (fhHz s) chans.length)

/-- A landing loses lock (R194): E192+k with argument 0; its outputs fall over 32 samples, then it acquires again. -/
def landLose (k : Nat) (s : State) : State :=
  let l := landOf s k
  if l.st = .locked then
    raise (192 + k) 0 (onLand k (fun l => { l with
      st := .acquiring, rise := 0, fall := 32, fallFrom := l.rise, fallOut := landOut l, fallChans := landChans l
      fallHz := landRates s l }) s)
  else s

/-- Landings whose source clock is gone lose lock (R194). -/
def landFollow (s : State) : State :=
  [0, 1, 2, 3].foldl (fun s k => if landClock s (landOf s k) then s else landLose k s) s

/-- Lanes and landings follow what they hang on (R194, R215). -/
def pathFollow (s : State) : State := laneFollow (landFollow s)

/-- Every landing acquires afresh: change of family or of Fh (R187, Table 8.8). -/
def landAfresh (s : State) : State :=
  [0, 1, 2, 3].foldl (fun s k => if landEn (landOf s k) then landLose k s else s) s

/-- Write the channels and count of a landing page. -/
def landPut (l : Landing) (en out track : Bool) (chans : List Nat) : Landing :=
  { l with page := BitVec.ofNat 96 ((b2n en * 2 ^ 31 + b2n out * 2 ^ 30 + b2n track * 2 ^ 29 + chans.length * 2 ^ 24)
      + leNat (chans.flatMap b1) * 2 ^ 32) }

/-- At a frame boundary channels that are Home at Fh are released (R189). A ROUTE_LANDING_SET that still waits for the lock
when the last one goes ends with OK: nothing is left to lock (no final status is given: DESIGN CHOICE, log entry "Landings
released or replaced"). -/
def landRelease (s : State) : State :=
  [0, 1, 2, 3].foldl (fun s k =>
    let l := landOf s k
    if landEn l then
      let keep := (landChans l).filter (fun p => !homeAtFh s (landOut l) p)
      if keep = landChans l then s
      else if keep = [] then
        complete (l.cid.map (fun c => c.1)) .ok
          (onLand k (fun l => { landPut l false (landOut l) (landTrack l) [] with st := .off, cid := none }) s)
      else
        let at_ := (List.range (landChans l).length).filter (fun i => keep.contains ((landChans l).getD i 0))
        onLand k (fun l => { landPut l true (landOut l) (landTrack l) keep with
          ins := l.ins.map (fun x => { x with smps := at_.map (fun i => x.smps.getD i {}) }) }) s
    else s) s

/-- Configure a landing (ROUTE_LANDING_SET, R190, R195). One that still waits for the lock ends with SUPERSEDED (its status list
does not name it: DESIGN CHOICE, log entry "Landings released or replaced"). -/
def landSet (k : Nat) (en out track : Bool) (chans : List Nat) (cid : Option Nat) (s : State) : State × Status :=
  if en && !landConfigOk s out chans then (s, .badParam)
  else if en && chans.any (fun p => [0, 1, 2, 3].any (fun i => i != k && landHas (landOf s i) out p)) then (s, .busy)
  else if en && chans.any (fun p => if out then sinkRetired s p else sourceRetired s p) then (s, .retired)
  else
    let old := (landOf s k).cid
    let s := landLose k s
    let s := onLand k (fun l => { landPut l en out track chans with
      st := if en then .acquiring else .off, ppm := 0, mark := 0, ins := if l.fall = 0 then [] else l.ins
      cid := if en then cid.map (fun c => (c, s.time.now + 2457600)) else none }) s
    let s := complete (old.map (fun c => c.1)) .superseded s
    (s, if en then .pending else .ok)

/-- Deviation of the ratio from nominal: none in SYNC mode (R191). -/
def landPpm (s : State) (l : Landing) : Int := if landAsync s l then l.ppm else 0

/-- Latency of a locked landing in 1/64 sample at its output rate (R193): exact in SYNC mode, in ASYNC mode open within half a
sample, or 4 samples while the source drifts. -/
def landLatency (s : State) (k : Nat) : Nat :=
  if landAsync s (landOf s k) then
    let slack := if (landOf s k).drifts then 256 else 32
    2048 - slack + Config.landSlip k s.time.now % (2 * slack + 1)
  else 2048

/-- The landing that carries a point: locked with the point attached, or still falling with it (R194). -/
def landOn (s : State) (out : Bool) (p : Nat) : Option Nat :=
  [0, 1, 2, 3].find? (fun k =>
    let l := landOf s k
    (landHas l out p && l.st == .locked) || (decide (0 < l.fall) && l.fallOut == out && l.fallChans.contains p))

/-- A point connects directly since the last frame boundary (R189). -/
def pointHome (s : State) (out : Bool) (p : Nat) : Bool := if out then s.fab.homeSnk.getLsbD p else s.fab.homeSrc.getLsbD p

/-- A point reaches the fabric: directly, or through a landing (R189). -/
def pointJoined (s : State) (out : Bool) (p : Nat) : Bool := pointHome s out p || (landOn s out p).isSome

/-- At a frame boundary points that have moved into or out of Home at Fh connect or part (R189). -/
def pointsTake (s : State) : State :=
  { s with
    fab.homeSrc := BitVec.ofNat 256 (maskOf ((List.range 256).map (homeAtFh s false)))
    fab.homeSnk := BitVec.ofNat 128 (maskOf ((List.range 128).map (homeAtFh s true))) }

/-! ### Silence (R210, R211) -/

def silenceOf (s : State) (p : Nat) : Silence := vget s.fab.silence p
def onSilence (p : Nat) (f : Silence → Silence) (s : State) : State :=
  { s with fab.silence := vupd s.fab.silence p f }

/-- Source points heard at a sink point: its route and the lanes that end there (R310, R392). -/
def watchedPoints (s : State) (k : Nat) : List Nat :=
  (match (targetOf s k).src with | some p => [p] | none => [])
    ++ ((List.range 8).filter (fun j => laneEn s j && laneSnk s j == k)).map (fun j => laneSrc s j)

/-- Every watched point of a sink is SILENT; a sink without source counts as silent. -/
def sinkSilent (s : State) (k : Nat) : Bool := (watchedPoints s k).all (fun p => (silenceOf s p).silent)

/-- Detectors count as having just seen a sample that was not quiet: at a wake (R210). -/
def silenceWake (s : State) : State :=
  { s with fab.silence := vmapi s.fab.silence (fun _ d => { d with since := s.time.now, quietAt := none }) }

/-- A sample is quiet (R210): VALID low, or its absolute value below 2^31 × 10^(THRESH/20). -/
def quietSample (thresh : Int) (a : Smp) : Bool :=
  !a.valid || decide (a.v.natAbs ^ 20 * 10 ^ (-thresh).toNat < 2 ^ 620)

end Sys2Proof.Machine
end

