-- ==== Sys2Proof/Machine/Flt.lean ====
section
/-! DEFINITION. Filter chains, coefficient banks, phase delays as shared operations (chapter 07). -/

namespace Sys2Proof.Machine

open Sys2Proof

def chainOf (s : State) (c : Nat) : Chain := vget s.flt.chains c
def onChain (c : Nat) (f : Chain → Chain) (s : State) : State := { s with flt.chains := vupd s.flt.chains c f }

/-- Chain rate fc in Hz (Table 7.1). -/
def chainHz (s : State) (c : Nat) : Nat :=
  if c < 4 then rateHz (Page.get s.ana.page0500 (32 * c + 18) 4) else if c < 8 then 48000 else fhHz s

/-- PHASE, DELAY_INT, DELAY_FRAC of a chain page (Table 7.6). -/
def chainPhase (s : State) (c : Nat) : Bool := Page.bit (chainOf s c).page 8
def chainDelayInt (s : State) (c : Nat) : Nat := Page.get (chainOf s c).page 16 8
def chainDelayFrac (s : State) (c : Nat) : Nat := Page.get (chainOf s c).page 10 6

/-- D and S (Table 7.2). -/
def chainDS (s : State) (c : Nat) : Nat × Nat :=
  let min := chainPhase s c
  if c < 4 then (if min then (4, 70) else (34, 40))
  else if c < 20 then (if min then (5, 64) else (30, 36))
  else if c < 26 then (if min then (4, 60) else (30, 34))
  else if c < 74 then (20, 24)
  else (if min then (3, 48) else (24, 28))

/-- NBQ, NFIR and SETTLE_ADD of an image (Table 7.3). -/
def imgNbq (b : List Byte) : Nat := leAt b 0 1
def imgNfir (b : List Byte) : Nat := leAt b 2 2
def imgSettle (b : List Byte) : Nat := leAt b 4 2

/-- The ACTIVE and the inactive bank. -/
def activeBank (k : Chain) : Bank := if k.active then k.bankB else k.bankA
def idleBank (k : Chain) : Bank := if k.active then k.bankA else k.bankB
def setIdleBank (b : Bank) (k : Chain) : Chain := if k.active then { k with bankA := b } else { k with bankB := b }

/-- FIR_TRUNC: fc above 96 kHz with more than 128 taps (R177). -/
def firTrunc (s : State) (c : Nat) : Bool :=
  decide (96000 < chainHz s c ∧ 128 < imgNfir (activeBank (chainOf s c)).image)

/-- Group delay in samples at fc (Table 7.2). -/
def chainGroupDelay (s : State) (c : Nat) : Rat :=
  if chainPhase s c && (decide (20 ≤ c ∧ c < 26) || decide (74 ≤ c)) then ((chainDS s c).1 : Rat) - 1 / 2 else ((chainDS s c).1 : Rat)

/-- End of the passband in Hz (Table 7.2); a group 0 PDM decimator fed at 768 kHz ends at 7.0 kHz (R164). -/
def chainBand (s : State) (c : Nat) : Rat :=
  let fc : Rat := (chainHz s c : Rat)
  if 4 ≤ c ∧ c < 8 ∧ s.mic.clk0 = 1 then 7000
  else if c < 4 ∨ (20 ≤ c ∧ c < 26) then 454 / 1000 * fc
  else if 26 ≤ c ∧ c < 74 then 40 / 100 * fc
  else 45 / 100 * fc

/-- Taps that run (R177). -/
def firTaps (s : State) (c : Nat) (img : List Byte) : Nat :=
  if 96000 < chainHz s c then min 128 (imgNfir img) else imgNfir img

/-- NFIR − 1 + SETTLE_ADD, the first term 0 where NFIR is 0 (R167, R181). -/
def settleCount (s : State) (c : Nat) (img : List Byte) : Nat := (firTaps s c img - 1) + imgSettle img

/-- Hall in which a chain runs (Table 7.1). -/
def chainHall (c : Nat) : Nat := if 74 ≤ c then hDRV else hAUD

/-- An output instant of a running chain stands at this tu: the sample ticks of its rate, counted from the aligned base
tick, and for group 0 of the crystal (R142, R165). -/
def chainTick (s : State) (c : Nat) : Bool :=
  (chainOf s c).resetAt.isSome && hallRuns s (chainHall c) &&
    (if 4 ≤ c ∧ c < 8 then asynRuns s && (s.time.now - s.time.start) % 512 == 0 else onTick s (chainHz s c))

/-- Something that waits for a chain's next output instant may act: the instant stands, or the chain is stopped while its
hall runs. -/
def chainReady (s : State) (c : Nat) : Bool :=
  chainTick s c || ((chainOf s c).resetAt.isNone && hallRuns s (chainHall c))

/-- Output sample `n` since the reset is at or before this tu (R167): a sample stands once its instant does. -/
def chainReached (s : State) (c n : Nat) : Bool :=
  decide (n < (chainOf s c).count) || ((chainOf s c).count == n && chainTick s c)

/-- The ACTIVE bank becomes `b` (true B); the other one READY. -/
def makeActive (b : Bool) (k : Chain) : Chain :=
  if b then { k with active := true, bankA := { k.bankA with st := .ready }, bankB := { k.bankB with st := .active } }
  else { k with active := false, bankA := { k.bankA with st := .active }, bankB := { k.bankB with st := .ready } }

/-- TOWARD and SWAP_TIME (FLT_BANK_SWAP). -/
def swapPayload (toward : Bool) (time : Nat) : List Byte := b1 (b2n toward) ++ rz 3 ++ b8 time

/-- A fade ends at the bank given; E198, and the command that waits completes (R181, R168). -/
def fadeEnd (c : Nat) (b : Bool) (s : State) : State :=
  match (chainOf s c).fade with
  | none => s
  | some f =>
    let s := raise 198 c (onChain c (fun k => makeActive b { k with fade := none }) s)
    completeP f.cid .ok f.flags (if f.isSwap then swapPayload b f.swapTime else []) s

/-- The bank a fade is heading towards. -/
def heading (f : BankFade) : Bool := if f.forward then f.goal else !f.goal

/-- FADE_POS: samples run in the present fade or reversal. -/
def fadePos (f : BankFade) : Nat := if f.forward then f.pos else f.start - f.pos

/-- DELAY of a chain page; it replaces one that an APPLY asked and that still waits. -/
def putDelay (c d : Nat) (s : State) : State :=
  onChain c (fun k => { k with
    page := Page.put (Page.put k.page 16 8 (d / 64)) 10 6 (d % 64)
    late := k.late.map (fun x => { x with v := putBits (putBits x.v 16 8 (d / 64)) 10 6 (d % 64) }) }) s

/-- A phase-delay change begins (R171): a fractional one at the next sample, an integer one by a fade. -/
def delayBegin (c d : Nat) (cid : Option Nat) (s : State) : State × Status :=
  let old := chainDelayInt s c
  let s := putDelay c d s
  if d / 64 ≠ old ∧ (chainOf s c).resetAt.isSome then
    (onChain c (fun k => { k with delayFade := some { pos := 0, old := old, cid := cid } }) s, .pending)
  else (s, .ok)

/-- A phase-delay fade ends; a request that was held is carried out (R171). -/
def delayDone (c : Nat) (s : State) : State :=
  match (chainOf s c).delayFade with
  | none => s
  | some f =>
    let held := (chainOf s c).delayHeld
    let s := complete f.cid .ok (onChain c (fun k => { k with delayFade := none, delayHeld := none }) s)
    match held with
    | some (d, cid) =>
      let r := delayBegin c d cid s
      if r.2 = .ok then complete cid .ok r.1 else r.1
    | none => s

/-- A synchronising reset of a running chain (R166 to R168): filter states and delay line zero, the count from 0. A
phase-delay fade and a held request run on (R168 speaks only of the bank fade: DESIGN CHOICE, log entry "Delay fades and
resets"). -/
def chainSync (c : Nat) (s : State) : State :=
  if (chainOf s c).resetAt.isNone then s
  else
    let s := match (chainOf s c).fade with | some f => fadeEnd c (heading f) s | none => s
    let ds := chainDS s c
    onChain c (fun k => { k with
      resetAt := some s.time.now, count := 0, line := [], conv := [], out := {}
      bankA := { k.bankA with secs := [], fir := [] }, bankB := { k.bankB with secs := [], fir := [] }
      dPrime := ds.1 + chainDelayInt s c
      sPrime := ds.2 + (if isSense c then 0 else settleCount s c (activeBank k).image)
      settled := false }) s

/-- The function a chain serves starts (R166). -/
def chainStart (c : Nat) (s : State) : State :=
  if (chainOf s c).retired then s
  else chainSync c (onChain c (fun k => { k with resetAt := some s.time.now, whole := false, coarseOk := false, coarseSum := 0, coarseCount := 0 }) s)

/-! ### An APPLY of a chain page (R185, R171, R174, R54) -/

/-- The fields that apply at the next output sample, PHASE and the phase delay, and those of the next carrier period. -/
def chainOutMask : Nat := fieldMask 8 1 + fieldMask 10 14
def chainCalMask : Nat := fieldMask 32 32
def chainLateMask : Nat := chainOutMask + chainCalMask

/-- A phase delay is switched without a fade: one that runs ends, and a request held for its end is overtaken (DESIGN CHOICE,
log entry "Effect points"). -/
def delayCut (c : Nat) (s : State) : State :=
  let k := chainOf s c
  let s := onChain c (fun k => { k with delayFade := none, delayHeld := none }) s
  let s := complete (k.delayFade.bind (fun f => f.cid)) .ok s
  complete (k.delayHeld.bind (fun h => h.2)) .superseded s

/-- The waiting fields of a mask reach their effect point: a new delay switches, a new PHASE resets the chain. -/
def chainTake (mask c : Nat) (s : State) : State :=
  let k := chainOf s c
  match k.late with
  | none => s
  | some _ =>
    let old := k.page.toNat
    let live := lateLive old mask k.late
    let left := lateLeft live chainLateMask k.late
    let s := lateDone k.late left (onChain c (fun k => { k with page := BitVec.ofNat 64 live, late := left }) s)
    let s := if differ old live 10 14 then delayCut c s else s
    if differ old live 8 1 then chainSync c s else s

/-- The function a chain serves stops; fades end at once, a delay that was held is taken, and so are the fields that waited
for its next sample. -/
def chainStop (c : Nat) (s : State) : State :=
  let s := match (chainOf s c).fade with | some f => fadeEnd c (heading f) s | none => s
  chainTake chainOutMask c (delayDone c (onChain c (fun k => { k with
    resetAt := none, count := 0, settled := false, line := [], conv := [], out := {}, whole := false, coarseOk := false
    bankA := { k.bankA with secs := [], fir := [] }, bankB := { k.bankB with secs := [], fir := [] } }) s))

/-- The channel a chain serves is retired (R186). -/
def chainRetire (c : Nat) (s : State) : State := onChain c (fun k => { k with retired := true }) (chainStop c s)
/-- Its retirement ends. -/
def chainRestore (c : Nat) (s : State) : State := onChain c (fun k => { k with retired := false }) s

/-- Every running chain undergoes a synchronising reset (R166: relock of ASYN, change of family). -/
def chainSyncAll (s : State) : State := (List.range 98).foldl (fun s c => chainSync c s) s

/-- Chains that a crossing feeds: all but the interpolators in HALL_AUD, which the fabric of that hall feeds (R20). -/
def chainFed (c : Nat) : Bool := !(decide (20 ≤ c ∧ c < 26))
/-- CLOSED crossings open again: the chains they feed undergo a synchronising reset (R20, R166). -/
def chainSyncFed (s : State) : State := ((List.range 98).filter chainFed).foldl (fun s c => chainSync c s) s

/-- Every chain at its reset contents, calibration from OTP, stopped (R179, R184); retirements stay. -/
def fltReset (s : State) : State :=
  { s with
    flt.chains := vmapi s.flt.chains (fun c k => { page := otpPage c, cal := (otpPage c).extractLsb' 32 32, retired := k.retired })
    flt.syncs := [] }

/-- RUN (FLT_STATUS_GET). -/
def chainRun (s : State) (c : Nat) : Nat :=
  let k := chainOf s c
  if k.retired then 4
  else match k.resetAt with
  | none => 0
  | some _ => if k.dPrime + k.sPrime < k.count then 3 else if k.dPrime < k.count then 2 else 1

/-- A swap takes effect (R181, R182): a running fade is reversed, a HARD swap switches, a FADE begins. -/
def swapNow (c : Nat) (w : SwapWait) (s : State) : State :=
  let k := chainOf s c
  let running := k.resetAt.isSome
  let b := !k.active
  let unsettled := decide ((idleBank k).age < settleCount s c (idleBank k).image)
  let flags := b2n w.late * 128 + b2n unsettled * 2
  let s := onChain c (fun k => { k with
    wait := none
    lastFlags := if w.isSwap then b2n w.late * 4 + b2n unsettled * 8 else k.lastFlags }) s
  if w.n = 0 ∨ !running then
    let s := raise 198 c (onChain c (fun k => makeActive b k) s)
    completeP w.cid .ok flags (if w.isSwap then swapPayload b (devTime s) else []) s
  else
    let f : BankFade := { n := w.n, pos := 0, goal := b, forward := true, start := 0, cid := w.cid,
                          flags := flags, swapTime := devTime s, isSwap := w.isSwap }
    onChain c (fun k => { k with fade := some f }) s

/-- Device time of the next input sample of a running chain (R181). -/
def swapSample (c : Nat) (s : State) : Nat :=
  if 4 ≤ c ∧ c < 8 then cdiv (devTime s) 512 * 512 else nextTick s (chainHz s c) - s.time.start

/-- A swap during a fade reverses it at the next sample (R182): E197, the swap whose fade was reversed completes. -/
def swapReverse (c : Nat) (s : State) : State :=
  match (chainOf s c).fade with
  | none => s
  | some f =>
    let p := if f.forward then f.pos else f.pos - 1
    let g : BankFade := { f with pos := p, forward := !f.forward, start := p, cid := none }
    let s := onChain c (fun k => { k with fade := some g, lastFlags := 16 }) s
    let s := raiseAt 197 c (swapSample c s) s
    completeP f.cid .ok f.flags (if f.isSwap then swapPayload (heading g) f.swapTime else []) s

/-! ### What falls due at an output instant -/

/-- SETTLED rises with sample D' + S': E199 (R167). -/
def settleDue (c : Nat) (s : State) : State :=
  let k := chainOf s c
  if k.resetAt.isSome && !k.settled && chainReached s c (k.dPrime + k.sPrime) then
    raise 199 c (onChain c (fun k => { k with settled := true }) s)
  else s

/-- The swap sample of a waiting swap (R181): the first output instant at or after its time, or that time where the chain
is stopped. -/
def swapDue (c : Nat) (s : State) : State :=
  match (chainOf s c).wait with
  | some w => if closed w.at_ s && chainReady s c then swapNow c w s else s
  | none => s

/-- A fade or a reversal reaches its bank (R181, R182). -/
def fadeDue (c : Nat) (s : State) : State :=
  match (chainOf s c).fade with
  | some f =>
    let at_ := if f.forward then decide (f.n ≤ f.pos) || (chainTick s c && f.n == f.pos + 1)
      else f.pos == 0 && chainTick s c
    if at_ then fadeEnd c (heading f) s else s
  | none => s

/-- The 64-sample fade of a phase delay ends with its 64th sample; a held request's fade begins with the sample after it
(R171). -/
def delayDue (c : Nat) (s : State) : State :=
  match (chainOf s c).delayFade with
  | some f =>
    if 64 ≤ f.pos then delayDone c s
    else if chainTick s c && f.pos == 63 then
      if (chainOf s c).delayHeld.isNone then delayDone c s
      else complete f.cid .ok (onChain c (fun k => { k with delayFade := some { f with cid := none } }) s)
    else s
  | none => s

/-- A chain named by FLT_CHAIN_SYNC is reset at its first output instant at or after WHEN; one that has stopped is
skipped (R166). -/
def syncDue (c : Nat) (s : State) : State :=
  let due (j : SyncJob) : Bool := maskBit j.mask c && closed j.at_ s && chainReady s c
  if s.flt.syncs.any due then
    let jobs := s.flt.syncs.map (fun j => if due j then { j with mask := j.mask - 2 ^ c } else j)
    let s := { s with flt.syncs := jobs.filter (fun j => j.mask != 0) }
    let s := chainSync c s
    (jobs.filter (fun j => j.mask == 0)).foldl (fun s j => completeP (some j.cid) .ok (b2n j.late * 128) [] s) s
  else s

end Sys2Proof.Machine
end

