-- ==== Sys2Proof/Machine/Ana.lean ====
section
/-! DEFINITION. Analog functions and their stages (R113, R119 to R131, R392), line inputs (R114 to R118) as shared
operations. -/

namespace Sys2Proof.Machine

open Sys2Proof

/-! ### Stages (Tables 5.3 and 5.4) -/

def fnOf (s : State) (i : Nat) : AnaFn := vget s.ana.fns i
def onFn (i : Nat) (f : AnaFn → AnaFn) (s : State) : State := { s with ana.fns := vupd s.ana.fns i f }

def rampMs (s : State) : Nat := Page.get s.ana.page0501 8 8
def cmRampMs (s : State) : Nat := Page.get s.ana.page0501 0 8

/-- Function kinds of Table 5.1. -/
def isLout (i : Nat) : Bool := decide (i < 4)
def isHp (i : Nat) : Bool := i == 4 || i == 5
def isMicBias (i : Nat) : Bool := i == 7 || i == 8

/-- Length of a stage in tu; none where the function has no such stage (Tables 5.3 and 5.4). -/
def stageTu (s : State) (i code : Nat) : Option Nat :=
  match code with
  | 0x01 => if isLout i || isHp i then some (msTu (rampMs s)) else if isMicBias i then some (msTu 5) else none
  | 0x02 => if isLout i || isHp i then some (msTu 1) else none
  | 0x03 => if isLout i then some (msTu (cmRampMs s)) else if isMicBias i then some (usTu 100) else some (msTu 2)
  | 0x04 => if i = 6 then some (usTu 500) else some (msTu 1)
  | 0x11 => if i = 6 then some (usTu 500) else some (msTu 1)
  | 0x12 => if isLout i then some (msTu (cmRampMs s)) else if isHp i then some (msTu 2)
            else if i = 6 then some (msTu 1) else some (msTu 5)
  | 0x13 => if isLout i || isHp i then some (msTu 1) else none
  | 0x14 => if isLout i || isHp i then some (msTu (if (fnOf s i).fromHeld then 10 else rampMs s)) else none
  | _ => none

/-- E141 for a stage of a function (R124). -/
def stageEvent (i code : Nat) (s : State) : State := raise 141 (i * 256 + code) s

/-- A stage begins for `len` tu. -/
def enterStage (i code len : Nat) (s : State) : State :=
  stageEvent i code (onFn i (fun f => { f with
    stage := code, began := s.time.now, due := some (s.time.now + len), full := len, waiting := false }) s)

/-- A ramp reverses from its present amplitude at the same rate (R126, R127): it takes the time the ramp has run from its
end of the range. -/
def reverseStage (i code : Nat) (s : State) : State :=
  let f := fnOf s i
  onFn i (fun g => { g with full := f.full }) (enterStage i code (f.full - ((f.due.getD s.time.now) - s.time.now)) s)

/-- A function rests at stage 2 in HELD (R128). -/
def restHeld (i : Nat) (s : State) : State :=
  stageEvent i 0x02 (onFn i (fun f => { f with st := .held, stage := 0x02, began := s.time.now, due := none }) s)

/-- Every function a command names is ON, OFF or in FAULT (ANA_OUT_ENABLE). -/
def anaSettled (s : State) (mask : Nat) : Bool :=
  (maskList mask 9).all (fun i => match (fnOf s i).st with | .on | .off | .fault => true | _ => false)

/-- Commands that wait end when the functions they name have settled; one whose enable restarts a function ends with
RESTARTING once the restarted function is ON, or settled otherwise (R126 gives no tu: DESIGN CHOICE, log entry "End of a
restarting enable"). -/
def anaJobsDone (s : State) : State :=
  let done := s.ana.jobs.filter (fun j => anaSettled s j.mask)
  let s := { s with ana.jobs := s.ana.jobs.filter (fun j => !anaSettled s j.mask) }
  done.foldl (fun s j => complete (some j.cid) (if j.restarting then .restarting else .ok) s) s

/-- Begin the first stage at or after `code` of a start-up; past the last one the function is ON (R124). The chain of
an output runs from 0x11 on (R166). -/
def upFrom (i code : Nat) (s : State) : State :=
  match ([0x11, 0x12, 0x13, 0x14].filter (fun c => decide (code ≤ c))).filterMap
      (fun c => (stageTu s i c).map (fun l => (c, l))) with
  | (c, l) :: _ =>
    let s := if isLout i || isHp i then (if c = 0x11 then chainStart (20 + i) s else s) else s
    enterStage i c l (onFn i (fun f => { f with st := .starting }) s)
  | [] => stageEvent i 0x20 (onFn i (fun f => { f with st := .on, stage := 0x20, due := none, fromHeld := false,
                                                        probe := false }) s)

/-- The pump has no own stage 1 or 2. A start begins: the pump waits for its grant, a headphone channel for the
pump (R122). -/
def waitStart (i : Nat) (s : State) : State :=
  onFn i (fun f => { f with st := .starting, stage := 0, due := none, waiting := true, toFault := false,
                            thenDown := false, toHeld := false, heldCmd := none, fromHeld := false,
                            probe := false }) s

/-- A pump start refused: the pump and the channels that wait go back to OFF, commands end with NO_GRANT, or with
RESTARTING where the start follows a shut-down (R126), the jack condition HP_FAIL is latched (R123, Table 5.6). -/
def pumpRefused (s : State) : State :=
  let s := [4, 5, 6].foldl (fun s i => if (fnOf s i).waiting then
    onFn i (fun f => { f with st := .off, stage := 0, waiting := false, due := none, ownRight := false, probe := false }) s
    else s) s
  let lost := s.ana.jobs.filter (fun j => j.on && (maskBit j.mask 4 || maskBit j.mask 5 || maskBit j.mask 6))
  let s := { s with
    ana.jobs := s.ana.jobs.filter (fun j => !(j.on && (maskBit j.mask 4 || maskBit j.mask 5 || maskBit j.mask 6)))
    ana.jacks := s.ana.jacks.map (fun j => { j with latch.hpFail := true })
    ana.cpAsked := false }
  let s := lost.foldl (fun s j => complete (some j.cid) (if j.restarting then .restarting else .noGrant) s) s
  match s.ana.measure with
  | some m => if m.step = 0 then complete m.cid .noGrant { s with ana.measure := none } else s
  | none => s

/-- Ask for CP_START if it is not asked or held already. -/
def askPump (cid : Option Nat) (who : Nat) (s : State) : State :=
  if s.ana.cpAsked then s
  else
    let r := askGrant .cpStart cid who 0 0 0 { s with ana.cpAsked := true }
    if r.2 = .refused then pumpRefused r.1 else r.1

/-- The pump must run: start it where it is OFF, restart it where it is being shut down (R122, R126). -/
def needPump (cid : Option Nat) (who : Nat) (s : State) : State :=
  match (fnOf s 6).st with
  | .off | .fault => askPump cid who (waitStart 6 s)
  | .shuttingDown =>
    if (fnOf s 6).thenDown then onFn 6 (fun f => { f with st := .starting, thenDown := false }) s
    else onFn 6 (fun f => { f with st := .restarting }) s
  | _ => s

/-- The full start-up of a function that is OFF or in FAULT (R122, Table 5.4). -/
def beginUp (i : Nat) (cid : Option Nat) (who : Nat) (s : State) : State :=
  let s := waitStart i s
  if i = 6 then askPump cid who s
  else if isHp i then
    if (fnOf s 6).st = .on then upFrom i 0x11 s else needPump cid who s
  else upFrom i 0x11 s

/-- A headphone channel that reached OFF lets the pump stop, unless it runs in its own right (R122). A channel in FAULT
counts as OFF here: its shut-down has ended (DESIGN CHOICE, log entry "Pump and FAULT"). -/
def pumpIfIdle (s : State) : State :=
  let idle (i : Nat) : Bool := (fnOf s i).st == .off || (fnOf s i).st == .fault
  if idle 4 && idle 5 && (fnOf s 6).st == .on && !(fnOf s 6).ownRight && s.ana.measure.isNone then
    enterStage 6 0x03 (msTu 2) (onFn 6 (fun f => { f with st := .shuttingDown }) s)
  else s

/-- Begin the first stage at or after `code` of a shut-down; past the last one the function is OFF or in FAULT, with E141
and code 0x00 either way (R124; DESIGN CHOICE for FAULT, log entry "E141 at FAULT"), and a restart begins its start-up
(R126). -/
def downFrom (i code : Nat) (s : State) : State :=
  if (fnOf s i).toHeld && decide (2 ≤ code) then restHeld i s
  else
    match ([0x01, 0x02, 0x03, 0x04].filter (fun c => decide (code ≤ c))).filterMap
        (fun c => (stageTu s i c).map (fun l => (c, l))) with
    | (c, l) :: _ => enterStage i c l
        (onFn i (fun f => { f with st := if f.st = .restarting then .restarting else .shuttingDown }) s)
    | [] =>
      let again := (fnOf s i).st = .restarting
      let s := stageEvent i 0x00 (onFn i (fun f => { f with
        st := if f.toFault then .fault else .off, stage := 0, due := none, waiting := false,
        toHeld := false, heldCmd := none, toFault := false, thenDown := false, fromHeld := false, probe := false }) s)
      let s := if isLout i || isHp i then chainStop (20 + i) s else s
      let s := if again then beginUp i none 4 s else s
      pumpIfIdle s

/-! ### Headphone load measurement: how it ends (R129 to R131) -/

/-- Class of a measured load in 0.1 Ohm (Table 5.5). -/
def loadClass (z : Nat) : Nat :=
  if z < 40 then 5 else if z < 160 then 2 else if z ≤ 6000 then 1 else if z ≤ 20000 then 3 else 4
/-- The value reported for a measured load (Table 5.5). -/
def loadValue (z : Nat) : Nat := if z < 40 then 0 else if z ≤ 20000 then z else 0xFFFF

/-- Both channels stand ready for the tone: at stage 2, or at the end of 0x12. -/
def measureReady (s : State) : Bool :=
  [4, 5].all (fun i => let f := fnOf s i; f.due.isNone && (f.stage == 0x02 || f.stage == 0x12))

/-- The tone begins when both channels stand ready (R129). -/
def measureGo (s : State) : State :=
  match s.ana.measure with
  | some m =>
    if m.step < 2 && measureReady s then
      { s with ana.measure := some { m with step := 2, due := some (s.time.now + msTu 200) } }
    else s
  | none => s

/-- A channel that runs for the measurement alone begins its start-up (R129). -/
def probeUp (i : Nat) (cid : Option Nat) (who : Nat) (s : State) : State :=
  let s := beginUp i cid who s
  onFn i (fun f => { f with probe := f.st == .starting }) s

/-- A channel takes part in a measurement: OFF it runs 0x11 and 0x12, ON it ramps to stage 2; one on its way to ON or OFF
does so when it gets there (the rule speaks of channels that are ON or OFF: DESIGN CHOICE, log entry "Measurement
corners"). -/
def measureJoin (cid : Option Nat) (who : Nat) (s : State) (i : Nat) : State :=
  match s.ana.measure with
  | none => s
  | some m =>
    let f := fnOf s i
    if 2 ≤ m.step then s
    else if f.st == .on && f.stage == 0x20 then enterStage i 0x01 (msTu (rampMs s)) s
    else if f.st == .off || f.st == .fault then probeUp i cid who s
    else s

/-- Channels that have become ON or OFF join the measurement that waits for them. -/
def measureNext (s : State) : State := measureGo ([4, 5].foldl (measureJoin none 4) s)

/-- A function that waits to begin its start-up returns to OFF at once (R127); a pump that nothing needs any more gives up
its request. -/
def cancelWait (i : Nat) (s : State) : State :=
  let s := onFn i (fun f => { f with st := .off, stage := 0, waiting := false, probe := false }) s
  if i = 6 then { releaseGrant .cpStart s with ana.cpAsked := false }
  else if isHp i && !(fnOf s 4).waiting && !(fnOf s 5).waiting && (fnOf s 6).waiting && !(fnOf s 6).ownRight
      && s.ana.measure.isNone then
    { releaseGrant .cpStart (onFn 6 (fun f => { f with st := .off, waiting := false }) s) with ana.cpAsked := false }
  else pumpIfIdle s

/-- The worse of two classes: SHORT, LOW, OPEN, HIGH, OK (R129). -/
def worseOf (a b : Nat) : Nat := ([5, 2, 4, 3, 1].find? (fun c => a == c || b == c)).getD 0

/-- What becomes of a channel when a measurement ends (R129 to R131): one that was ON unmutes and ramps up; one enabled
meanwhile continues from 0x13; one that still waits for the pump gives up; the others go to 0x12 and stay. -/
def measureLeave (i : Nat) (s : State) : State :=
  let f := fnOf s i
  if f.st = .on ∧ f.stage ≠ 0x20 then
    enterStage i 0x14 (msTu (rampMs s)) (stageEvent i 0x13 (onFn i (fun f => { f with st := .starting }) s))
  else if f.st = .starting ∧ !f.probe ∧ f.stage = 0x12 ∧ f.due.isNone then upFrom i 0x13 s
  else if f.st = .starting ∧ f.waiting ∧ f.probe then cancelWait i s
  else s

/-- A measurement ends with the values given; the load conditions follow a completed one (R133), channels that run for it
alone stay at 0x12 for 100 ms (R129, R130). -/
def measureEnd (zl zr cl cr : Nat) (s : State) : State :=
  match s.ana.measure with
  | none => s
  | some m =>
    let s := { s with ana.measure := none, ana.zl := zl, ana.zr := zr, ana.classL := cl, ana.classR := cr }
    let s := if cl = 6 then s
      else { s with ana.condClass := worseOf cl cr, ana.jacks := s.ana.jacks.map (fun j => { j with loadValid := true }) }
    let s := raise 138 (if (cl = 4 ∧ cr = 4) ∨ cl = 6 then 0xFFFF else min zl zr) s
    let s := if !m.wasOn && ((fnOf s 4).probe || (fnOf s 5).probe) then { s with ana.holdEnd := some (s.time.now + 2457600) } else s
    let s := pumpIfIdle (measureLeave 5 (measureLeave 4 s))
    completeP m.cid .ok 0 (leBytes 2 zl ++ leBytes 2 zr ++ leBytes 1 cl ++ leBytes 1 cr ++ leBytes 2 0) s

/-- A measurement stops before its end (R131). -/
def measureAbort (s : State) : State :=
  if s.ana.measure.isSome then measureEnd 0xFFFF 0xFFFF 6 6 s else s

/-- A start-up stage that a disable let complete has ended: the shut-down goes on from stage 3 (R127), a pump gives up the
grant of its start. -/
def thenDownGo (i : Nat) (s : State) : State :=
  if !(fnOf s i).thenDown then s
  else
    let s := if i = 6 then { releaseGrant .cpStart s with ana.cpAsked := false } else s
    downFrom i 0x03 (onFn i (fun f => { f with thenDown := false }) s)

/-- The function goes from the stage that ended to the next. -/
def stagePast (i : Nat) (s : State) : State :=
  let f := fnOf s i
  match f.st, f.stage with
  | .starting, 0x11 => upFrom i 0x12 s
  | .starting, 0x12 =>
    if f.toHeld then restHeld i s
    else if isHp i && (s.ana.measure.isSome || (s.ana.holdEnd.isSome && f.probe)) then
      onFn i (fun f => { f with due := none }) s
    else
      let s := upFrom i 0x13 s
      if i = 6 then
        let s := { releaseGrant .cpStart s with ana.cpAsked := false }
        pumpIfIdle ([4, 5].foldl (fun s k => if (fnOf s k).waiting then upFrom k 0x11 s else s) s)
      else s
  | .starting, 0x13 => upFrom i 0x14 s
  | .starting, _ => upFrom i 0x15 s
  | .on, 0x14 => onFn i (fun f => { f with stage := 0x20, due := none }) s
  | .on, 0x01 => stageEvent i 0x02 (onFn i (fun f => { f with stage := 0x02, due := none }) s)
  | _, 0x11 | _, 0x12 => thenDownGo i s
  | _, c => downFrom i (c + 1) s

/-- A stage of a function ends (R124); a measurement that waits for a headphone channel goes on (R129). -/
def stageEnd (i : Nat) (s : State) : State := if isHp i then measureNext (stagePast i s) else stagePast i s

/-- A stage that has ended gives way: whatever acts at the tu a stage begins finds the function in it (R82, R125). -/
def stageSettle (i : Nat) (s : State) : State :=
  if closedO (fnOf s i).due s && !s.time.held then stageEnd i s else s

/-! ### Enable and disable (R126, R127, R128) -/

/-- Disable a function. One in FAULT stays there (DESIGN CHOICE, log entry "Disable in FAULT"). A channel that a measurement
has ramped down is at its stage 1 or 2 already. -/
def disableGo (i : Nat) (s : State) : State :=
  let f := fnOf s i
  let s := onFn i (fun f => { f with autoStopped := false, ownRight := f.ownRight && i != 6, probe := false }) s
  match f.st with
  | .off | .fault | .shuttingDown =>
    if f.toHeld then onFn i (fun f => { f with heldCmd := some false }) s else s
  | .held => onFn i (fun f => { f with heldCmd := some false }) s
  | .restarting => onFn i (fun f => { f with st := .shuttingDown }) s
  | .on =>
    match f.stage with
    | 0x01 => onFn i (fun f => { f with st := .shuttingDown }) s
    | 0x02 => downFrom i 0x03 s
    | _ => downFrom i 0x01 s
  | .starting =>
    if f.waiting then cancelWait i s
    else match f.stage with
    | 0x13 => downFrom i 0x02 s
    | 0x14 => reverseStage i 0x01 (onFn i (fun f => { f with st := .shuttingDown }) s)
    | _ =>
      if f.due.isNone then downFrom i 0x03 (onFn i (fun f => { f with st := .shuttingDown, toHeld := false }) s)
      else onFn i (fun f => { f with st := .shuttingDown, thenDown := true, toHeld := false }) s

/-- A disable finds the stage that begins at its tu (R125). A headphone channel disabled while it is measured ends the
measurement (DESIGN CHOICE, log entry "Measurement corners"). -/
def disableFn (i : Nat) (s : State) : State :=
  let s := disableGo i (stageSettle i s)
  if isHp i then measureAbort s else s

/-- The hold after a measurement closes: channels not enabled in it shut down from stage 3, and the pump after them
(R130). -/
def holdSettle (s : State) : State :=
  if closedO s.ana.holdEnd s then
    let s := { s with ana.holdEnd := none }
    pumpIfIdle ([4, 5].foldl (fun s i =>
      if (fnOf s i).st == .starting && (fnOf s i).probe then disableFn i s else s) s)
  else s

/-- Enable a function. A reversed ramp of a microphone bias is its stage 0x12: it has no 0x14 (Table 5.4; DEDUCED, log entry
"Reversal of a microphone bias"). A headphone channel that rests at 0x12 in the hold after a measurement goes on from 0x13
(R130), one that would unmute without its pump (R122) starts anew. The second component tells that the command ends with
RESTARTING. -/
def enableFn (i : Nat) (cid : Option Nat) (who : Nat) (s : State) : State × Bool :=
  let s := stageSettle i (holdSettle s)
  let f := fnOf s i
  let s := onFn i (fun f => { f with autoStopped := false, ownRight := f.ownRight || i == 6, toFault := false,
                                     probe := false }) s
  match f.st with
  | .on => (s, false)
  | .starting =>
    let s := onFn i (fun f => { f with thenDown := false }) s
    (if isHp i && f.stage == 0x12 && f.due.isNone && s.ana.measure.isNone then upFrom i 0x13 s else s, false)
  | .restarting => (s, true)
  | .held => (onFn i (fun f => { f with heldCmd := some true }) s, false)
  | .off | .fault => (beginUp i cid who s, false)
  | .shuttingDown =>
    if f.toHeld then (onFn i (fun f => { f with heldCmd := some true }) s, false)
    else match f.stage with
    | 0x11 | 0x12 => (onFn i (fun f => { f with st := .starting, thenDown := false }) s, false)
    | c =>
      if 2 < c ∨ (isHp i ∧ (fnOf s 6).st ≠ .on) then (onFn i (fun f => { f with st := .restarting }) s, true)
      else if c = 2 then (upFrom i 0x13 s, false)
      else
        (reverseStage i (if isMicBias i then 0x12 else 0x14)
          (onFn i (fun f => { f with st := .starting }) s), false)

/-- Several functions start together. Where the pump's start is refused, the headphone channels and the pump that follow in
the list are refused with it (R123). -/
def enableSet (l : List Nat) (cid : Option Nat) (who : Nat) (s : State) : State × Bool :=
  let r := l.foldl (fun (r : State × Bool × Bool) i =>
    if r.2.2 && (isHp i || i == 6) then r
    else
      let e := enableFn i cid who r.1
      (e.1, r.2.1 || e.2, r.2.2 || ((isHp i || i == 6) && (fnOf e.1 i).st == .off))) (s, false, false)
  (r.1, r.2.1)

/-- Shut-down from stage `code` at once, ending in FAULT (R119, R121, R123). -/
def faultDown (i code : Nat) (s : State) : State :=
  match (fnOf s i).st with
  | .off | .fault => onFn i (fun f => { f with st := .fault, waiting := false }) s
  | _ => downFrom i code (onFn i (fun f => { f with
      st := .shuttingDown, toFault := true, toHeld := false, heldCmd := none, thenDown := false,
      waiting := false }) s)

/-- A HELD cause arises for one line output or headphone channel (R128); `len` is the ramp of the cause. A function that is
OFF, waits, or is to restart is left as it is, and one that starts later, while the cause stands, runs on (DESIGN CHOICE, log
entry "Starts under a HELD cause"). A channel that runs for a measurement alone is OFF in this sense and stays at 0x12. -/
def holdFn (i len : Nat) (s : State) : State :=
  let s := stageSettle i s
  let f := fnOf s i
  match f.st with
  | .on =>
    let s := onFn i (fun f => { f with st := .shuttingDown, toHeld := true, heldCmd := none }) s
    if f.stage = 0x02 then restHeld i s
    else if f.stage = 0x01 then onFn i (fun f => { f with due := f.due.map (fun d => min d (s.time.now + len)) }) s
    else enterStage i 0x01 len s
  | .starting =>
    if f.waiting || f.probe then s
    else if f.stage = 0x14 then
      enterStage i 0x01 len (onFn i (fun f => { f with st := .shuttingDown, toHeld := true, heldCmd := none }) s)
    else if f.stage = 0x13 || f.due.isNone then restHeld i (onFn i (fun f => { f with toHeld := true, heldCmd := none }) s)
    else onFn i (fun f => { f with toHeld := true }) s
  | .shuttingDown =>
    if f.stage = 0x01 then
      onFn i (fun f => { f with toHeld := true, heldCmd := if f.toHeld then f.heldCmd else some false,
                                due := f.due.map (fun d => min d (s.time.now + len)) }) s
    else if f.stage = 0x02 then
      restHeld i (onFn i (fun f => { f with toHeld := true, heldCmd := some false }) s)
    else s
  | _ => s

/-- A function leaves HELD (R128): with a disable pending it shuts down from stage 3, else it leaves through 0x13
and a 10 ms ramp. One whose ramp of the cause still runs reverses it over the time ramped, as R126 has it for stage 1
(R128 speaks only of a function that rests in HELD: DESIGN CHOICE, log entry "Cause ends inside its ramp"). -/
def unholdFn (i : Nat) (s : State) : State :=
  let f := fnOf s i
  let s := onFn i (fun f => { f with toHeld := false, heldCmd := none }) s
  match f.st with
  | .held =>
    if f.heldCmd = some false then downFrom i 0x03 (onFn i (fun f => { f with st := .shuttingDown }) s)
    else upFrom i 0x13 (onFn i (fun f => { f with fromHeld := true }) s)
  | .shuttingDown =>
    if f.toHeld then
      if f.heldCmd = some false then s
      else (enterStage i 0x14 (s.time.now - f.began) (onFn i (fun f => { f with st := .starting }) s))
    else s
  | _ => s

/-- Loss of ASYN lock, crystal failure or DOZE: line outputs and headphone channels go to HELD (R128), a measurement ends
(DESIGN CHOICE, log entry "Measurement corners"). -/
def anaHold (len : Nat) (s : State) : State :=
  laneFollow (measureAbort ([0, 1, 2, 3, 4, 5].foldl (fun s i => holdFn i len s) s))
/-- They leave HELD. -/
def anaUnhold (s : State) : State := anaJobsDone ([0, 1, 2, 3, 4, 5].foldl (fun s i => unholdFn i s) s)

/-- The full shut-down of a function: one that rests in HELD goes on from stage 3, one on its way there runs through
(R128). -/
def fullDown (s : State) (i : Nat) : State :=
  let s := stageSettle i s
  let s := onFn i (fun f => { f with toHeld := false, heldCmd := none }) s
  if (fnOf s i).st = .held then downFrom i 0x03 (onFn i (fun f => { f with st := .shuttingDown }) s) else disableFn i s

/-- Every function runs its full shut-down (R128: LISTEN, RETAIN, OFF; R382); the pump with the last headphone channel. -/
def anaAllDown (s : State) : State :=
  let s := [0, 1, 2, 3, 4, 5, 7, 8].foldl fullDown (onFn 6 (fun f => { f with ownRight := false }) s)
  let off (i : Nat) : Bool := (fnOf s i).st == .off || (fnOf s i).st == .fault
  anaJobsDone (if off 4 && off 5 && !off 6 then disableFn 6 s else s)

/-! ### Headphone load measurement: how it begins (R129, R130) -/

/-- A measurement begins (R129): OFF channels run 0x11 and 0x12, ON channels ramp to stage 2. -/
def measureStart (cid : Option Nat) (who : Nat) (s : State) : State :=
  let s := stageSettle 5 (stageSettle 4 (holdSettle s))
  let wasOn := [4, 5].all (fun i => (fnOf s i).st == .on)
  measureGo ([4, 5].foldl (measureJoin cid who)
    { s with ana.measure := some { step := 0, wasOn := wasOn, due := none, cid := cid }, ana.holdEnd := none })

/-- The windows of the analog functions close (R82, R125, R130): the hold after a measurement, then the stages. -/
def anaSettle (s : State) : State :=
  if !closedO s.ana.holdEnd s && (List.range 9).all (fun i => !closedO (fnOf s i).due s) then s
  else laneFollow (anaJobsDone ((List.range 9).foldl (fun s i => stageSettle i s) (holdSettle s)))

/-! ### Line inputs -/

def lineOf (s : State) (k : Nat) : LineIn := vget s.ana.ins k
def onLine (k : Nat) (f : LineIn → LineIn) (s : State) : State := { s with ana.ins := vupd s.ana.ins k f }

/-- The fields of AINk in page 0x0500 (Table 5.11). -/
def ainEn (s : State) (k : Nat) : Bool := Page.bit s.ana.page0500 (32 * k + 31)
def ainGain (s : State) (k : Nat) : Nat := Page.get s.ana.page0500 (32 * k + 24) 7
def ainImped (s : State) (k : Nat) : Nat := Page.get s.ana.page0500 (32 * k + 22) 2
def ainRate (s : State) (k : Nat) : Nat := Page.get s.ana.page0500 (32 * k + 18) 4
def putAin (k en gain imped rate : Nat) (s : State) : State :=
  { s with
    ana.page0500 := Page.put s.ana.page0500 (32 * k) 32
      (en * 2 ^ 31 + gain * 2 ^ 24 + imped * 2 ^ 22 + rate * 2 ^ 18) }

/-- The rate belongs to the rate family in force (Table 5.2). -/
def rateInFamily (fam : Bool) (rate : Nat) : Bool :=
  decide (rate < 12) && ((rate == 1 || rate == 3 || rate == 6 || rate == 8 || rate == 10) == fam)

/-- The rate that corresponds to an old rate in the new family (R115). -/
def rateAcross (fam : Bool) (rate : Nat) : Nat :=
  if fam then [1, 1, 3, 3, 3, 6, 6, 6, 8, 8, 10, 10].getD rate 6
  else [0, 2, 2, 4, 4, 5, 7, 7, 9, 9, 11, 11].getD rate 7

/-- An input starts: modulator, decimator and its chain, which undergoes a synchronising reset (R117). Its PGA starts at the
gain last asked for (DESIGN CHOICE, log entry "PGA at a start"). -/
def lineStart (k : Nat) (s : State) : State :=
  chainStart k (onLine k (fun l => { l with running := true, rampEnd := none, again := false, gain := l.target,
                                            stepEnd := none }) s)

/-- An input is disabled: 1 ms ramp (R117). -/
def lineStop (k : Nat) (again : Bool) (s : State) : State :=
  if (lineOf s k).running then
    onLine k (fun l => { l with rampEnd := some (s.time.now + msTu 1), again := again, stepEnd := none }) s
  else if again then lineStart k s else s

/-- A change of family stops every input (R115). -/
def linesStop (s : State) : State :=
  [0, 1, 2, 3].foldl (fun s k =>
    if (lineOf s k).running then
      chainStop k (onLine k (fun l => { l with running := false, rampEnd := none, again := false, stepEnd := none }) s)
    else s) s

/-- At the lock every enabled input that was stopped starts again (R115). -/
def linesResume (s : State) : State :=
  [0, 1, 2, 3].foldl (fun s k => if ainEn s k && !(lineOf s k).running then lineStart k s else s) s

/-- After a change of family RATE of every input takes the code that corresponds to it (R115). -/
def lineFamily (fam : Bool) (s : State) : State :=
  [0, 1, 2, 3].foldl (fun s k =>
    putAin k (b2n (ainEn s k)) (ainGain s k) (ainImped s k) (rateAcross fam (ainRate s k)) s) s

end Sys2Proof.Machine
end

