-- ==== Sys2Proof/Machine/AnaRows.lean ====
section
/-! DEFINITION. Meanings of the analog rows: line inputs, analog functions, microphone bias, headphone faults
(chapter 05). -/

namespace Sys2Proof.Machine

open Sys2Proof

/-- HP_CTRL and MBk_CTRL (Table 5.12). -/
def hpCtrl (s : State) : Nat := Page.get s.ana.page0501 32 2
def mbCtrl (s : State) (k : Nat) : Nat := Page.get s.ana.page0501 (64 + 2 * k) 2
/-- MBk_V (Table 5.12). -/
def mbVolt (s : State) (k : Nat) : Nat := Page.get s.ana.page0501 (80 + 4 * k) 4

/-- STATE codes of ANA_STATUS_GET. -/
def FnState.code : FnState → Nat
  | .off => 0 | .starting => 1 | .on => 2 | .shuttingDown => 3 | .restarting => 4 | .fault => 5 | .held => 6

/-- IN_STATE. -/
def lineState (l : LineIn) : Nat := if !l.running then 0 else if l.gain ≠ l.target then 1 else 2

def anaStatus (s : State) : List Byte :=
  ([0, 1, 2, 3].flatMap (fun k =>
    b1 (shown 0x28 s (lineState (lineOf s k))) ++ b1 (lineOf s k).gain ++ b1 (ainRate s k) ++ b1 (lineOf s k).overload))
  ++ ((List.range 9).flatMap (fun i => b1 (shown 0x28 s (fnOf s i).st.code) ++ b1 (shown 0x28 s (fnOf s i).stage))) ++ rz 2

/-- ANA_STATUS_GET (R113). -/
def execAnaStatusGet (q : Req) (s : State) : Out :=
  .next (report { code := 0x0500, owner := false, report := true, len := lenIs 0 } (fun _ s => anaStatus s) q s)

/-- Steps towards a new gain begin (R116). -/
def lineGain (k gain : Nat) (s : State) : State :=
  let l := lineOf s k
  if l.running then
    onLine k (fun l => { l with
      target := gain
      stepEnd := if l.gain = gain then none
                 else if l.gain = l.target then some (s.time.now + zcTimeoutTu s) else l.stepEnd }) s
  else onLine k (fun l => { l with target := gain }) s

/-- Enable, disable and set one input (R115 to R118). -/
def lineSet (k en gain imped rate : Nat) (s : State) : State :=
  let changed := decide (ainImped s k ≠ imped ∨ ainRate s k ≠ rate)
  let s := onLine k (fun l => { l with overload := 0 }) (putAin k en gain imped rate s)
  let s := lineGain k gain s
  let l := lineOf s k
  if en = 0 then (if l.rampEnd.isSome then onLine k (fun l => { l with again := false }) s else lineStop k false s)
  else if !l.running then lineStart k s
  else if l.rampEnd.isSome then onLine k (fun l => { l with again := true }) s
  else if changed then lineStop k true s
  else s

/-- ANA_IN_SET (R115 to R118). -/
def execAnaInSet (q : Req) (s : State) : Out :=
  .next (serve { code := 0x0501, owner := true, len := lenIs 8, halls := needANA,
                 fields := fun q s => decide (q.u8 0 < 4 ∧ q.u8 1 < 2 ∧ q.u8 2 ≤ 84 ∧ q.u8 3 < 4) && zeros q 5 3
                   && rateInFamily (famOf s) (q.u8 4) }
    (fun _ q s => (lineSet (q.u8 0) (q.u8 1) (q.u8 2) (q.u8 3) (q.u8 4) s, ans .ok)) q s)

/-- A named function is under jack control (R134). -/
def jackControls (s : State) (mask : Nat) : Bool :=
  (hpCtrl s != 0 && (maskBit mask 4 || maskBit mask 5 || maskBit mask 6))
    || (mbCtrl s 0 != 0 && maskBit mask 7) || (mbCtrl s 1 != 0 && maskBit mask 8)

/-- The named functions start or shut down, under one command (R122 to R127). -/
def outEnable (mask : Nat) (on : Bool) (cid : Nat) (who : Nat) (s : State) : State × Answer :=
  let s := (List.range 9).foldl (fun s i => stageSettle i s) s
  let at_ (i : Nat) : Bool := if on then (fnOf s i).st == .on else (fnOf s i).st == .off
  if (maskList mask 9).all at_ then
    (if on then onFn 6 (fun f => { f with ownRight := f.ownRight || maskBit mask 6 }) s else s, ans .ok)
  else
    let s := { s with ana.jobs := s.ana.jobs ++ [{ cid := cid, mask := mask, on := on }] }
    let r := if on then enableSet (maskList mask 9) (some cid) who s
      else ((maskList mask 9).foldl (fun s i => disableFn i s) s, false)
    let s := if r.2 then
      { r.1 with ana.jobs := r.1.ana.jobs.map (fun j => if j.cid = cid then { j with restarting := true } else j) }
    else r.1
    if !(s.ana.jobs.any (fun j => j.cid == cid)) then (s, ans .noGrant)
    else if anaSettled s mask then
      ({ s with ana.jobs := s.ana.jobs.filter (fun j => j.cid != cid) }, ans .ok)
    else (s, ans .pending)

/-- Refusals of an enable or disable of analog functions (ANA_OUT_ENABLE, R127, R134, R382). -/
def outBusy (mask : Nat) (on : Bool) (s : State) : Bool :=
  jackControls s mask || (on && s.pwr.shut)
    || (!on && maskBit mask 6 && ((fnOf s 4).st != .off || (fnOf s 5).st != .off))

/-- ANA_OUT_ENABLE (R122, R124, R126, R127). -/
def execAnaOutEnable (q : Req) (s : State) : Out :=
  .next (serve { code := 0x0502, owner := true, len := lenIs 4, halls := needANA,
                 fields := fun q _ => maskOk (q.u16 0) 9 && decide (q.u8 2 < 2) && zeros q 3 1 }
    (fun cid q s =>
      let on := q.u8 2 == 1
      if outBusy (q.u16 0) on s then (s, ans .busy)
      else
        let r := outEnable (q.u16 0) on cid q.m.val s
        (laneFollow (anaJobsDone r.1), r.2)) q s)

/-- ANA_MICBIAS_SET (R119): the voltage code of the page. -/
def execAnaMicbiasSet (q : Req) (s : State) : Out :=
  .next (serve { code := 0x0503, owner := true, len := lenIs 4, halls := needANA,
                 fields := fun q _ => decide (q.u8 0 < 2 ∧ q.u8 1 ≤ 10) && zeros q 2 2 }
    (fun _ q s => ({ s with ana.page0501 := Page.put s.ana.page0501 (80 + 4 * q.u8 0) 4 (q.u8 1) }, ans .ok)) q s)

/-- ANA_PGA_DIRECT (R116, R49): the PGA switches at once, pending steps are cancelled. -/
def execAnaPgaDirect (q : Req) (s : State) : Out :=
  .next (serve { code := 0x0580, owner := true, len := lenIs 4, halls := needANA,
                 fields := fun q _ => decide (q.u8 0 < 4 ∧ q.u8 1 ≤ 84) && zeros q 2 2 }
    (fun _ q s =>
      let k := q.u8 0
      if !(lineOf s k).running then (s, ans .notReady)
      else
        (onLine k (fun l => { l with gain := q.u8 1, target := q.u8 1, stepEnd := none })
          (putAin k (b2n (ainEn s k)) (q.u8 1) (ainImped s k) (ainRate s k) s), ans .ok)) q s)

/-- One 0.5 dB step towards the target; the next step starts a new timeout (R116). -/
def pgaStep (k : Nat) (s : State) : State :=
  onLine k (fun l =>
    let g := if l.gain < l.target then l.gain + 1 else if l.target < l.gain then l.gain - 1 else l.gain
    { l with gain := g, stepEnd := if g = l.target then none else some (s.time.now + zcTimeoutTu s) }) s

/-- PGA_GAIN_STEP (R116): a zero crossing lets the pending step be taken; a timeout that ends at this tu is first (R82). -/
def execPgaGainStep (ch : Fin 4) (s : State) : Out :=
  .next (if !hallRuns s hANA then s
    else
      let s := if closedO (lineOf s ch.val).stepEnd s then pgaStep ch.val s else s
      if (lineOf s ch.val).stepEnd.isSome then pgaStep ch.val s else s)

/-- PGA_STEP_TIMEOUT (R116): the timeout ends and the step is taken. -/
def execPgaStepTimeout (ch : Fin 4) (s : State) : Out :=
  .next (if closedO (lineOf s ch.val).stepEnd s && hallRuns s hANA then pgaStep ch.val s else s)

/-- AIN_OVERLOAD (R118): one sample at full scale. -/
def execAinOverload (ch : Fin 4) (s : State) : Out :=
  .next (
    let l := lineOf s ch.val
    if !l.running || !hallRuns s hANA then s
    else
      let quiet := match l.quietTo with | some d => decide (s.time.now < d) | none => false
      let s := onLine ch.val (fun l => { l with overload := satAdd 255 l.overload 1 }) s
      if quiet then s
      else raise 143 ch.val (onLine ch.val (fun l => { l with quietTo := some (s.time.now + msTu 100) }) s))

/-- AIN_DISABLE_DONE (R117): the ramp ends and the point carries zero with VALID low. -/
def execAinDisableDone (ch : Fin 4) (s : State) : Out :=
  .next (
    let l := lineOf s ch.val
    if closedO l.rampEnd s && hallRuns s hANA then
      let s := chainStop ch.val (onLine ch.val (fun l => { l with running := false, rampEnd := none, again := false }) s)
      laneFollow (if l.again then lineStart ch.val s else s)
    else s)

/-- ANA_STAGE_END (R124 to R128): the stage of a function ends; the pump's discharge stage may end early (≤ 2 ms). -/
def execAnaStageEnd (fn : Fin 9) (s : State) : Out :=
  .next (
    let f := fnOf s fn.val
    let early := fn.val == 6 && f.stage == 0x03 && f.due.isSome
    if (stageOver f.due s || early) && hallRuns s hANA then laneFollow (anaJobsDone (stageEnd fn.val s)) else s)

/-- MICBIAS_FAULT (R119). -/
def execMicbiasFault (k : Fin 2) (s : State) : Out :=
  .next (
    let i := 7 + k.val
    match (fnOf s i).st with
    | .off | .fault => s
    | _ => if hallRuns s hANA then anaJobsDone (faultDown i 0x03 (raise 142 k.val s)) else s)

/-- HP_SHORT (R121): the channel runs stages 2 to 4 at once and enters FAULT; a measurement it takes part in ends (DESIGN
CHOICE, log entry "Measurement corners"). -/
def execHpShort (right : Bool) (s : State) : Out :=
  .next (
    let i := if right then 5 else 4
    match (fnOf s i).st with
    | .off | .fault => s
    | _ =>
      if !hallRuns s hANA then s
      else
        let s := raise 139 (b2n right) (measureAbort (faultDown i 0x02 s))
        laneFollow (anaJobsDone { s with ana.jacks := s.ana.jacks.map (fun j => { j with latch.hpShort := true }) }))

/-- CP_FAULT (R123): the pump and both channels shut down into FAULT. -/
def execCpFault (s : State) : Out :=
  .next (
    match (fnOf s 6).st with
    | .off | .fault => s
    | _ =>
     if !hallRuns s hANA then s
     else
      let s := faultDown 5 0x02 (faultDown 4 0x02 s)
      let s := faultDown 6 0x03 s
      let s := measureAbort (raise 140 0 s)
      let s := { releaseGrant .cpStart s with ana.cpAsked := false }
      laneFollow (anaJobsDone { s with
        ana.jacks := s.ana.jacks.map (fun j => { j with latch.hpFail := true }), ana.holdEnd := none }))

/-- HP_LOAD_MEASURED (R129): the tone ends with the loads measured, in 0.1 Ohm. -/
def execHpLoadMeasured (left right : Nat) (s : State) : Out :=
  .next (
    match s.ana.measure with
    | some m =>
      if m.step = 2 ∧ closedO m.due s ∧ hallRuns s hANA then
        measureEnd (loadValue left) (loadValue right) (loadClass left) (loadClass right) s
      else s
    | none => s)

/-- HP_MEASURE_HOLD_END (R130): channels not enabled shut down from stage 3, and the pump after them. -/
def execHpMeasureHoldEnd (s : State) : Out :=
  .next (if closedO s.ana.holdEnd s && hallRuns s hANA then anaJobsDone (holdSettle s) else s)

end Sys2Proof.Machine
end

