-- ==== Sys2Proof/Machine/Points.lean ====
section
/-! DEFINITION. VALID and SETTLED of the present sample of a source point (R189, R196, R198). -/

namespace Sys2Proof.Machine

open Sys2Proof

/-- VALID and SETTLED of a source point: of the sample that stands at the fabric's entry. -/
def sourceBits (s : State) (p : Nat) : Bool × Bool := ((vget s.fab.src p).valid, (vget s.fab.src p).settled)

end Sys2Proof.Machine
end

