-- ==== Sys2Proof/Machine/Tdm.lean ====
section
/-! DEFINITION. TDM and S/PDIF ports as shared operations (chapter 09). -/

namespace Sys2Proof.Machine

open Sys2Proof

/-- `k` frames of a signal whose rate lies within 1,000 ppm of a code can have passed since an internal time (R225, R231). -/
def framesPassed (s : State) (since rate k : Nat) : Bool :=
  decide (k * 24576000 * 1000 ≤ (s.time.now - since) * rateHz rate * 1001)

def tdmFaultEn (s : State) (n : Nat) : Bool := Page.bit (tdmOf s n).page 28
/-- A port drives no frame from here: a format table that waited for the end of its frame takes effect (R222). -/
def tdmQuiet (n : Nat) (s : State) : State :=
  let p := tdmOf s n
  complete p.fmtCid .ok (onTdm n (fun p => { p with
    dout := [], doutPrev := [], formats := p.newFormats.getD p.formats, newFormats := none, fmtCid := none }) s)

/-- A port starts as its page says: a master runs at its next sample tick, a slave acquires (R222). The supervisor's backoff
outlives a disable (R228). -/
def tdmStart (n : Nat) (s : State) : State :=
  let s := onTdm n (fun p => { p with dozed := false }) (tdmQuiet n s)
  if (tdmOf s n).st = .retired then s
  else if !tdmEn s n then onTdm n (fun p => { p with st := .off, rate := none }) s
  else if tdmMaster s n then
    let rate := (tdmFormat s n).map (fun f => f.rate)
    onTdm n (fun p => { p with st := if asynRuns s then .running else .held, rate := rate
                               startAt := nextTick s ((rate.map rateHz).getD 0) }) s
  else onTdm n (fun p => { p with st := .acquiring, rate := none, since := s.time.now }) s

/-- Write page fields and start (TDM_PORT_SET). -/
def tdmSet (n : Nat) (page : Nat) (s : State) : State :=
  let old := (tdmOf s n).page
  let s := onTdm n (fun p => { p with page := BitVec.ofNat 32 page }) s
  let new := (tdmOf s n).page
  if (tdmOf s n).st = .retired then s
  else if Page.bit old 31 == Page.bit new 31 && Page.bit old 30 == Page.bit new 30
      && Page.get old 0 3 == Page.get new 0 3 then s
  else pathFollow (tdmStart n (onTdm n (fun p => { p with before := none, errWindow := none }) s))

/-- A slave port's clock is lost (R227): E176+n with argument 0. -/
def tdmLose (n : Nat) (s : State) : State :=
  let s := onTdm n (fun p => { p with
    st := .lost, since := s.time.now, before := p.rate, rate := none, losses := satAdd 65535 p.losses 1, errWindow := none
    dozed := false }) (tdmQuiet n s)
  pathFollow (raise (176 + n) 0 s)

/-- ASYN stops or the family changes: master ports hold their clocks low (R219). -/
def tdmHold (s : State) : State :=
  pathFollow ((List.range 6).foldl (fun s n =>
    if tdmMaster s n && (tdmOf s n).st == .running then
      onTdm n (fun p => { p with st := .held, dozed := false }) (tdmQuiet n s)
    else s) s)

/-- ASYN is locked again: ports that were held restart at the next aligned base tick (R219). -/
def tdmResume (s : State) : State :=
  (List.range 6).foldl (fun s n =>
    if (tdmOf s n).st = .held then onTdm n (fun p => { p with startAt := nextTick s (baseHz s) }) (tdmStart n s) else s) s

/-- A wake from DOZE: master ports resume at their next sample tick, slave ports acquire again, counting no gated time
(R229). The landings of a port that ran go on (R195). -/
def tdmReacquire (s : State) : State :=
  pathFollow ((List.range 6).foldl (fun s n =>
    match (tdmOf s n).st with
    | .running =>
      if tdmMaster s n then
        onTdm n (fun p => { p with startAt := nextTick s ((p.rate.map rateHz).getD 0), dozed := true }) s
      else onTdm n (fun p => { p with st := .acquiring, since := s.time.now, before := p.rate, rate := none, dozed := true }) s
    | .acquiring | .lost => onTdm n (fun p => { p with since := s.time.now }) s
    | _ => s) s)

/-- Before DOZE the ports are gated: DOUT at its idle state (R229). -/
def tdmGate (s : State) : State := { s with tdm.ports := s.tdm.ports.map (fun p => { p with dout := [], doutPrev := [] }) }

/-- Ports, tables and pages take their reset contents (R229); retirements stay. -/
def tdmReset (s : State) : State :=
  { s with tdm := { ports := s.tdm.ports.map (fun p => { st := if p.st = .retired then .retired else .off, backoff := p.backoff }) } }

/-! ### S/PDIF -/

def rxEn (s : State) (k : Nat) : Bool := Page.bit s.tdm.page0D00 (8 * k + 7)
def rxPass (s : State) (k : Nat) : Bool := Page.bit s.tdm.page0D00 (8 * k + 4)
def passPort (s : State) (k : Nat) : Nat := Page.get s.tdm.page0D00 (16 + 16 * k + 8) 8
def outEn (s : State) : Bool := Page.bit s.tdm.page0D00 63
def outAuto (s : State) : Bool := Page.bit s.tdm.page0D00 62
def outWord (s : State) : Nat := Page.get s.tdm.page0D00 60 2
def outRate (s : State) : Nat := Page.get s.tdm.page0D00 56 4

/-- The three conditions of passthrough (R234). -/
def passConds (s : State) (k port : Nat) : Bool :=
  rxIsRef s k && tdmMaster s port && (tdmOf s port).st == .running &&
  (match tdmFormat s port, (rxOf s k).rate with
   | some f, some r => f.rate == r && decide ((if (rxOf s k).bits16 then 16 else 24) ≤ f.dataBits)
   | _, _ => false)

/-- PASS_OK (R234). -/
def passOk (s : State) (k : Nat) : Bool := rxPass s k && passConds s k (passPort s k)

/-- A receiver loses lock (R231): E182+k with argument 0. -/
def rxLose (k : Nat) (s : State) : State :=
  pathFollow (raise (182 + k) 0 (onRx k (fun r => { r with st := .unlocked, since := s.time.now, rate := none, candidate := none,
                                                           bits16 := false }) s))

/-- EN of a receiver changed. -/
def rxEnable (k : Nat) (s : State) : State :=
  if rxEn s k then onRx k (fun r => if r.st = .off then { r with st := .unlocked, since := s.time.now } else r) s
  else pathFollow (onRx k (fun r => { r with st := .off, rate := none, candidate := none, bits16 := false }) s)

/-- The transmitter's enable and rate changed (SPDIF_OUT_SET): a change of rate restarts the line. -/
def outChange (wasRate : Nat) (s : State) : State :=
  if !outEn s then
    let s := { s with tdm.outState := 0, tdm.outBoth := false, tdm.outValid := false, tdm.outFrame := [] }
    match s.tdm.outNext with
    | some (b, cids) => completeAll cids .ok { s with tdm.outBytes := b, tdm.outNext := none }
    | none => s
  else if outRate s ≠ wasRate then
    { s with tdm.outState := 0, tdm.outBoth := false, tdm.outValid := false, tdm.outFrame := [] }
  else s

/-- The bytes as sent: with AUTO_CS the fields of RATE and WORD (R237), bit 1 always 0. -/
def outSent (s : State) : List Byte :=
  let codes := Config.csCodes (outRate s) (outWord s)
  let block (bs : List Byte) : List Byte :=
    let x := leNat bs
    let x := if outAuto s then putBits (putBits x 24 4 codes.1) 32 4 codes.2 else x
    leBytes 24 (putBits x 1 1 0)
  block (s.tdm.outBytes.take 24) ++ block ((s.tdm.outBytes.drop 24).take 24) ++ s.tdm.outBytes.drop 48

end Sys2Proof.Machine
end

