-- ==== Sys2Proof/Machine/Drive.lean ====
section
/-! DEFINITION. Drive ports and power-stage groups as shared operations (chapter 12): stages, quiet stop, safe stop,
automatic power-down, characterisation. -/

namespace Sys2Proof.Machine

open Sys2Proof

def grpOf (s : State) (g : Nat) : DrvGroup := vget s.drv.groups g
def onGrp (g : Nat) (f : DrvGroup → DrvGroup) (s : State) : State := { s with drv.groups := vupd s.drv.groups g f }

/-- Ports of a group (R284). -/
def grpPorts (g : Nat) : List Nat := [4 * g, 4 * g + 1, 4 * g + 2, 4 * g + 3]

/-! ### Page fields (Tables 12.11 and 12.12) -/

def drvPageEn (s : State) (n : Nat) : Bool := Page.bit (drvOf s n).page 31
def drvLoop (s : State) (n : Nat) : Nat := Page.get (drvOf s n).page 29 2
def drvLoadSrc (s : State) (n : Nat) : Bool := Page.bit (drvOf s n).page 26
def drvRampMs (s : State) (n : Nat) : Nat := Page.get (drvOf s n).page 8 8
def drvSs (s : State) (n : Nat) : Nat := Page.get (drvOf s n).page 32 3
def drvFsV (s : State) (n : Nat) : Nat := Page.get (drvOf s n).page 80 16
def drvIlim (s : State) (n : Nat) : Nat := Page.get (drvOf s n).page 56 8
def drvIsnScale (s : State) (n : Nat) : Nat := Page.get (drvOf s n).page 112 16
def drvPutEn (n : Nat) (en : Bool) (s : State) : State :=
  onDrv n (fun p => { p with page := Page.put p.page 31 1 (b2n en), enWait := false }) s
/-- EN of a command: 0 acts at once, 1 once the group's grant is given (R470). -/
def drvAskEn (n : Nat) (en : Bool) (s : State) : State :=
  if en then onDrv n (fun p => { p with enWait := true }) s else drvPutEn n false s

def grpOwn (s : State) (g : Nat) : Bool := Page.bit (grpOf s g).page 31
def grpHigh (s : State) (g : Nat) : Bool := Page.bit (grpOf s g).page 30
def grpAuto (s : State) (g : Nat) : Bool := Page.bit (grpOf s g).page 29
def grpPol (s : State) (g : Nat) : Bool := Page.bit (grpOf s g).page 28
def grpDozeKeep (s : State) (g : Nat) : Bool := Page.bit (grpOf s g).page 26
def grpRail (s : State) (g : Nat) : Nat := Page.get (grpOf s g).page 0 16
def grpFltPol (s : State) (g : Nat) : Bool := Page.bit (grpOf s g).page 27
def grpSettle (s : State) (g : Nat) : Nat := Page.get (grpOf s g).page 40 8
/-- EN of a group page. -/
def grpPutEn (g : Nat) (en : Bool) (s : State) : State :=
  onGrp g (fun k => { k with page := Page.put k.page 31 1 (b2n en), enWait := false }) s

/-- PSGg_FLT is at its active level, which FLT_POL sets (R285). -/
def grpFlt (s : State) (g : Nat) : Bool := (grpOf s g).fltLevel == grpFltPol s g
/-- The ball is seen active, or inactive. -/
def grpSeeFlt (g : Nat) (active : Bool) (s : State) : State :=
  onGrp g (fun k => { k with fltLevel := active == grpFltPol s g }) s

/-- A start of the group has its grant or needs none. -/
def grpHeld (s : State) (g : Nat) : Bool := (grpOf s g).st == .on || ((grpOf s g).st == .starting && !(grpOf s g).asked)

/-- EN 1 of a port takes effect: its start has its grant (R470). -/
def drvTakeEn (n : Nat) (s : State) : State :=
  let p := drvOf s n
  if p.enWait && grpHeld s (n / 4) && !(p.st == .stopped && p.again) then drvPutEn n true s else s
/-- EN 1 of a group likewise, and of its ports. -/
def grpTakeEn (g : Nat) (s : State) : State :=
  let s := if (grpOf s g).enWait && grpHeld s g then grpPutEn g true s else s
  (grpPorts g).foldl (fun s n => drvTakeEn n s) s

/-- Carrier selected, in Hz (Table 12.2). -/
def carrierHz (s : State) (g : Nat) : Nat := (if grpHigh s g then 16 else 8) * baseHz s

/-- Carrier now (R307): the crystal's or the safety RC's while HALL_DRV runs from one of them. -/
def carrierNow (s : State) (g : Nat) : Nat :=
  match (hallOf s hDRV).clk with
  | .normal => carrierHz s g
  | .xtal => 384000
  | .rc => 375000
  | .slow => 375000

/-- `n` carrier periods in tu. -/
def carriersTu (s : State) (g n : Nat) : Nat := samplesTu (carrierNow s g) n

/-! ### Loads (R295 to R297) -/

/-- The entry LOAD_SRC selects. -/
def loadEntry (s : State) (n : Nat) : Option (List Byte) := if drvLoadSrc s n then (drvOf s n).measured else (drvOf s n).load

/-- F_LOOP in effect: at most 0.3 × the carrier (R295). -/
def floopLimit (s : State) (n : Nat) : Nat := 3 * carrierHz s (n / 4) / 1000
def floopOf (s : State) (n : Nat) (e : List Byte) : Nat := min (leAt e 18 2) (floopLimit s n)
/-- A load entry with F_LOOP in effect in place of its own. -/
def floopEntry (s : State) (n : Nat) (e : List Byte) : List Byte := e.take 18 ++ b2 (floopOf s n e) ++ e.drop 20

/-- A port in closed loop has a valid entry from LOAD_SRC, or needs none (R297). -/
def loadValid (s : State) (n : Nat) : Bool := drvLoop s n != 0 || (loadEntry s n).isSome

/-- f0 = 1 / (2π√(LC)) in 0.1 Hz, to the nearest, for L in nH and C in nF (R296); 4π² to 18 places. -/
def resonance (l c : Nat) : Nat :=
  if l * c = 0 then 0 else (isqrt (4 * 10 ^ 38 / (39478417604357434475 * (l * c))) + 1) / 2

/-- f0 lies from 20 kHz to 100 kHz: exactly, as LC against 1 / (2π f0)². -/
def resonanceOk (l c : Nat) : Bool :=
  decide (10 ^ 36 ≤ 39478417604357434475 * (l * c) * 10 ^ 10 ∧ 39478417604357434475 * (l * c) * (4 * 10 ^ 8) ≤ 10 ^ 36)

/-- A load entry in range (Table 12.4). -/
def loadOk (e : List Byte) : Bool :=
  within 1000 100000 (leAt e 0 4) && within 10 10000 (leAt e 4 4) && within 1000 64000 (leAt e 8 4)
    && decide (leAt e 12 2 ≤ 10000 ∧ leAt e 14 2 ≤ 2000) && within 300 1000 (leAt e 16 2)
    && within 600 1200 (leAt e 18 2) && decide (leAt e 20 1 ≤ 1) && leNat (e.drop 21) == 0
    && resonanceOk (leAt e 0 4) (leAt e 4 4)

/-! ### States -/

def DrvState.code : DrvState → Nat
  | .stopped => 0 | .softStart => 1 | .running => 2 | .softStop => 3 | .quietStop => 4 | .safeStop => 5 | .retired => 6
  | .restarting => 7

def GroupState.code : GroupState → Nat
  | .off => 0 | .starting => 1 | .on => 2 | .stopping => 3 | .fault => 4 | .restarting => 5

/-- A port takes a state: event 4n + 3 where it is new. -/
def drvTo (n : Nat) (st : DrvState) (s : State) : State :=
  if (drvOf s n).st = st then s else raise (4 * n + 3) st.code (onDrv n (fun p => { p with st := st }) s)

/-- A quiet-stop cause of R307 holds. -/
def quietCause (s : State) : Bool :=
  !asynRuns s || !s.clk.edge || s.clk.familyChange || fhChanging s

/-- A stage begins; it ends after `len`. With 0x12 the noise shaper starts from zero (R290). -/
def drvStage (n code len : Nat) (s : State) : State :=
  onDrv n (fun p => { p with
    stage := code, began := s.time.now, due := some (s.time.now + len), ramp := len, waiting := false
    pwm := if code = 0x12 then {} else p.pwm }) s

/-- A ramp reverses from its present amplitude into the other ramp stage (R126, R127), at the rate of RAMP_MS: the parts of
the ramp that are left. -/
def drvReverse (n code : Nat) (s : State) : State :=
  let p := drvOf s n
  let full := msTu (drvRampMs s n)
  let ran := p.ramp - ((p.due.getD s.time.now) - s.time.now)
  onDrv n (fun p => { p with ramp := full }) (drvStage n code (full * ran / max 1 p.ramp) s)

/-- ILIM and BLANK of a drive page (Table 12.11), which apply from the next carrier period (R313). -/
def driveLateMask : Nat := 0xFFFF * 2 ^ 48
/-- The fields that wait reach their effect point. -/
def drvTake (n : Nat) (s : State) : State :=
  let p := drvOf s n
  if p.late.isNone then s
  else
    let live := lateLive p.page.toNat driveLateMask p.late
    lateDone p.late none (onDrv n (fun p => { p with page := BitVec.ofNat 128 live, late := none }) s)

/-- A port is idle: its sense converters and its chains stop; what waited for a carrier period is taken. -/
def drvIdle (n : Nat) (s : State) : State :=
  let s := chainStop (74 + n) (chainStop (50 + n) (chainStop (26 + n) s))
  drvTake n (onDrv n (fun p => { p with
    stage := 0, due := none, waiting := false, thenDown := false, again := false, enWait := false
    inForce := none, clamped := false, limitRun := 0, pwm := {} }) s)

/-- The entry selected comes into force at a start-up (R297). -/
def drvLoad (n : Nat) (s : State) : State :=
  let e := loadEntry s n
  onDrv n (fun p => { p with inForce := e, loadPending := false }) s

/-- Stage 0x11 begins: the sense converters start (R306). -/
def drvBias (n : Nat) (s : State) : State :=
  drvStage n 0x11 (usTu 200) (chainStart (74 + n) (chainStart (50 + n) (chainStart (26 + n) s)))

/-- A waiting port begins its start-up once its group is ON and no quiet-stop cause holds (R306, R308). -/
def drvGo (n : Nat) (s : State) : State :=
  if (drvOf s n).waiting && (grpOf s (n / 4)).st == .on && !quietCause s then drvBias n s else s

/-- Ports of a group that wait go on. -/
def grpGo (g : Nat) (s : State) : State := (grpPorts g).foldl (fun s n => drvGo n s) s

/-- The SS ramp. -/
def ssTu (s : State) (n : Nat) : Nat := carriersTu s (n / 4) (256 * 2 ^ drvSs s n)

/-! ### Groups (Table 12.8, R304, R309) -/

/-- I_Q of the supply table that names a port of a mask, in mA (Table 16.4). -/
def supplyIq (s : State) (mask : Nat) : Nat :=
  match s.prot.supplies.find? (fun x => x.table.mask &&& mask != 0) with
  | some x => x.table.iQ
  | none => 0

/-- PSGg_EN takes its active level; EN_SETTLE runs. EN of the pages follows (R470). -/
def grpBegin (g : Nat) (s : State) : State :=
  grpTakeEn g (onGrp g (fun k => { k with
    st := .starting, asked := false, enLevel := grpPol s g, toFault := false
    due := some (s.time.now + cdiv (grpSettle s g * 24576) 10) }) s)

/-- PSGg_EN takes its inactive level; stage 3 runs for 1 ms. -/
def grpStop (g : Nat) (s : State) : State :=
  onGrp g (fun k => { k with
    st := .stopping, due := some (s.time.now + tuPerMs), asked := false, thenDown := false, covered := false
    enLevel := k.applied && !grpPol s g }) s

/-- A grant to start a group was refused: its waiting ports, and those that wait in QUIET_STOP, go back to STOPPED, the
commands that need it learn it (DRV_ENABLE, R310), and EN stays as it was (R470). -/
def grpRefused (g : Nat) (s : State) : State :=
  let s := onGrp g (fun k => { k with
    st := .off, asked := false, due := none, autoAsk := false, thenDown := false, enWait := false }) s
  let s := (grpPorts g).foldl (fun s n =>
    if (drvOf s n).waiting || (drvOf s n).st == .quietStop then drvTo n .stopped (drvIdle n s) else s) s
  { s with
    drv.jobs := s.drv.jobs.map (fun j =>
      if j.on ∧ (maskBit j.groups g ∨ (grpPorts g).any (maskBit j.mask)) then { j with refused := true } else j) }

/-- A group starts: a grant is asked for (R305, R309). A stop on silence is over with it (R310). -/
def grpStart (g : Nat) (cid : Option Nat) (who : Nat) (s : State) : State :=
  let s := onGrp g (fun k => { k with autoStopped := false }) s
  let k := grpOf s g
  match k.st with
  | .on => s
  | .restarting => s
  | .starting => onGrp g (fun k => { k with thenDown := false }) s
  | .stopping => onGrp g (fun k => { k with st := .restarting }) s
  | _ =>
    let s := onGrp g (fun k => { k with st := .starting, asked := true, due := none, thenDown := false }) s
    let r := askGrant (.psgEnable (Fin.ofNat 6 g)) cid who 0 (supplyIq s (15 * 16 ^ g)) (15 * 16 ^ g) s
    if r.2 = .refused then grpRefused g r.1 else r.1

/-- The retry of a port waits for the grant of its group (R332). -/
def retryWaits (s : State) (n : Nat) : Bool :=
  let c := vget s.prot.drvCh n
  c.st == .retryWait && c.reask.isNone

/-- The retries that waited for a request that leaves the queue ask again 32 ms later (R332). -/
def retryLater (g : Nat) (s : State) : State :=
  { s with prot.drvCh := vmapi s.prot.drvCh (fun n c =>
      if n / 4 = g ∧ c.st = .retryWait ∧ c.reask = none then { c with reask := some (s.time.now + msTu 32) } else c) }

/-- A group that nobody needs stops (R127, R309). -/
def grpDown (g : Nat) (s : State) : State :=
  let k := grpOf s g
  match k.st with
  | .on => grpStop g s
  | .restarting => onGrp g (fun k => { k with st := .stopping }) s
  | .starting =>
    if k.asked then
      releaseGrant (.psgEnable (Fin.ofNat 6 g))
        (retryLater g (onGrp g (fun k => { k with st := .off, asked := false, autoAsk := false, enWait := false }) s))
    else onGrp g (fun k => { k with thenDown := true }) s
  | _ => s

/-- The port under characterisation. -/
def charPort (s : State) : Option Nat := match s.drv.char with | some c => c.left.head? | none => none

/-- A port lets its group go: not while an enable of it waits for a cause of R307 to end. -/
def drvAtRest (s : State) (n : Nat) : Bool :=
  let p := drvOf s n
  (p.st == .stopped && !p.again) || p.st == .safeStop || p.st == .retired

/-- An entry into DOZE runs. -/
def dozing (s : State) : Bool := match s.pwr.entry with | some e => e.target == 1 | none => false

/-- A group not enabled in its own right runs stage 3 once its ports are at rest (R309); one stopped on silence does
so too (R310); before DOZE every group without DOZE_KEEP does (R311). -/
def grpIdle (g : Nat) (s : State) : State :=
  let k := grpOf s g
  if (if dozing s then !grpDozeKeep s g else (!(grpOwn s g || k.enWait) || k.autoStopped) && !(grpPorts g).any (retryWaits s))
      && !k.autoAsk && (grpPorts g).all (drvAtRest s) && !(match charPort s with | some n => n / 4 == g | none => false) then grpDown g s else s

/-! ### Port start and shut-down (Tables 12.9 and 12.10, R126, R127) -/

/-- A port starts: the entry selected is in force from here on (R297), and it waits in 0x11 for its group. In closed loop
without a valid entry it cannot start. While a cause of R307 holds, the start is carried out when the cause ends (R308): a
STOPPED port stays so, another waits in QUIET_STOP. -/
def drvStart (n : Nat) (cid : Option Nat) (who : Nat) (s : State) : State :=
  let s := onDrv n (fun p => { p with resume := false, autoStopped := false }) s
  if !loadValid s n then drvTo n .stopped (drvIdle n s)
  else if quietCause s then
    if (drvOf s n).st = .stopped then onDrv n (fun p => { p with again := true }) s
    else drvTo n .quietStop (onDrv n (fun p => { p with stage := 0, due := none, waiting := false, again := true }) s)
  else
    let s := drvTo n .softStart (onDrv n (fun p => { p with
      stage := 0x11, began := s.time.now, due := none, waiting := true, thenDown := false, again := false }) (drvLoad n s))
    drvTakeEn n (drvGo n (grpStart (n / 4) cid who s))

/-- A start-up goes on at stage `code`; past 0x14 the port is RUNNING. -/
def drvUp (n code : Nat) (s : State) : State :=
  match code with
  | 0x12 => drvStage n 0x12 (ssTu s n) (drvTo n .softStart s)
  | 0x13 => drvStage n 0x13 (usTu 500) (drvTo n .softStart s)
  | 0x14 => drvStage n 0x14 (msTu (drvRampMs s n)) (drvTo n .softStart s)
  | _ => drvTo n .running (onDrv n (fun p => { p with stage := 0, due := none }) s)

/-- A port reaches STOPPED; a restart begins at once (R126). -/
def drvStopped (n : Nat) (s : State) : State :=
  let again := (drvOf s n).st == .restarting
  let s := drvIdle n s
  if again then drvStart n none 4 s else grpIdle (n / 4) (drvTo n .stopped s)

/-- A shut-down goes on at stage `code`; past 0x04 the port is STOPPED. -/
def drvDown (n code : Nat) (s : State) : State :=
  let s := if (drvOf s n).st = .restarting then s else drvTo n .softStop s
  match code with
  | 0x01 => drvStage n 0x01 (msTu (drvRampMs s n)) s
  | 0x02 => drvStage n 0x02 (usTu 500) s
  | 0x03 => drvStage n 0x03 (ssTu s n) s
  | 0x04 => drvStage n 0x04 (usTu 100) s
  | _ => drvStopped n s

/-- A host, the supervisor or a service enables a port; the second component tells that the answer is RESTARTING. -/
def drvEnable (n : Nat) (cid : Option Nat) (who : Nat) (s : State) : State × Bool :=
  let p := drvOf s n
  let s := onDrv n (fun p => { p with wanted := true, autoStopped := false }) s
  let s := if p.st = .stopped then s else drvTakeEn n s
  match p.st with
  | .stopped => (drvStart n cid who s, false)
  | .softStart => (s, false)
  | .running => (s, false)
  | .restarting => (s, true)
  | .quietStop => (onDrv n (fun p => { p with again := true }) s, false)
  | .softStop =>
    if p.thenDown then (drvTo n .softStart (onDrv n (fun p => { p with thenDown := false }) s), false)
    else match p.stage with
    | 0x01 => (drvReverse n 0x14 (drvTo n .softStart s), false)
    | 0x02 => (drvUp n 0x14 s, false)
    | _ => (drvTo n .restarting s, true)
  | _ => (s, false)

/-- A port is disabled. -/
def drvDisable (n : Nat) (s : State) : State :=
  let p := drvOf s n
  let s := onDrv n (fun p => { p with
    wanted := false, autoStopped := false, again := false, resume := false, enWait := false }) s
  match p.st with
  | .stopped => if p.again then grpIdle (n / 4) s else s
  | .running => drvDown n 0x01 s
  | .restarting => drvTo n .softStop s
  | .quietStop => drvStopped n (drvTo n .quietStop s)
  | .softStart =>
    if p.waiting then drvStopped n s
    else match p.stage with
    | 0x13 => drvDown n 0x02 s
    | 0x14 => drvReverse n 0x01 (drvTo n .softStop s)
    | _ => drvTo n .softStop (onDrv n (fun p => { p with thenDown := true }) s)
  | _ => s

/-- A port enters SAFE_STOP (R303, R305). -/
def drvSafe (n : Nat) (s : State) : State :=
  if (drvOf s n).st = .retired then s else grpIdle (n / 4) (drvTo n .safeStop (drvIdle n s))

/-- The chains of a port: VFB and ISN fine paths, interpolator (Table 7.1). -/
def drvChains (n : Nat) : List Nat := [26 + n, 50 + n, 74 + n]

/-- A port is retired with its sense converters and its interpolator (R28, R331, R186); a group with four retired ports
stays OFF (R305). -/
def drvRetire (n : Nat) (s : State) : State :=
  let s := (drvChains n).foldl (fun s c => chainRetire c s) (grpIdle (n / 4) (drvTo n .retired (drvIdle n s)))
  if (grpPorts (n / 4)).all (drvRetired s) ∧ (grpOf s (n / 4)).st = .fault then
    onGrp (n / 4) (fun k => { k with st := .off }) s
  else s

/-! ### Commands that wait -/

/-- A named port is where the command leads. -/
def drvSettled (s : State) (n : Nat) : Bool :=
  let p := drvOf s n
  p.st == .running || (p.st == .stopped && !p.again) || p.st == .retired

def grpSettled (s : State) (g : Nat) : Bool := (grpOf s g).st == .on || (grpOf s g).st == .off

/-- Commands whose ports and groups have settled complete. -/
def drvJobsDone (s : State) : State :=
  let done (j : DrvJob) : Bool := (maskList j.mask 24).all (drvSettled s) && (maskList j.groups 6).all (grpSettled s)
  (s.drv.jobs.filter done).foldl (fun s j =>
    complete (some j.cid) (if j.refused then .noGrant else if j.restarting then .restarting else .ok) s)
    { s with drv.jobs := s.drv.jobs.filter (fun j => !done j) }

/-- After any change of ports: commands complete, lanes follow their ends (R215). -/
def drvSettle (s : State) : State := laneFollow (drvJobsDone s)

/-- Enable or disable the ports of a mask under a job (DRV_ENABLE); the groups' grants are asked for in ascending
order. -/
def drvEnableMask (mask : Nat) (on : Bool) (cid : Nat) (who : Nat) (s : State) : State :=
  let r := (maskList mask 24).foldl (fun (r : State × Bool) n =>
    if on then let x := drvEnable n (some cid) who r.1; (x.1, r.2 || x.2) else (drvDisable n r.1, r.2)) (s, false)
  let refused := on && (maskList mask 24).any (fun n => (drvOf r.1 n).st == .stopped && !(drvOf r.1 n).again)
  { r.1 with
    drv.jobs := r.1.drv.jobs ++ [({ cid := cid, mask := mask, groups := 0, on := on, restarting := r.2
                                    refused := refused, who := who } : DrvJob)] }

/-! ### Quiet stop (R307, R308) -/

/-- `m` within ±`x`. -/
def clampRat (x m : Rat) : Rat := max (-x) (min x m)

/-- A port makes a quiet stop from any stage but SAFE_STOP and RETIRED (R307): m falls from its present value over 256 carrier
periods. Legs that are idle stay idle, and legs in a common-mode ramp keep their duty (DESIGN CHOICE, log entry "Quiet stop
outside the modulation"). -/
def drvQuiet (n : Nat) (s : State) : State :=
  let p := drvOf s n
  match p.st with
  | .softStart | .running | .restarting | .softStop =>
    drvTo n .quietStop (onDrv n (fun q => { q with
      stage := 0, began := s.time.now, again := p.st != .softStop && p.wanted, thenDown := false, waiting := false
      due := some (s.time.now + carriersTu s (n / 4) 256)
      pwm := { q.pwm with quiet := 0, from_ := (q.pwm.edges.aLead + q.pwm.edges.aTrail) / 2 } }) s)
  | _ => s

/-- The command that waits for a port to run. -/
def drvJobOf (s : State) (n : Nat) : Option DrvJob := s.drv.jobs.find? (fun j => j.on && maskBit j.mask n)

/-- Ports that wait for the causes of R307 to end start once none holds (R308). -/
def drvQuietOver (s : State) : State :=
  if quietCause s then s
  else
    drvSettle ((List.range 24).foldl (fun s n =>
      let p := drvOf s n
      if p.again && (p.st == .stopped || (p.st == .quietStop && p.due.isNone)) then
        drvStart n ((drvJobOf s n).map (fun j => j.cid)) (((drvJobOf s n).map (fun j => j.who)).getD 4) s
      else drvGo n s) s)

/-! ### Characterisation (R298, R299) -/

/-- The bulk cost and ports of a characterisation. -/
def charBulk (s : State) (n : Nat) : Nat := if (grpOf s (n / 4)).st = .on then 0 else supplyIq s (15 * 16 ^ (n / 4))

/-- The result of a port; one other than 0 leaves it without a valid measured entry. -/
def charPut (n code : Nat) (s : State) : State :=
  let s := { s with drv.char := s.drv.char.map (fun c => { c with results := vset c.results n code }) }
  if code = 0 then s else onDrv n (fun p => { p with measured := none }) s
/-- The ports left. -/
def charLeft (l : List Nat) (s : State) : State := { s with drv.char := s.drv.char.map (fun c => { c with left := l }) }
/-- Groups that no port in progress needs run stage 3 (R298, R309). -/
def grpsIdle (s : State) : State := [0, 1, 2, 3, 4, 5].foldl (fun s g => grpIdle g s) s

/-- The characterisation ends: results, final status. -/
def charFinish (s : State) : State :=
  match s.drv.char with
  | none => s
  | some c =>
    let s := grpsIdle { s with drv.char := none }
    completeP c.cid (if c.results.toList.contains 6 then .noGrant else .ok) 0 (c.results.toList.flatMap b1) s

/-- The next port asks for its grant, after a group that only the last one needed stops; `fuel` is at least the ports
left. -/
def charNext : Nat → State → State
  | 0, s => s
  | fuel + 1, s =>
    match s.drv.char with
    | none => s
    | some c => match c.left with
      | [] => charFinish s
      | n :: rest =>
        let s := grpsIdle { s with drv.char := some { c with step := 1, due := none, tripped := false } }
        let r := askGrant (.loadChar (Fin.ofNat 24 n)) c.cid c.who 10 (charBulk s n) (2 ^ n) s
        if r.2 = .refused then charNext fuel (charLeft rest (charPut n 6 r.1)) else r.1

/-- The port's stages begin once its group is ON. -/
def charGo (s : State) : State :=
  match s.drv.char, charPort s with
  | some c, some n =>
    if c.step = 1 ∧ grantHeld (.loadChar (Fin.ofNat 24 n)) s ∧ (grpOf s (n / 4)).st = .on then
      drvBias n (drvLoad n (drvTo n .softStart { s with drv.char := some { c with step := 2 } }))
    else s
  | _, _ => s

/-- The grant of a port's characterisation is given (R298). -/
def charBegin (n : Nat) (s : State) : State :=
  match (grpOf s (n / 4)).st with
  | .on => charGo s
  | .off | .fault => onGrp (n / 4) (fun k => { k with covered := true }) (grpBegin (n / 4) s)
  | _ => s

/-- The group of the port in progress has come to rest: it starts again under the LOAD_CHAR grant held. -/
def charAgain (n : Nat) (s : State) : State :=
  if grantHeld (.loadChar (Fin.ofNat 24 n)) s then charBegin n s else s

/-- The grant is refused: result 6, the next port follows. -/
def charRefused (n : Nat) (s : State) : State :=
  match s.drv.char with
  | some c => if c.left.head? = some n then charNext 25 (charLeft (c.left.drop 1) (charPut n 6 s)) else s
  | none => s

/-- A port's measurement has ended: its grant is released, the next one follows. -/
def charPortDone (s : State) : State :=
  match s.drv.char with
  | some c => match c.left with
    | n :: rest => charNext 25 (releaseGrant (.loadChar (Fin.ofNat 24 n)) { s with drv.char := some { c with left := rest } })
    | [] => s
  | none => s

/-- The characterisation is aborted (R299): the port in progress and those not yet measured report ABORTED. -/
def charAbort (s : State) : State :=
  match s.drv.char with
  | none => s
  | some c =>
    let s := match c.left with
      | n :: _ =>
        let s := onGrp (n / 4) (fun k => { k with covered := false }) (releaseGrant (.loadChar (Fin.ofNat 24 n)) s)
        let p := drvOf s n
        let s := { s with drv.char := none }
        if p.st == DrvState.softStart then (if p.due.isNone then drvDown n 0x03 s else drvDisable n s) else s
      | [] => s
    charFinish (c.left.foldl (fun s n => charPut n 4 s) { s with drv.char := some { c with left := [] } })

/-- A port is named by the running characterisation, measured or not (R299). -/
def charNames (s : State) (n : Nat) : Bool := match s.drv.char with | some c => maskBit c.mask n | none => false

/-- Every port makes a quiet stop (R307); a characterisation is aborted (R299). -/
def drvQuietAll (s : State) : State := drvSettle ((List.range 24).foldl (fun s n => drvQuiet n s) (charAbort s))

/-! ### Stage ends -/

/-- A stage of a port ends (R306, R126, R127, R298). -/
def drvStageEnd (n : Nat) (s : State) : State :=
  let p := drvOf s n
  let measuring := charPort s == some n
  match p.st, p.stage with
  | .softStart, 0x11 => drvUp n 0x12 (if measuring then
      { s with drv.char := s.drv.char.map (fun c => { c with step := 3 }) } else s)
  | .softStart, 0x12 =>
    if measuring then
      { onDrv n (fun p => { p with due := none }) s with
        drv.char := s.drv.char.map (fun c => { c with step := 4, due := some (s.time.now + msTu 50) }) }
    else drvUp n 0x13 s
  | .softStart, 0x13 => drvUp n 0x14 s
  | .softStart, _ => drvUp n 0x15 s
  | _, 0x11 => drvDown n 0x03 (onDrv n (fun p => { p with thenDown := false }) s)
  | _, 0x12 => drvDown n 0x03 (onDrv n (fun p => { p with thenDown := false }) s)
  | _, 0x04 =>
    if measuring then { drvStopped n s with drv.char := (drvStopped n s).drv.char.map (fun c => { c with step := 6 }) }
    else drvStopped n s
  | _, c => drvDown n (c + 1) s

/-- A group reaches ON: ports that wait go on, a stop that was asked for follows. -/
def grpOn (g : Nat) (s : State) : State :=
  let k := grpOf s g
  let s := if k.covered then s else releaseGrant (.psgEnable (Fin.ofNat 6 g)) s
  let s := onGrp g (fun k => { k with st := .on, due := none, covered := false, thenDown := false }) s
  if k.thenDown then grpStop g s else charGo (grpGo g s)

/-- A group's stage 3 ends. -/
def grpOff (g : Nat) (s : State) : State :=
  let k := grpOf s g
  let dead := (grpPorts g).all (drvRetired s)
  let s' := onGrp g (fun k => { k with st := if k.toFault && !dead then .fault else .off, due := none, toFault := false }) s
  if k.st = .restarting then grpStart g none 4 s'
  else match charPort s with
    | some n => if n / 4 = g then charAgain n s' else s'
    | none => s'

/-! ### Automatic power-down on silence (R310) -/

/-- Running ports of a group. -/
def grpRunning (s : State) (g : Nat) : List Nat := (grpPorts g).filter (fun n => (drvOf s n).st == .running)

/-- Every watched point has been silent: the running ports shut down, then the group. -/
def autoOff (s : State) : State :=
  let gs := [0, 1, 2, 3, 4, 5].filter (grpAuto s)
  if gs.isEmpty then s else
  drvSettle (gs.foldl (fun s g =>
    let ns := grpRunning s g
    if !ns.isEmpty && ns.all (fun n => sinkSilent s (6 + n)) then
      let s := onGrp g (fun k => { k with autoStopped := true }) s
      ns.foldl (fun s n => drvDown n 0x01 (onDrv n (fun p => { p with autoStopped := true }) s)) s
    else s) s)

/-- Sound at source point `p`: the group and its AUTO_STOPPED ports start under one grant. -/
def autoOn (p : Nat) (s : State) : State :=
  drvSettle ([0, 1, 2, 3, 4, 5].foldl (fun s g =>
    let mine := (grpPorts g).filter (fun n => (drvOf s n).autoStopped)
    if !mine.any (fun n => (watchedPoints s (6 + n)).contains p) then s
    else if grpHeld s g then
      mine.foldl (fun s n => (drvEnable n none 4 s).1) (onGrp g (fun k => { k with autoStopped := false }) s)
    else grpStart g none 4 (onGrp g (fun k => { k with autoAsk := true }) s)) s)

/-- The grant of a group is given: EN_SETTLE begins, and ports stopped on silence start (R305, R310). -/
def grpGranted (g : Nat) (s : State) : State :=
  let auto := (grpOf s g).autoAsk
  let s := grpBegin g s
  if auto then
    let s := onGrp g (fun k => { k with autoAsk := false, autoStopped := false }) s
    (grpPorts g).foldl (fun s n =>
      if (drvOf s n).autoStopped && (drvOf s n).st == .stopped then drvStart n none 4 s else s) s
  else s

/-! ### Sleep and reset (R311) -/

/-- Every port and group shuts down as though disabled (R382, R311: LISTEN, RETAIN, OFF). -/
def drvAllDown (s : State) : State :=
  let s := [0, 1, 2, 3, 4, 5].foldl (fun s g => grpPutEn g false s) s
  let s := (List.range 24).foldl (fun s n => drvDisable n (drvPutEn n false s)) (charAbort s)
  drvSettle (grpsIdle s)

/-- Before DOZE the ports that are not STOPPED stop, to resume (R311). -/
def drvDoze (s : State) : State :=
  (List.range 24).foldl (fun s n =>
    let p := drvOf s n
    if (p.st = .stopped ∧ !p.again) ∨ p.st = .safeStop ∨ p.st = .retired then s
    else onDrv n (fun q => { q with resume := true, wanted := p.wanted }) (drvDisable n s)) (charAbort s)

/-- On wake the ports with RESUME start (R311). -/
def drvResume (s : State) : State :=
  drvSettle ((List.range 24).foldl (fun s n => if (drvOf s n).resume then
    (if (drvOf s n).st = .stopped then drvStart n none 4 s else onDrv n (fun p => { p with resume := false }) (drvEnable n none 4 s).1)
    else s) s)

/-- Pages, load tables and measured entries take their reset contents; SAFE_STOP and RETIRED stay (R311). -/
def drvReset (s : State) : State :=
  { s with
    drv := { ports := s.drv.ports.map (fun p => { st := if p.st = .retired then .retired
                                                       else if p.st = .safeStop then .safeStop else .stopped }) } }

/-- What a port's loop figures rest on: entry in force or selected. -/
def presentEntry (s : State) (n : Nat) : Option (List Byte) :=
  match (drvOf s n).inForce with
  | some e => some e
  | none => loadEntry s n

end Sys2Proof.Machine
end

