-- ==== Sys2Proof/Machine/Image.lean ====
section
/-! DEFINITION. Graph images (R247 to R254): reading one from its bytes, the checks in the order of the REASON codes, and
the cycle budget. -/

namespace Sys2Proof.Machine

open Sys2Proof

/-! ### Reading an image (Tables 10.3, 10.4, 10.6) -/

/-- The node at offset `o`; its parameter block is taken from the parameter area at `po`. -/
def readNode (b : List Byte) (o po : Nat) : GNode :=
  { type := leAt b o 1, prio := leAt b (o + 1) 1, nin := leAt b (o + 2) 1, nout := leAt b (o + 3) 1
    param := (b.drop (po + leAt b (o + 4) 4)).take (leAt b (o + 8) 4)
    region := leAt b (o + 12) 1, ofs := leAt b (o + 16) 4, stateLen := leAt b (o + 20) 4 }

/-- The edge at offset `o`. -/
def readEdge (b : List Byte) (o : Nat) : GEdge :=
  { fromNode := leAt b o 2, fromPort := leAt b (o + 2) 1, toPort := leAt b (o + 3) 1, toNode := leAt b (o + 4) 2
    region := leAt b (o + 6) 1, delayed := (leAt b (o + 7) 1).testBit 0, ofs := leAt b (o + 8) 4 }

/-- The image its bytes spell. -/
def readImage (b : List Byte) : Image :=
  { id := leAt b 16 2, frame := leAt b 18 1, fhMask := leAt b 19 1, banks := leAt b 40 4, crc := leAt b 12 4
    nodes := (List.range (leAt b 20 2)).map (fun i => readNode b (leAt b 24 4 + 32 * i) (leAt b 32 4))
    edges := (List.range (leAt b 22 2)).map (fun i => readEdge b (leAt b 28 4 + 12 * i)) }

def GNode.u8 (n : GNode) (i : Nat) : Nat := leAt n.param i 1
def GNode.u16 (n : GNode) (i : Nat) : Nat := leAt n.param i 2
def GNode.u32 (n : GNode) (i : Nat) : Nat := leAt n.param i 4
def GNode.i16 (n : GNode) (i : Nat) : Int := signedOf 16 (leAt n.param i 2)

def nodeAt (im : Image) (i : Nat) : GNode := im.nodes.getD i default
/-- Nodes with their indices. -/
def Image.indexed (im : Image) : List (Nat × GNode) := (List.range im.nodes.length).zip im.nodes
def Image.frameSize (im : Image) : Nat := 2 ^ im.frame

/-! ### Ports, counts and cost (Table 10.5) -/

/-- NIN and NOUT that the counts of the parameter block fix (R248). -/
def nodePorts (n : GNode) : Nat × Nat :=
  let c := n.u8 0
  match n.type with
  | 0 => (0, c) | 1 => (c, 0) | 3 => (c, n.u8 1) | 5 => (1, 1) | 6 => (1, c) | 11 => (2, c) | 12 => (c, 0)
  | 13 => (0, c) | 14 => (c, n.u8 1) | 15 => (c + n.u8 1, c) | _ => (c, c)

/-- Kinds of flow of Table 10.5. -/
inductive Flow where
  | flight | perChannel | step
  deriving DecidableEq, Repr

def nodeFlow (n : GNode) : Flow :=
  match n.type with
  | 0 => .flight | 1 => .flight | 2 => .flight | 3 => .flight | 12 => .flight
  | 4 => .perChannel | 7 => .perChannel | 9 => .perChannel | 10 => .perChannel | 15 => .perChannel | 16 => .perChannel
  | _ => .step

/-- Channels of a node: items of a flight, tasks of a step-per-channel node; 1 for a whole-node step (R253). -/
def nodeChannels (n : GNode) : Nat :=
  match nodeFlow n with
  | .step => 1
  | .perChannel => if n.type = 15 then n.u8 0 else n.nout
  | .flight => if n.nout = 0 then n.nin else n.nout

/-- Tasks a node needs (R259). -/
def nodeTasks (n : GNode) : Nat := if nodeFlow n = .perChannel then nodeChannels n else 1

/-- COST in cycles per sample at Fh (Table 10.5). -/
def nodeCost (fh : Nat) (n : GNode) : Rat :=
  let c : Rat := (n.u8 0 : Nat)
  match n.type with
  | 0 => c / 2
  | 1 => c / 2
  | 2 => c
  | 3 => c * (n.u8 1 : Nat)
  | 4 => 3 * (n.u8 1 : Nat) * c / 2
  | 5 =>
    let nt : Rat := (n.u16 0 : Nat)
    if n.u16 2 ≠ 0 then 50 + 8 * nt / (n.u16 2 : Nat)
    else if (n.u8 4).testBit 0 then nt / 8 + 4 else nt / 4 + 4
  | 6 => 3 * (n.u8 1 : Nat) * (3 * c - 4) / 4
  | 7 => c / 2
  | 8 => 6 + 2 * c
  | 9 => 8 * c
  | 10 => 20 * c
  | 11 => 60 + 6 * c
  | 12 => c
  | 13 => 4 * c
  | 14 =>
    let nb : Rat := (n.u8 1 : Nat)
    c * (n.u8 2 : Nat) * nb / 4 + (if n.u8 3 = 1 then 40 * c * nb else 0)
  | 15 => 40 * c + 3 * c * (n.u8 1 : Nat) * (n.u16 2 : Nat) * (fh : Nat) / (5 * 48000)
  | 16 => 45 + 30 * c
  | _ => 20 + 4 * c

/-- CYC of a node (R253). -/
def nodeCyc (fh f : Nat) (n : GNode) : Nat := ((f : Rat) * nodeCost fh n).ceil.toNat + 60
/-- Cycles of one task or item (R253). -/
def itemCyc (fh f : Nat) (n : GNode) : Nat := cdiv (nodeCyc fh f n) (max 1 (nodeChannels n))

/-- Campion clock of a level in Hz (Table 4.6). -/
def campionHz (level : Nat) : Nat := [150, 300, 500, 650, 800].getD level 150 * 1000000

/-- K, the cycles of one core in one frame (R253). -/
def coreCycles (hz fh f : Nat) : Rat := (hz * f : Nat) / (fh : Rat)
/-- Σ CYC. -/
def totalCyc (fh : Nat) (im : Image) : Nat := (im.nodes.map (nodeCyc fh im.frameSize)).foldl (· + ·) 0

/-- LOAD in 0.001 units, to the nearest. -/
def loadMilli (level fh : Nat) (im : Image) : Nat :=
  ((totalCyc fh im : Rat) * 1000 / (8 * coreCycles (campionHz level) fh im.frameSize) + 1 / 2).floor.toNat

/-- The core a node is pinned to (R241). -/
def nodePin (n : GNode) : Option Nat :=
  if n.stateLen ≠ 0 ∧ 0x80 ≤ n.region ∧ n.region < 0x88 then some (n.region - 0x80) else none

/-- The image fits a level and a Home rate (R254): the first node whose task or item is too large, 0xFFFF for the
totals. -/
def budgetFail (level fh : Nat) (im : Image) : Option Nat :=
  let k := coreCycles (campionHz level) fh im.frameSize
  let lim : Rat := 85 * k / 100
  match im.indexed.find? (fun x => decide (lim < (itemCyc fh im.frameSize x.2 : Nat))) with
  | some x => some x.1
  | none =>
    if 8 * lim < (totalCyc fh im : Nat) then some 0xFFFF
    else if (List.range 8).any (fun c => decide (lim <
        (((im.nodes.filter (fun n => nodePin n == some c)).map (nodeCyc fh im.frameSize)).foldl (· + ·) 0 : Nat))) then
      some 0xFFFF
    else none

/-- MIN_PL: the lowest level at which the image fits, 0xFF none (R254). -/
def minLevel (fh : Nat) (im : Image) : Nat :=
  ((List.range 5).find? (fun l => (budgetFail l fh im).isNone)).getD 0xFF

/-! ### Parameter blocks (Table 10.7) -/

/-- Length of the block before rounding. -/
def paramBytes (n : GNode) : Nat :=
  let c := n.u8 0
  match n.type with
  | 0 => 4 + c | 1 => 4 + c | 2 => 4 + 2 * c | 3 => 4 + 2 * c * n.u8 1
  | 4 => 4 + 20 * n.u8 1 * (if n.u8 2 = 1 then c else 1)
  | 5 => 8 + 4 * n.u16 0 | 6 => 4 + 4 * (c - 1) | 7 => 4 + 4 * c | 8 => 16 | 9 => 8 | 10 => 12 | 11 => 4 + c
  | 12 => 4 | 13 => 24 | 14 => 8 + 4 * c * n.u8 1 * n.u8 2 | 15 => 8 | 16 => 4 + 4 * c | _ => 4 + c

/-- Every listed byte is zero. -/
def zeroAt (n : GNode) (l : List Nat) : Bool := l.all (fun i => n.u8 i == 0)

/-- A frequency in 0.01 Hz from 10 Hz to 0.45 Fh. -/
def freqOk (fh f : Nat) : Bool := decide (1000 ≤ f ∧ f ≤ 45 * fh)

/-- Strictly ascending. -/
def ascending : List Nat → Bool
  | a :: b :: l => decide (a < b) && ascending (b :: l)
  | _ => true

/-- No value twice. -/
def noRepeat : List Nat → Bool
  | [] => true
  | a :: l => !l.contains a && noRepeat l

/-- The fields of a block are in range and its unlisted bytes zero (Table 10.7). -/
def paramOk (fh : Nat) (n : GNode) : Bool :=
  let c := n.u8 0
  let bytes := paramBytes n
  n.param.length == cdiv bytes 4 * 4
    && (n.param.drop bytes).all (· == 0)
    && match n.type with
  | 0 => within 1 32 c && zeroAt n [1, 2, 3] && (List.range c).all (fun i => decide (n.u8 (4 + i) < 32))
  | 1 => within 1 56 c && zeroAt n [1, 2, 3] && (List.range c).all (fun i => decide (n.u8 (4 + i) < 56))
  | 2 => within 1 16 c && zeroAt n [1] && decide (n.u16 2 ≤ 4096)
      && (List.range c).all (fun i => gainOk (n.i16 (4 + 2 * i)))
  | 3 => within 1 16 c && within 1 16 (n.u8 1) && decide (n.u16 2 ≤ 4096)
      && (List.range (c * n.u8 1)).all (fun i => gainOk (n.i16 (4 + 2 * i)))
  | 4 => within 1 16 c && within 1 32 (n.u8 1) && within 0 1 (n.u8 2) && zeroAt n [3]
  | 5 =>
    let nt := n.u16 0
    let p := n.u16 2
    [0, 64, 128, 256, 512, 1024].contains p
      && (if p = 0 then within 1 512 nt else within 1 8192 nt && nt % p == 0)
      && decide (n.u8 4 ≤ 1) && (p == 0 || n.u8 4 == 0) && zeroAt n [5, 6, 7]
  | 6 =>
    let fs := (List.range (c - 1)).map (fun j => n.u32 (4 + 4 * j))
    within 2 4 c && [2, 4, 8].contains (n.u8 1) && zeroAt n [2, 3] && fs.all (freqOk fh) && ascending fs
  | 7 => within 1 16 c && zeroAt n [1] && decide (n.u16 2 ≤ 4096)
      && (List.range c).all (fun i => decide (n.u32 (4 + 4 * i) ≤ 262144))
  | 8 => within 1 16 c && within 0 1 (n.u8 1) && decide (n.u16 2 ≤ 256) && within 0 1 (n.u8 6) && zeroAt n [7]
      && within 10 500000 (n.u32 8) && within 1 5000 (n.u32 12)
  | 9 => within 1 16 c && zeroAt n [1] && gainOk (n.i16 2) && gainOk (n.i16 4) && decide (n.u16 6 ≤ 480)
  | 10 => within 1 8 c && within 0 2 (n.u8 1) && zeroAt n [2, 3] && within 2000 30000 (n.u32 4)
      && decide (n.u16 8 ≤ 480) && gainOk (n.i16 10)
  | 11 =>
    let roles := (List.range c).map (fun i => n.u8 (4 + i))
    within 3 16 c && zeroAt n [1] && decide (n.u8 2 ≤ 100 ∧ n.u8 3 ≤ 100) && roles.all (fun r => decide (r ≤ 13))
      && noRepeat roles
  | 12 => within 1 16 c && within 0 1 (n.u8 1) && within 1 10000 (n.u16 2)
  | 13 => within 1 16 c && within 0 4 (n.u8 1) && gainOk (n.i16 2) && freqOk fh (n.u32 4) && freqOk fh (n.u32 8)
      && within 10 60000 (n.u32 12)
  | 14 => within 2 16 c && within 1 4 (n.u8 1) && within 1 64 (n.u8 2) && within 0 1 (n.u8 3)
      && (decide (n.u32 4 ≤ 0x3F800000) || n.u32 4 == 0x80000000)
  | 15 => within 1 4 c && within 1 8 (n.u8 1) && within 10 250 (n.u16 2) && within 0 3 (n.u8 4) && zeroAt n [5]
      && within 0 40 (n.u16 6)
  | 16 => within 1 16 c && zeroAt n [1, 2, 3]
      && (List.range c).all (fun i => decide (n.u8 (4 + 4 * i) < 24) && zeroAt n [5 + 4 * i])
  | _ => within 1 24 c && zeroAt n [1] && (List.range c).all (fun i => decide (n.u8 (4 + i) < 24))

/-- Offsets of a block whose fields fix ports, counts, lengths, NT or P, which a parameter write may not change
(R257). -/
def fixedBytes (n : GNode) : List Nat :=
  match n.type with
  | 3 => [0, 1] | 4 => [0, 1, 2] | 5 => [0, 1, 2, 3] | 14 => [0, 1, 2] | 15 => [0, 1] | _ => [0]

/-- Drive ports of the SPEAKER_MODEL ports of a node, with their driver table IDs. -/
def modelPorts (n : GNode) : List (Nat × Nat) :=
  if n.type = 16 then (List.range (n.u8 0)).map (fun i => (n.u8 (4 + 4 * i), n.u16 (6 + 4 * i))) else []

/-- Drive ports of a SUPPLY_LIMIT node. -/
def limitPorts (n : GNode) : List Nat :=
  if n.type = 17 then (List.range (n.u8 0)).map (fun i => n.u8 (4 + i)) else []

/-- Points of a SOURCE or SINK node of type `ty`. -/
def ioPoints (ty : Nat) (n : GNode) : List Nat :=
  if n.type = ty then (List.range (n.u8 0)).map (fun i => n.u8 (4 + i)) else []

/-- The nodes of an image taken so far and the next one keep R249: no graph input read twice, no graph output written
twice, no drive port in two SPEAKER_MODEL ports, one SUPPLY_LIMIT. -/
def uniqueOk (before : List GNode) (n : GNode) : Bool :=
  noRepeat (before.flatMap (ioPoints 0) ++ ioPoints 0 n) && noRepeat (before.flatMap (ioPoints 1) ++ ioPoints 1 n)
    && noRepeat ((before.flatMap modelPorts ++ modelPorts n).map (fun x => x.1))
    && !(n.type == 17 && before.any (fun m => m.type == 17))

/-! ### Edges (R251) -/

/-- Edges into a node. -/
def edgesTo (im : Image) (n : Nat) : List GEdge := im.edges.filter (fun e => e.toNode == n)
/-- Edges out of a port. -/
def edgesFrom (im : Image) (n p : Nat) : List GEdge := im.edges.filter (fun e => e.fromNode == n && e.fromPort == p)

/-- The nodes that undelayed edges lead to from some, after at most `k` edges more. -/
def reached (im : Image) : Nat → List Nat → List Nat
  | 0, l => l
  | k + 1, l =>
    let more := ((im.edges.filter (fun e => !e.delayed && l.contains e.fromNode && !l.contains e.toNode)).map
      (fun e => e.toNode)).eraseDups
    if more.isEmpty then l else reached im k (l ++ more)

/-- A node lies on a cycle without a DELAYED edge. -/
def onCycle (im : Image) (n : Nat) : Bool :=
  (reached im im.nodes.length
    (((im.edges.filter (fun e => !e.delayed && e.fromNode == n)).map (fun e => e.toNode)).eraseDups)).contains n

/-- The node at fault in an edge entry: the one whose port does not exist, for reserved FLAGS or a missing writer the reader;
0xFFFF where neither node exists. -/
def edgeFault (b : List Byte) (im : Image) (i : Nat) : Option Nat :=
  let nn := im.nodes.length
  let e := im.edges.getD i default
  if nn ≤ e.fromNode then some (if e.toNode < nn then e.toNode else 0xFFFF)
  else if nn ≤ e.toNode ∨ (nodeAt im e.fromNode).nout ≤ e.fromPort then some e.fromNode
  else if (nodeAt im e.toNode).nin ≤ e.toPort ∨ 1 < leAt b (leAt b 28 4 + 12 * i + 7) 1 then some e.toNode
  else none

/-- A node's ports keep R251: one edge into each input, at most 8 out of an output and those with one buffer, and no cycle
without a DELAYED edge. -/
def nodeEdgesOk (im : Image) (i : Nat) (n : GNode) : Bool :=
  (List.range n.nin).all (fun p => ((edgesTo im i).filter (fun e => e.toPort == p)).length == 1)
    && (List.range n.nout).all (fun p =>
        let es := edgesFrom im i p
        decide (es.length ≤ 8) && es.all (fun e => es.all (fun g => g.region == e.region && g.ofs == e.ofs)))
    && !onCycle im i

/-- The first node whose edges break R251. -/
def edgeFail (b : List Byte) (im : Image) : Option Nat :=
  let faults := (List.range im.edges.length).filterMap (edgeFault b im)
  match im.indexed.find? (fun x => faults.contains x.1 || !nodeEdgesOk im x.1 x.2) with
  | some x => some x.1
  | none => faults.head?

/-! ### Placement (R239 to R241) -/

/-- A region of an image: region code, offset, length, node. -/
structure Place where
  region : Nat
  ofs : Nat
  len : Nat
  node : Nat
  deriving DecidableEq, Repr

/-- State regions and edge buffers; an output port's edges share one buffer. -/
def imagePlaces (im : Image) : List Place :=
  (im.indexed.filter (fun x => x.2.stateLen != 0)).map (fun x => ⟨x.2.region, x.2.ofs, x.2.stateLen, x.1⟩)
    ++ im.indexed.flatMap (fun x => (List.range x.2.nout).flatMap (fun p =>
        match edgesFrom im x.1 p with
        | e :: _ => [⟨e.region, e.ofs, 8 * im.frameSize, x.1⟩]
        | [] => []))

/-- First byte of a region on one line of addresses (Table 10.1). -/
def placeBase (p : Place) : Nat :=
  if p.region < 32 then p.region * 0x20000 + p.ofs else 0x10000000 + (p.region - 0x80) * 0x40000 + p.ofs

/-- Shared banks a region touches. -/
def placeBanks (p : Place) : List Nat :=
  if p.region < 32 then
    (List.range 33).filter (fun b => decide (placeBase p < (b + 1) * 0x20000 ∧ b * 0x20000 < placeBase p + p.len))
  else []

/-- A region lies where Table 10.1 and BANK_MASK let an image place it. -/
def placeOk (im : Image) (p : Place) : Bool :=
  p.ofs % 64 == 0 &&
  (if p.region < 32 then
    decide (p.ofs < 0x20000) && (placeBanks p).all (fun b => decide (b < 32) && im.banks.testBit b)
  else decide (0x80 ≤ p.region ∧ p.region < 0x88 ∧ 0x10000 ≤ p.ofs ∧ p.ofs + p.len ≤ 0x40000))

/-- Two regions overlap. -/
def placesMeet (p q : Place) : Bool :=
  (decide (p.region < 32) == decide (q.region < 32)) &&
    decide (placeBase p < placeBase q + q.len ∧ placeBase q < placeBase p + p.len)

/-- A node's state entry and the buffers of its edges keep R239 to R241. -/
def nodePlaceOk (im : Image) (i : Nat) (n : GNode) : Bool :=
  (if n.stateLen = 0 then n.region == 0xFF else true) && decide (Config.stateNeed n.type n.param ≤ n.stateLen)
    && (edgesTo im i).all (fun e => decide (e.region < 0x80) ||
        (nodePin n == some (e.region - 0x80) && nodePin (nodeAt im e.fromNode) == nodePin n))

/-- A region overlaps another of the image: one of a node before, or another of the same node. -/
def placeMeets (ps : List Place) (k : Nat) (p : Place) : Bool :=
  ((List.range ps.length).zip ps).any (fun x => x.1 != k && decide (x.2.node ≤ p.node) && placesMeet p x.2)

/-- The first node with a region that breaks R239, R241 or overlaps one of a node up to it (REASON 7). -/
def placeFail (im : Image) : Option Nat :=
  let ps := imagePlaces im
  let bad := (((List.range ps.length).zip ps).filter (fun x => !placeOk im x.2 || placeMeets ps x.1 x.2)).map (fun x => x.2.node)
  (im.indexed.find? (fun x => bad.contains x.1 || !nodePlaceOk im x.1 x.2)).map (fun x => x.1)

/-- The first node with a region in a barred bank (REASON 8). -/
def barredFail (im : Image) (mask : Nat) : Option Nat :=
  let bad := ((imagePlaces im).filter (fun p => (placeBanks p).any (fun k => mask.testBit k))).map (fun p => p.node)
  (im.indexed.find? (fun x => bad.contains x.1)).map (fun x => x.1)

/-! ### The whole check (R255) -/

/-- SPILL_BANK and SPILL_BANKS (Table 11.5). -/
def spillFirst (s : State) : Nat := Page.get s.sch.page0F00 16 5
def spillCount (s : State) : Nat := Page.get s.sch.page0F00 8 3

/-- Banks of the spill area. -/
def spillMask (s : State) : Nat := (2 ^ spillCount s - 1) * 2 ^ spillFirst s
/-- The two history banks while Speedwell is enabled (R150, Table 6.10). -/
def historyMask (s : State) : Nat :=
  if Page.bit s.mic.page0800 31 then 3 * 2 ^ Page.get s.mic.page0800 72 8 else 0

/-- Tables a node names are installed (R249). -/
def tablesOk (s : State) (n : GNode) : Bool :=
  match n.type with
  | 8 => s.prot.curves.any (fun c => c.1 == n.u16 4)
  | 16 => (modelPorts n).all (fun p => s.prot.drivers.any (fun d =>
      d.1 == p.2 && d.2.any (fun e => e.port == p.1 || e.port == 0xFF)))
  | 17 => s.prot.supplies.any (fun x => x.id == n.u16 2)
  | _ => true

/-- The first reason that refuses an image, with the first failing node (GRAPH_IMAGE_COMMIT REASON and NODE). -/
def imageFail (b : List Byte) (s : State) : Option (Nat × Nat) :=
  let size := leAt b 8 4
  let nodes := leAt b 20 2
  let edges := leAt b 22 2
  let no := leAt b 24 4
  let eo := leAt b 28 4
  let po := leAt b 32 4
  let ps := leAt b 36 4
  let fh := fhHz s
  if b.take 4 ≠ [0x42, 0x4C, 0x47, 0x49] ∨ leAt b 4 2 ≠ 1 then some (1, 0xFFFF)
  else if leAt b 12 4 ≠ (crc32 (b.take 12 ++ (b.take size).drop 16)).toNat then some (2, 0xFFFF)
  else if size < 64 ∨ 262144 < size ∨ b.length < size ∨ leAt b 6 2 ≠ 0 ∨ leNat ((b.drop 44).take 20) ≠ 0
      ∨ 6 < leAt b 18 1 ∨ 15 < leAt b 19 1 ∨ no % 4 ≠ 0 ∨ eo % 4 ≠ 0 ∨ po % 4 ≠ 0
      ∨ size < no + 32 * nodes ∨ size < eo + 12 * edges ∨ size < po + ps then some (3, 0xFFFF)
  else
    let im := readImage b
    let bad4 := (List.range nodes).find? (fun i =>
      let n := nodeAt im i
      let o := no + 32 * i
      decide (17 < n.type ∨ 7 < n.prio) || nodePorts n != (n.nin, n.nout)
        || leAt b (o + 13) 3 != 0 || leAt b (o + 24) 8 != 0)
    let tasks := (im.nodes.map nodeTasks).foldl (· + ·) 0
    let firsts := (im.nodes.filter (fun n => n.type == 0 || n.type == 13)).length
    if nodes = 0 ∨ 512 < nodes then some (4, 0xFFFF)
    else if bad4.isSome then some (4, bad4.getD 0xFFFF)
    else if 480 < tasks ∨ 128 < firsts then some (4, 0xFFFF)
    else
      let bad5 := (List.range nodes).find? (fun i =>
        let n := nodeAt im i
        let o := no + 32 * i
        decide (ps < leAt b (o + 4) 4 + leAt b (o + 8) 4) || !paramOk fh n || !uniqueOk (im.nodes.take i) n)
      if bad5.isSome then some (5, bad5.getD 0xFFFF)
      else if 2048 < edges then some (6, 0xFFFF)
      else match edgeFail b im with
      | some n => some (6, n)
      | none => match placeFail im with
        | some n => some (7, n)
        | none =>
          match barredFail im (spillMask s ||| historyMask s) with
          | some n => some (8, n)
          | none => match budgetFail s.pwr.level fh im with
            | some n => some (9, n)
            | none =>
              if !im.fhMask.testBit (fhCode s) then some (10, 0xFFFF)
              else (im.indexed.find? (fun x => !tablesOk s x.2)).map (fun x => (11, x.1))

end Sys2Proof.Machine
end

