-- ==== Sys2Proof/Machine/Sched.lean ====
section
/-! DEFINITION. The hardware scheduler as shared operations (chapter 11): edges and readiness, placement, spill,
back-pressure, dispatch, retirement, delay lists. -/

namespace Sys2Proof.Machine

open Sys2Proof

def taskOf (s : State) (t : Nat) : Task := vget s.sch.tasks t
def onTask (t : Nat) (f : Task → Task) (s : State) : State := { s with sch.tasks := vupd s.sch.tasks t f }

/-- HALL_DSP runs: powered and not gated. -/
def dspRuns (s : State) : Bool := (hallOf s hDSP).powered && !(hallOf s hDSP).gated

/-- The image a task belongs to. -/
def imageOf (s : State) (t : Task) : Image :=
  ((if t.gen = s.gra.gen then s.gra.image else s.gra.oldImage).getD default)

/-- The node of a task. -/
def taskNode (s : State) (t : Task) : GNode := nodeAt (imageOf s t) t.node

/-- Tasks of an image by node: descriptor and task. -/
def tasksOfNode (s : State) (gen n : Nat) : List Task :=
  s.sch.tasks.toList.filter (fun t => t.st != .free && t.gen == gen && t.node == n)

/-! ### Edges (R263) -/

/-- Input ports of a node that one of its tasks reads (Table 10.5). -/
def taskIns (n : GNode) (chan : Nat) : List Nat :=
  if nodeFlow n = .perChannel then
    if n.type = 15 then chan :: (List.range (n.u8 1)).map (fun r => n.u8 0 + r) else [chan]
  else List.range n.nin

/-- Output ports that one of its tasks writes. -/
def taskOuts (n : GNode) (chan : Nat) : List Nat :=
  if nodeFlow n = .perChannel then [chan] else List.range n.nout

/-- Items of a flow with a given place in a readiness that have retired. -/
def retiredAt (t : Task) (place : Nat) : Nat := (t.ret + t.items - 1 - place) / t.items

/-- Frames a task has written into output port `p`. -/
def wroteFrames (n : GNode) (t : Task) (p : Nat) : Nat :=
  if nodeFlow n = .flight then retiredAt t p else t.ret

/-- Frames a task has read from input port `p`: a MIX item reads every input. -/
def readFrames (n : GNode) (t : Task) (p : Nat) : Nat :=
  if nodeFlow n = .flight then (if n.type = 3 then t.ret / t.items else retiredAt t p) else t.ret

/-- The task of node `m` that writes its port `p`. -/
def writerOf (s : State) (gen m p : Nat) (n : GNode) : Option Task :=
  (tasksOfNode s gen m).find? (fun t => nodeFlow n != .perChannel || t.chan == p)

/-- Frames an edge has delivered: the writer's, and the zeros of a DELAYED edge (R263). -/
def delivered (s : State) (im : Image) (gen : Nat) (e : GEdge) : Nat :=
  let n := nodeAt im e.fromNode
  (match writerOf s gen e.fromNode e.fromPort n with | some w => wroteFrames n w e.fromPort | none => 0) + b2n e.delayed

/-- Frames the readers of an edge have given back. -/
def givenBack (s : State) (im : Image) (gen : Nat) (e : GEdge) : Nat :=
  let n := nodeAt im e.toNode
  let counts := ((tasksOfNode s gen e.toNode).filter (fun t => (taskIns n t.chan).contains e.toPort)).map
    (fun t => readFrames n t e.toPort)
  match counts with
  | [] => 0
  | c :: l => l.foldl min c

/-- IN_PEND. -/
def inPend (s : State) (t : Task) : Nat :=
  let im := imageOf s t
  let n := nodeAt im t.node
  ((taskIns n t.chan).filter (fun p =>
    (edgesTo im t.node).any (fun e => e.toPort == p && decide (delivered s im t.gen e ≤ t.made)))).length

/-- OUT_PEND: a buffer holds two frames. -/
def outPend (s : State) (t : Task) : Nat :=
  let im := imageOf s t
  let n := nodeAt im t.node
  ((taskOuts n t.chan).filter (fun p =>
    (edgesFrom im t.node p).any (fun e => decide (givenBack s im t.gen e + 2 ≤ t.made + b2n e.delayed)))).length

/-- The flag condition (R261). -/
def flagsHold (t : Task) : Bool :=
  if t.all then t.flags &&& t.mask == t.mask else t.mask == 0 || (t.flags &&& t.mask) != 0

/-- The task of a descriptor is ready (R261). -/
def taskReady (s : State) (i : Nat) : Bool :=
  let t := taskOf s i
  t.st == .armed && dspRuns s && flagsHold t && inPend s t == 0 && outPend s t == 0

/-- The tick from which the frames of a task's image are numbered (R242). -/
def taskBase (s : State) (t : Task) : Nat := if t.gen = s.gra.gen then s.gra.gridBase else s.gra.oldBase

/-- The frame number of the last frame whose gathering has ended. -/
def endedFrame (s : State) (t : Task) : Nat := (sampleNo s - taskBase s t) / (imageOf s t).frameSize - 1

/-- The first frame of a task whose inputs bring none: that from which its graph runs. -/
def firstFrame (s : State) (t : Task) : Nat :=
  if t.gen = s.gra.gen then s.gra.runFrom
  else match t.frames with
    | k :: _ => k + 1
    | [] => match s.gra.oldCheck with | some x => x.2 | none => 0

/-- The frame a task processes next: that of its inputs, in the numbering of its image (R264). -/
def nextFrame (s : State) (t : Task) : Nat :=
  let im := imageOf s t
  let tags := (edgesTo im t.node).filterMap (fun e =>
    if (taskIns (nodeAt im t.node) t.chan).contains e.toPort then
      match writerOf s t.gen e.fromNode e.fromPort (nodeAt im e.fromNode) with
      | some w => (w.frames[w.made + b2n e.delayed - 1 - t.made]?).map (fun k => k + b2n e.delayed)
      | none => none
    else none)
  match tags with
  | k :: _ => k
  | [] => if (edgesTo im t.node).isEmpty then endedFrame s t else firstFrame s t

/-! ### Placement (R269) -/

/-- AFFINITY, BACKPRESSURE (Table 11.5). -/
def affinity (s : State) : Nat := Page.get s.sch.page0F00 0 8
def backPage (s : State) : Bool := Page.bit s.sch.page0F00 31

/-- Campion clock now: CSYN's, the crystal or the 24 MHz safety RC, as HALL_DSP runs (Tables 4.1, 4.6, 4.12); on a re-base
source scaled by the source's ratio to 24.576 MHz (R109). -/
def campionNow (s : State) : Nat :=
  match (hallOf s hDSP).clk with
  | .normal =>
    if s.clk.rebased.isSome && !s.clk.csynBack then campionHz s.clk.csynLevel * s.clk.refFreq / 24576000
    else campionHz s.clk.csynLevel
  | .rc => 24000000
  | _ => 24576000

/-- Estimated cycles of an item of a task (R253). -/
def estCyc (s : State) (t : Nat) : Nat :=
  let k := taskOf s t
  itemCyc (fhHz s) (imageOf s k).frameSize (taskNode s k)

/-- Expected cycles to run on a core: executing, loading and waiting work. -/
def coreLoad (s : State) (c : Nat) : Nat :=
  ((s.sch.ops.filter (fun o => o.core == c && !o.done)).map (fun o =>
    estCyc s o.item.task - (match o.began with | some b => (s.time.now - b) * campionNow s / 24576000 | none => 0))).foldl
      (· + ·) 0
  + ((s.sch.store.filter (fun i => i.core == c)).map (fun i => estCyc s i.task)).foldl (· + ·) 0

/-- The least-loaded core, ties to the lower index. -/
def leastCore (s : State) : Nat :=
  (List.range 8).foldl (fun b c => if coreLoad s c < coreLoad s b then c else b) 0

/-- The core of an item: LAST_CORE for a pinned task, and for the first item of a readiness where that core is free
within AFFINITY. -/
def chooseCore (s : State) (i : Item) : Nat :=
  let t := taskOf s i.task
  if t.pinned then t.lastCore
  else if i.num % t.items = 0 ∧ coreLoad s t.lastCore * 100000000 ≤ affinity s * campionNow s then t.lastCore
  else leastCore s

/-- An item is placed in the on-chip store. -/
def placeItem (i : Item) (s : State) : State :=
  let c := chooseCore s i
  let s := if i.num % (taskOf s i.task).items = 0 then onTask i.task (fun t => { t with lastCore := c }) s else s
  { s with sch.store := s.sch.store ++ [{ i with core := c, affinity := affinity s }] }

/-! ### Spill and back-pressure (R273 to R275) -/

/-- Records the spill area holds. -/
def spillCap (s : State) : Nat := 8192 * spillCount s
/-- KiB in use, rounded up. -/
def spillKib (s : State) : Nat := cdiv (16 * s.sch.spill.length) 1024

/-- An item goes to the tail of its priority's spill queue. -/
def spillItem (i : Item) (s : State) : State :=
  let first := !s.sch.spillTold
  let s := { s with sch.spill := s.sch.spill ++ [i], sch.spillTold := true }
  let s := if first then raise 210 0 s else s
  let s := if s.sch.spillHigh < spillKib s then raise 211 (spillKib s) { s with sch.spillHigh := spillKib s } else s
  if spillCap s ≤ s.sch.spill.length then raise 212 0 { s with sch.spillFull := true } else s

/-- The spill area holds less than before: E210 is owed again once it is empty, and back-pressure ends at half the area with the
mark at the present use and E211 (R274). -/
def spillLess (s : State) : State :=
  let s := if s.sch.spill.isEmpty then { s with sch.spillTold := false } else s
  if s.sch.spillFull && decide (2 * s.sch.spill.length ≤ spillCap s) then
    raise 211 (spillKib s) { s with sch.spillFull := false, sch.spillHigh := spillKib s }
  else s

/-- An item is made: into a list, or into spill while the store is full or older records of its priority wait. -/
def makeItem (i : Item) (s : State) : State :=
  if 512 ≤ s.sch.store.length ∨ s.sch.spill.any (fun x => x.prio == i.prio) then spillItem i s else placeItem i s

/-- Back-pressure applies (R275). -/
def backActive (s : State) : Bool :=
  backPage s || s.sch.spillFull || (spillCount s == 0 && decide (512 ≤ s.sch.store.length))

/-- The items of a readiness can all be placed. -/
def roomFor (s : State) (n prio : Nat) : Bool :=
  let behind := s.sch.spill.any (fun x => x.prio == prio)
  if backActive s || spillCount s == 0 then !behind && decide (s.sch.store.length + n ≤ 512)
  else decide (s.sch.spill.length + (if behind then n else s.sch.store.length + n - 512) ≤ spillCap s)

/-- The deadline of an item (R276): sample (k + 2)F for a graph task. -/
def itemDeadline (s : State) (t : Task) (frame made : Nat) : Option Nat :=
  if t.deadline = 0xFFFFFFFF then
    some (tickTu s (taskBase s t + (frame + 2) * (imageOf s t).frameSize))
  else if t.deadline = 0 then none else some (made + t.deadline)

/-- The items of a task's readiness with `later` newer ones, made now; a deadline counts from the readiness (R276). -/
def readyItems (s : State) (i later : Nat) : List Item :=
  let t := taskOf s i
  let k := t.frames.getD later 0
  (List.range t.items).map (fun j =>
    { task := i, num := (t.made - 1 - later) * t.items + j, frame := k, made := s.time.now
      deadline := itemDeadline s t k (t.stamps.getD later s.time.now), prio := t.prio, core := t.lastCore })

/-- A task becomes ready (R261, R262, R275): CONSUME clears its bits, its items are made or it enters HELD. -/
def makeReady (i : Nat) (s : State) : State :=
  let k := nextFrame s (taskOf s i)
  let s := onTask i (fun t => { t with
    made := t.made + 1, frames := (k :: t.frames).take 3, stamps := (s.time.now :: t.stamps).take 3
    flags := if t.consume then t.flags &&& (0xFFFFFFFF ^^^ (t.flags &&& t.mask)) else t.flags }) s
  let t := taskOf s i
  if t.owed = 0 ∧ roomFor s t.items t.prio then (readyItems s i 0).foldl (fun s x => makeItem x s) s
  else
    { onTask i (fun t => { t with st := .held, owed := t.owed + 1 }) s with sch.heldOrder := s.sch.heldOrder ++ [i] }

/-! ### Dispatch (R270, R272) -/

/-- Operations on a core, and those not finished executing. -/
def flightOn (s : State) (c : Nat) : Nat := (s.sch.ops.filter (fun o => o.core == c)).length
def execOn (s : State) (c : Nat) : Nat := (s.sch.ops.filter (fun o => o.core == c && !o.done)).length

/-- Items of the same flow. -/
def sameFlow (s : State) (a b : Nat) : Bool := (taskOf s a).flow == (taskOf s b).flow

/-- Dispatching the item keeps the guarantees of Table 11.2 and the drain (R272, R280). -/
def eligible (s : State) (i : Item) : Bool :=
  let t := taskOf s i.task
  (match t.kind with
    | .unordered => true
    | .step => !s.sch.ops.any (fun o => sameFlow s o.item.task i.task)
        && !(s.sch.store ++ s.sch.spill).any (fun x => sameFlow s x.task i.task
              && (decide (x.made < i.made) || (x.task == i.task && decide (x.num < i.num))))
    | .flight => decide (i.num < t.ret + 64))
  && (!s.sch.draining ||
      (t.kind == .flight && s.sch.ops.any (fun o => o.item.task == i.task && decide (i.num < o.item.num))))

/-- The oldest eligible item of the highest priority in a part of the store. -/
def bestItem (s : State) (p : Item → Bool) : Option Item :=
  s.sch.store.foldl (fun best i =>
    if p i && eligible s i then
      match best with
      | none => some i
      | some b => if b.prio < i.prio ∨ (b.prio = i.prio ∧ (i.made < b.made ∨ (i.made = b.made ∧ i.core < b.core)))
          then some i else best
    else best) none

/-- What a core takes next: from its own lists, or an unpinned item of another core that has waited AFFINITY; true:
taken from another list. -/
def nextItem (s : State) (c : Nat) : Option (Item × Bool) :=
  match bestItem s (fun i => i.core == c) with
  | some i => some (i, false)
  | none => match bestItem s (fun i => i.core != c && !(taskOf s i.task).pinned) with
    | some i => if i.affinity * 24576 ≤ (s.time.now - i.made) * 100000 then some (i, true) else none
    | none => none

/-- Bin of a waiting time (Table 11.4). -/
def waitBin (tu : Nat) : Nat := if tu < 32 then 0 else min 15 (Nat.log2 tu - 4)

/-- A core takes an item. -/
def dispatch (c : Nat) (s : State) : State :=
  if execOn s c < 2 ∧ flightOn s c < 32 ∧ dspRuns s then
    match nextItem s c with
    | none => s
    | some (i, stolen) =>
      let began := if execOn s c = 0 then some s.time.now else none
      { s with
        sch.store := dropFirst (fun x => x == i) s.sch.store
        sch.ops := s.sch.ops ++ [({ item := i, core := c, began := began } : Oper)]
        sch.steals := if stolen then vupd s.sch.steals c (satAdd 65535 1) else s.sch.steals
        sch.hist := vupd s.sch.hist i.prio (fun h => vupd h (waitBin (s.time.now - i.made)) (satAdd (2 ^ 32 - 1) 1)) }
  else s

/-! ### Retirement (R271, R276, R280) -/

/-- Items of a task in flight, and made but not dispatched. -/
def taskFlight (s : State) (i : Nat) : Nat := (s.sch.ops.filter (fun o => o.item.task == i)).length
def taskQueued (s : State) (i : Nat) : Nat := ((s.sch.store ++ s.sch.spill).filter (fun x => x.task == i)).length

/-- A non-finite value: the node's state is reset at the next frame boundary, with E216 at most once in 24,576,000 tu
(R245). -/
def nodeFault (n : Nat) (s : State) : State :=
  let s := { s with gra.resets := n :: s.gra.resets }
  if s.gra.faultQuiet.any (fun x => x.1 == n && decide (s.time.now < x.2)) then s
  else
    raise 216 n { s with
      gra.faultQuiet := (n, s.time.now + 24576000) :: s.gra.faultQuiet.filter (fun x => x.1 != n) }

/-- E213 once the last operation of a drain has retired (R280). -/
def drainCheck (s : State) : State :=
  if s.sch.draining && !s.sch.drained && s.sch.ops.isEmpty then raise 213 0 { s with sch.drained := true } else s

/-- The delay entries of a task are removed (R267). -/
def dropEntries (i : Nat) (s : State) : State :=
  { s with sch.delays := s.sch.delays.map (fun l => l.filter (fun e => e.task != i)) }

/-- Shared banks that an image in force, a commit, the spill area or the history needs (Table 10.8 step 5). -/
def banksNeeded (s : State) : Nat :=
  (match s.gra.image with | some i => i.banks | none => 0) ||| (match s.gra.oldImage with | some i => i.banks | none => 0)
    ||| (match s.gra.commit with | some c => (if c.step = .grant then 0 else c.image.banks) | none => 0)
    ||| spillMask s ||| historyMask s
    ||| (if s.svc.sorrel.isSome then (3 * 2 ^ Page.get s.svc.page1502 32 8) % 2 ^ 32 else 0)

/-- A task of an old image still has items to retire: in flight, queued, owed, or of the readiness it has come to. -/
def taskLeft (s : State) (i : Nat) : Bool :=
  decide (0 < taskFlight s i + taskQueued s i + (taskOf s i).owed) || taskReady s i

/-- The tasks of an old image are freed when its last item has retired (R259). -/
def freeOld (s : State) : State :=
  if s.gra.oldImage.isSome &&
      !(List.range 960).any (fun i => (taskOf s i).st != .free && (taskOf s i).gen != s.gra.gen && taskLeft s i) then
    let ids := (List.range 960).filter (fun i => (taskOf s i).st != .free && (taskOf s i).gen != s.gra.gen)
    let s := ids.foldl (fun s i => onTask i (fun _ => {}) (dropEntries i s)) s
    { s with gra.oldImage := none, gra.banks := banksNeeded { s with gra.oldImage := none } }
  else s

/-- One operation leaves: counts, deadline. -/
def retireOne (o : Oper) (s : State) : State :=
  let s := { s with sch.ops := dropFirst (fun x => x == o) s.sch.ops }
  let s := onTask o.item.task (fun t => { t with runs := (t.runs + 1) % 65536, ret := t.ret + 1 }) s
  match o.item.deadline with
  | some d =>
    if d ≤ s.time.now then
      let t := taskOf s o.item.task
      let s := { onTask o.item.task (fun t => { t with misses := satAdd 65535 t.misses 1 }) s with
                 sch.misses := satAdd (2 ^ 32 - 1) s.sch.misses 1 }
      if s.time.now < t.quiet then s
      else raise 208 o.item.task (onTask o.item.task (fun t => { t with quiet := s.time.now + 24576000 }) s)
    else s
  | none => s

/-- Finished operations of a flow retire in order; `fuel` is at least their number (Table 11.2). -/
def releaseFlow (i : Nat) : Nat → State → State
  | 0, s => s
  | fuel + 1, s =>
    let t := taskOf s i
    match s.sch.ops.find? (fun o => o.item.task == i && o.done && (t.kind != .flight || o.item.num == t.ret)) with
    | some o => releaseFlow i fuel (retireOne o s)
    | none => s

/-- A METER item has measured its channel: LEVEL and PEAK (GRAPH_METER_READ). -/
def meterPut (n chan : Nat) (level : Int) (s : State) : State :=
  let v := max (-32768) (min 32767 level)
  let old := match s.gra.meters.find? (fun m => m.1 == n && m.2.1 == chan) with | some m => m.2.2 | none => {}
  { s with
    gra.meters := (n, chan, ({ level := v, peak := max old.peak v } : MeterCh))
      :: s.gra.meters.filter (fun m => !(m.1 == n && m.2.1 == chan)) }

/-- Level in 0.01 dBFS of a square, −32,768 below −327 dBFS; whether it is rounded up is open. -/
def levelOf (x2 : Rat) : Int :=
  if x2 ^ 10 * 10 ^ 327 < 1 then -32768
  else
    let fits (n : Nat) : Bool :=
      if 32700 ≤ n then decide ((10 : Rat) ^ (n - 32700) ≤ x2 ^ 1000) else decide (1 ≤ x2 ^ 1000 * 10 ^ (32700 - n))
    let n := greatest fits 16 0
    let exact := if 32700 ≤ n then decide ((10 : Rat) ^ (n - 32700) = x2 ^ 1000) else decide (1 = x2 ^ 1000 * 10 ^ (32700 - n))
    (n : Int) - 32700 + (if exact then 0 else b2n (Config.levelUp x2))

/-- LEVEL of a METER channel over its window (GRAPH_METER_READ): MODE 0 the peak, 1 the RMS of the frames. -/
def meterLevel (n : GNode) (window : List Rat) : Int :=
  if n.u8 1 = 0 then levelOf (window.foldl max 0)
  else levelOf (window.foldl (· + ·) 0 / (max 1 window.length : Nat))

/-- The frame of a retired item held non-finite values (R245): their replacement is told with E216. -/
def faultTell (t : Task) (i : Item) (s : State) : State :=
  let mine (b : Nat × Nat) : Bool := b.1 == i.frame && (match nodeFlow (taskNode s t) with
    | .step => true
    | .perChannel => b.2 == t.chan
    | .flight => b.2 == i.num % t.items)
  let r := s.gra.nodes.getD t.node {}
  if r.bad.any mine then
    nodeFault t.node { s with gra.nodes := s.gra.nodes.set t.node { r with bad := r.bad.filter (fun b => !mine b) } }
  else s

/-- An operation ends executing: the core starts the one it has loaded, and the flow releases what it can. -/
def finish (k : Nat) (s : State) : State :=
  match s.sch.ops[k]? with
  | none => s
  | some o =>
    if o.done || o.began.isNone || !dspRuns s then s
    else
      let t := taskOf s o.item.task
      let s := { s with
        sch.ops := ((List.range s.sch.ops.length).zip s.sch.ops).map (fun x =>
          if x.1 = k then { x.2 with done := true }
          else if x.2.core = o.core ∧ !x.2.done then { x.2 with began := some s.time.now } else x.2) }
      let s := if t.gen = s.gra.gen then faultTell t o.item s else s
      let chan := o.item.num % t.items
      let s := if (taskNode s t).type = 12 ∧ t.gen = s.gra.gen then
          meterPut t.node chan (meterLevel (taskNode s t) ((s.gra.nodes.getD t.node {}).meter.getD chan [])) s
        else s
      drainCheck (freeOld (releaseFlow o.item.task 64 s))

/-- One tu of the load window (R281): a core is busy while an operation executes on it. A window that ends while HALL_DSP does
not run ends unmeasured, and the next counts from nothing. -/
def busyTick (s : State) : State :=
  let s := if !dspRuns s ∧ s.sch.windowEnd ≤ s.time.now then
      { s with sch.windowEnd := s.sch.windowEnd + 24576000, sch.busy := Vector.replicate 8 0, sch.cycles := 0 }
    else s
  if dspRuns s then
    let hz := campionNow s
    { s with
      sch.cycles := s.sch.cycles + hz
      sch.busy := vmapi s.sch.busy (fun c b =>
        if s.sch.ops.any (fun o => o.core == c && !o.done && o.began.isSome) then b + hz else b) }
  else s

/-! ### Spill refill and HELD tasks -/

/-- The oldest record of the highest spill queue comes back when the store has room (R273). -/
def refill (s : State) : State :=
  if s.sch.store.length < 512 then
    match (List.range 8).findSome? (fun p => s.sch.spill.find? (fun x => x.prio == 7 - p)) with
    | none => s
    | some i =>
      spillLess (placeItem i { s with sch.spill := dropFirst (fun x => x == i) s.sch.spill })
  else s

/-- The first HELD task makes its items when there is room for all of them (R275). -/
def heldRelease (s : State) : State :=
  match s.sch.heldOrder with
  | [] => s
  | i :: rest =>
    let t := taskOf s i
    if roomFor s t.items t.prio then
      let later := t.owed - 1
      let s := { onTask i (fun t => { t with
        st := if later = 0 ∧ t.st = .held then .armed else t.st, owed := later }) s with sch.heldOrder := rest }
      (readyItems s i later).foldl (fun s x => makeItem x s) s
    else s

/-! ### Delay lists (R265 to R268) -/

/-- TICK of a list in page 0x0F00 (Table 11.5), and all of them. -/
def tickMask (l : Nat) : Nat := fieldMask (32 * l) 16
def tickMasks : Nat := tickMask 1 + tickMask 2 + tickMask 3

/-- TICK of list `l`; 0 a sample tick. List 0 ticks on sample ticks. -/
def listTick (s : State) (l : Nat) : Nat := if l = 0 then 0 else Page.get s.sch.page0F00 (32 * l) 16

/-- The latest tick of a list, in the list's units. -/
def tickNow (s : State) (l : Nat) : Nat :=
  let k := listTick s l
  if k = 0 then sampleCount s else devTime s / k * k

/-- Sorted by DUE, equal DUE in order of insertion. -/
def insertEntry (e : DelayEntry) (l : List DelayEntry) : List DelayEntry :=
  l.takeWhile (fun x => decide (x.due ≤ e.due)) ++ e :: l.dropWhile (fun x => decide (x.due ≤ e.due))

def listOf (s : State) (l : Nat) : List DelayEntry := vget s.sch.delays l
def onList (l : Nat) (f : List DelayEntry → List DelayEntry) (s : State) : State :=
  { s with sch.delays := vupd s.sch.delays l f }

/-- The lowest free slot of a list. -/
def freeSlot (l : List DelayEntry) : Option Nat := (List.range 256).find? (fun k => !l.any (fun e => e.slot == k))

/-- An entry is due at the latest tick. List-0 entries do not fire while a pause cause holds (R268). -/
def entryDue (s : State) (l : Nat) (e : DelayEntry) : Bool :=
  decide (e.due ≤ tickNow s l ∧ e.notBefore ≤ tickNow s l) && dspRuns s && !(l == 0 && s.gra.runTo.isSome)

/-- No entry of a delay list is due (R266). -/
def noneDue (s : State) : Bool := (List.range 4).all (fun l => !(listOf s l).any (entryDue s l))

/-- The next due of a periodic entry after a firing tick (R267). -/
def nextDue (e : DelayEntry) (tick : Nat) : Nat := e.due + ((tick - e.due) / e.period + 1) * e.period

/-- An entry fires: its bit is set, and a periodic entry goes back in its slot. -/
def fireEntry (l : Nat) (e : DelayEntry) (s : State) : State :=
  let tick := tickNow s l
  let s := onTask e.task (fun t => if t.st = .free then t else { t with flags := t.flags ||| 2 ^ e.bit }) s
  onList l (fun es =>
    let es := es.filter (fun x => x.slot != e.slot)
    if e.period = 0 then es else insertEntry { e with due := nextDue e tick } es) s

/-- Every entry due at the latest tick of its list fires, before readiness is evaluated (R266). -/
def fireDue (s : State) : State :=
  ([0, 1, 2, 3] : List Nat).foldl (fun s l =>
    ((listOf s l).filter (entryDue s l)).foldl (fun s e => fireEntry l e s) s) s

/-- The waiting TICK fields of a mask are in force (R282). -/
def ticksTake (mask : Nat) (s : State) : State :=
  let live := lateLive s.sch.page0F00.toNat mask s.sch.late
  let left := lateLeft live tickMasks s.sch.late
  lateDone s.sch.late left { s with sch.page0F00 := BitVec.ofNat 128 live, sch.late := left }

/-- At a tick of a tu list its entries fire, and a TICK that waited applies from there (R265, R282). -/
def ticksTurn (s : State) : State :=
  if s.sch.late.isSome && dspRuns s then
    ([1, 2, 3] : List Nat).foldl (fun s l =>
      if 0 < listTick s l ∧ devTime s % listTick s l = 0 then ticksTake (tickMask l) (fireDue s) else s) s
  else s

/-- Readiness is evaluated in this cycle (R277), once the entries of the tick have fired. -/
def tryReady (i : Nat) (s : State) : State :=
  let s := fireDue s
  if taskReady s i then makeReady i s else s

/-! ### Tasks of an image (R259, R264) -/

/-- The tasks of a node, without descriptor. `fa` and `fc` are the open ALL and CONSUME of tasks whose mask is 0. -/
def nodeTaskList (gen n : Nat) (nd : GNode) (fa fc : Bool) : List Task :=
  let first := nd.type = 0 ∨ nd.type = 13
  let base : Task := {
    st := .armed, kind := if nodeFlow nd = .flight then .flight else .step
    all := decide first || fa, consume := decide first || fc, prio := nd.prio
    lastCore := (nodePin nd).getD 0, pinned := (nodePin nd).isSome
    mask := if first then 1 else 0, baseMask := if first then 1 else 0
    deadline := 0xFFFFFFFF, node := n, gen := gen
    items := if nodeFlow nd = .flight then max 1 (nodeChannels nd) else 1 }
  if nodeFlow nd = .perChannel then (List.range (nodeChannels nd)).map (fun c => { base with chan := c }) else [base]

/-- The lowest free descriptor. -/
def freeTask (s : State) : Nat := ((List.range 960).find? (fun i => (taskOf s i).st == .free)).getD 959

/-- The tasks of the image in force are created in ascending node order, with the list-0 entries of its SOURCE and
TONE_GEN tasks; the first fires at sample-tick count `due`. -/
def createTasks (im : Image) (due : Nat) (s : State) : State :=
  let fa := freshBool s
  let fc := freshBool fa.2
  im.indexed.foldl (fun s x =>
    (nodeTaskList s.gra.gen x.1 x.2 fa.1 fc.1).foldl (fun s t =>
      let i := freeTask s
      let s := onTask i (fun _ => { t with flow := i }) s
      if t.baseMask = 0 then s
      else onList 0 (fun l => match freeSlot l with
        | some k => insertEntry { slot := k, task := i, bit := 0, due := due, period := im.frameSize } l
        | none => l) s) s) fc.2

/-- The list-0 entries move to the first frame end after a resume (R268). -/
def retimeList0 (due : Nat) (s : State) : State :=
  onList 0 (fun l => l.map (fun e => { e with due := due })) s

/-- The list-0 entries of the tasks that do not belong to the image in force are removed. -/
def dropOldEntries (s : State) : State :=
  onList 0 (fun l => l.filter (fun e => (taskOf s e.task).gen == s.gra.gen)) s

/-- A change of Fh (R268): the wait still to run of the entries on sample-tick lists, at the new rate, rounded up.
`from_` is the tick count before the change; the count restarts at 0. -/
def convertLists (oldHz newHz from_ : Nat) (s : State) : State :=
  { s with
    sch.delays := vmapi s.sch.delays (fun l es =>
      if listTick s l = 0 then
        es.map (fun e => { e with due := cdiv ((e.due - from_) * newHz) oldHz, notBefore := 0 })
      else es) }

/-- Everything the scheduler held is lost with HALL_DSP (R280): tasks, lists, store, spill. -/
def schedLost (s : State) : State :=
  { s with sch := { page0F00 := s.sch.page0F00, page0F01 := s.sch.page0F01, windowEnd := s.sch.windowEnd } }

end Sys2Proof.Machine
end

