-- ==== Sys2Proof/Machine/Graph.lean ====
section
/-! DEFINITION. The graph engine as shared operations (chapter 10): pause and resume, parameter writes, commits, the
switch, late frames. -/

namespace Sys2Proof.Machine

open Sys2Proof

/-! ### Pause (R246, Table 10.2) -/

abbrev causeHost : Nat := 0
abbrev causeAsyn : Nat := 1
abbrev causeFh : Nat := 2
abbrev causeDrain : Nat := 3
abbrev causeSwitch : Nat := 4

/-- Hall mask of E217 for the cause that appeared first. -/
def causeHalls (c : Nat) : Nat := [0, 0x78, 8, 0x7E, 4].getD c 0

/-- A pause cause appears: no frame from the one now being gathered is processed. -/
def pauseSet (c : Nat) (s : State) : State :=
  if s.gra.pause.testBit c then s
  else
    let first := s.gra.pause == 0
    { s with
      gra.pause := s.gra.pause ||| 2 ^ c
      gra.pauseTold := if first && !s.gra.paused then some c else s.gra.pauseTold
      gra.runTo := match s.gra.runTo with
        | some k => some k
        | none => if s.gra.image.isSome then some s.gra.frameNo else none }

/-- A pause cause ends; processing resumes at the next frame boundary once none holds. A pause that no boundary has
seen yet leaves no trace. A commit that waited for the cause waits for a later boundary (R255). -/
def pauseClear (c : Nat) (s : State) : State :=
  if !s.gra.pause.testBit c then s
  else
    let s := { s with
      gra.pause := s.gra.pause - 2 ^ c
      gra.commit := s.gra.commit.map (fun k => if c = causeHost ∨ c = causeSwitch then k else { k with began := s.time.now }) }
    if s.gra.pause = 0 ∧ !s.gra.paused then { s with gra.runTo := none, gra.pauseTold := none } else s

/-- At a frame boundary a pause that appeared is told with E217. -/
def pauseTell (s : State) : State :=
  match s.gra.pauseTold with
  | some c => if s.gra.image.isSome then
      raise 217 (causeHalls c) { s with gra.pauseTold := none, gra.paused := true } else s
  | none => s

/-- Sample-tick count of the end of the frame numbered `k`, in the units of list 0. -/
def frameEndCount (s : State) (k : Nat) : Nat := s.gra.gridBase + (k + 1) * frameSize s - s.gra.fhSince

/-- At a frame boundary with no cause left, processing resumes with the frame gathered from it: E218 (R246, R268). -/
def pauseResume (s : State) : State :=
  if s.gra.paused && s.gra.pause == 0 then
    let s := { s with gra.paused := false, gra.runTo := none, gra.runFrom := s.gra.frameNo, gra.rise := 0 }
    raise 218 0 (retimeList0 (frameEndCount s s.gra.frameNo) s)
  else s

/-- A drain is asked for (R280 step 1). -/
def drainAsk (s : State) : State := pauseSet causeDrain s
/-- A drain ends: dispatch resumes (R280). -/
def drainOver (s : State) : State := pauseClear causeDrain { s with sch.draining := false, sch.drained := false }

/-! ### Parameter writes (R257) -/

/-- `data` written over `b` at `ofs`. -/
def patch (b : List Byte) (ofs : Nat) (data : List Byte) : List Byte :=
  b.take ofs ++ data ++ b.drop (ofs + data.length)

/-- The block of a node with every write that waits merged in, in the order taken. -/
def mergedParam (s : State) (n : Nat) (b : List Byte) : List Byte :=
  (s.gra.writes.filter (fun w => w.node == n)).foldl (fun b w => patch b w.ofs w.data) b

/-- A write passes the check against Table 10.7 and changes value fields only. -/
def paramWriteOk (s : State) (im : Image) (n ofs : Nat) (data : List Byte) : Bool :=
  let nd := nodeAt im n
  let nd' : GNode := { nd with param := patch (mergedParam s n nd.param) ofs data }
  let others := (im.indexed.filter (fun x => x.1 != n)).map (fun x => x.2)
  decide (n < im.nodes.length ∧ ofs + data.length ≤ nd.param.length)
    && (fixedBytes nd).all (fun k => decide (k < ofs ∨ ofs + data.length ≤ k))
    && paramOk (fhHz s) nd' && uniqueOk others nd' && tablesOk s nd'

/-- A parameter write joins those that wait (R257). -/
def paramQueue (w : ParamWrite) (s : State) : State := { s with gra.writes := s.gra.writes ++ [w] }

/-- Writes applied to the image's blocks. -/
def patchNodes (ws : List ParamWrite) (im : Image) : Image :=
  { im with
    nodes := im.indexed.map (fun x =>
      { x.2 with param := (ws.filter (fun w => w.node == x.1)).foldl (fun b w => patch b w.ofs w.data) x.2.param }) }

/-- The response of a SVC_VOLUME_SET whose write applies: the volume stored (17). -/
def volumeResp (s : State) (cid : Option Nat) : List Byte :=
  match s.svc.waits.find? (fun w => cid == some w.2) with
  | some w => i2 (if w.1 = 0 then s.svc.vol else s.svc.volHp) ++ rz 2
  | none => []

/-- At the first frame boundary after a write without HOLD every write that waits applies, in the order taken: E220 with the last
node written. -/
def paramApply (s : State) : State :=
  let ws := if s.gra.writes.any (fun w => !w.held) then s.gra.writes else []
  match ws.getLast? with
  | none => s
  | some l =>
    let s := { s with
      gra.image := s.gra.image.map (patchNodes ws)
      gra.nodes := ((List.range s.gra.nodes.length).zip s.gra.nodes).map (fun x =>
        if ws.any (fun w => w.node == x.1) then { x.2 with toneAt := none } else x.2)
      gra.writes := [] }
    raise 220 l.node (ws.foldl (fun s w => completeP w.cid .ok 0 (volumeResp s w.cid) s) s)

/-- Every write that waits is dropped with SUPERSEDED. -/
def paramDrop (s : State) : State :=
  s.gra.writes.foldl (fun s w => complete w.cid .superseded s) { s with gra.writes := [] }

/-! ### Late frames (R244) -/

/-- Frame `k` has arrived on an edge. -/
def frameCame (s : State) (im : Image) (gen k first : Nat) (e : GEdge) : Bool :=
  (e.delayed && decide (k ≤ first)) ||
  match writerOf s gen e.fromNode e.fromPort (nodeAt im e.fromNode) with
  | some w => ((w.frames.drop (w.made - wroteFrames (nodeAt im e.fromNode) w e.fromPort)).headD 0 + b2n e.delayed) ≥ k
      && decide (w.made - wroteFrames (nodeAt im e.fromNode) w e.fromPort < w.frames.length)
  | none => false

/-- The SINK nodes whose inputs for frame `k` are not complete. -/
def sinksLate (s : State) (im : Image) (gen k first : Nat) : List Nat :=
  (im.indexed.filter (fun x => x.2.type == 1 && !(edgesTo im x.1).all (frameCame s im gen k first))).map (fun x => x.1)

/-- E209 for each of some SINK nodes. -/
def lateTell (sinks : List Nat) (s : State) : State :=
  sinks.foldl (fun s _ => raise 209 1 { s with gra.late := satAdd (2 ^ 32 - 1) s.gra.late 1 }) s

/-- The graph processes frame `k` (R242, R246). -/
def frameRuns (s : State) (k : Nat) : Bool :=
  decide (s.gra.runFrom ≤ k) && (match s.gra.runTo with | some e => decide (k < e) | none => true)

/-! ### Commit and switch (R255, Table 10.8) -/

/-- Response of GRAPH_IMAGE_COMMIT. -/
def commitResp (reason minPl node load : Nat) : List Byte := b1 reason ++ b1 minPl ++ b2 node ++ b2 load ++ rz 2

/-- Banks of an image that are off. -/
def banksOff (s : State) (im : Image) : Nat :=
  (maskList im.banks 32).countP (fun b => !(s.gra.banks.testBit b))

/-- The banks of the waiting image are powered and filled; it waits for B. -/
def commitPrepare (s : State) : State :=
  match s.gra.commit with
  | some c =>
    let s := { s with gra.commit := some { c with step := .boundary, began := s.time.now } }
    { s with gra.banks := s.gra.banks ||| c.image.banks }
  | none => s

/-- A commit waits no more: its command ends with the status given. -/
def commitEnd (st : Status) (s : State) : State :=
  match s.gra.commit with
  | some c =>
    let s := { s with gra.commit := none }
    completeP c.cid st (128 * b2n c.late) c.resp { s with gra.banks := banksNeeded s }
  | none => s

/-- A checked image is scheduled; a grant is asked for where more than four banks must power up. -/
def commitStart (c : Commit) (who : Nat) (s : State) : State :=
  let s := { s with gra.commit := some c }
  let off := banksOff s c.image
  if 4 < off then
    let r := askGrant .bankPower c.cid who (4 * off) 0 0 s
    if r.2 = .refused then commitEnd .noGrant r.1 else r.1
  else commitPrepare s

/-- Boundary B of the waiting commit stands (R255). -/
def switchDue (s : State) : Bool :=
  match s.gra.commit, s.gra.lastBoundary with
  | some c, some b =>
    (c.step == .boundary || c.step == .start) && boundarySince c.began s && decide (c.at_ ≤ b)
      && s.gra.pause &&& 0xE == 0
  | _, _ => false

/-- The images share a bank. -/
def banksShared (s : State) (im : Image) : Bool :=
  match s.gra.image with | some old => old.banks &&& im.banks != 0 | none => false

/-- The old graph's last frame is handed on at B: its list-0 entries that are due fire and are then removed. -/
def oldGraphStops (s : State) : State :=
  let due := (listOf s 0).filter (entryDue s 0)
  let s := (due.map (fun e => e.task)).foldl (fun s t => tryReady t s) (fireDue s)
  onList 0 (fun _ => []) s

/-- Shared banks wholly within a mask hold a node's region. -/
def regionKept (mask : Nat) (p : Place) : Bool :=
  let b := placeBanks p
  !b.isEmpty && b.all (fun k => mask.testBit k)

/-- The nodes of an image as its preparation leaves them: regions zeroed, but for those of the same image in kept banks
at the first commit after the wake (R390). -/
def freshNodes (s : State) (im : Image) : List NodeRun :=
  im.indexed.map (fun x =>
    let zero : NodeRun := { mem := List.replicate x.2.stateLen 0 }
    match s.pwr.keptImage with
    | some (id, crc, mask) =>
      if id = im.id ∧ crc = im.crc then
        let old := s.gra.keptNodes.getD x.1 {}
        let st := if regionKept mask ⟨x.2.region, x.2.ofs, x.2.stateLen, x.1⟩ then { old with outs := [] } else zero
        { st with
          outs := (List.range x.2.nout).map (fun p => match edgesFrom im x.1 p with
            | e :: _ => if regionKept mask ⟨e.region, e.ofs, 8 * im.frameSize, x.1⟩ then old.outs.getD p {} else {}
            | [] => {}) }
      else zero
    | none => zero)

/-- METER levels that the kept nodes bring back (R390). -/
def freshMeters (s : State) (im : Image) : List (Nat × Nat × MeterCh) :=
  match s.pwr.keptImage with
  | some (id, crc, mask) =>
    if id = im.id ∧ crc = im.crc then
      s.gra.keptMeters.filter (fun m =>
        let n := nodeAt im m.1
        regionKept mask ⟨n.region, n.ofs, n.stateLen, m.1⟩)
    else []
  | none => []

/-- The image starts at the boundary taken last (Table 10.8 step 4): its tasks are created, frames are numbered from
0, and E215 is raised. -/
def graphStart (c : Commit) (s : State) : State :=
  let s := if s.fab.fhChange.isNone then pauseClear causeFh s else s
  let tick := match s.gra.lastBoundary with
    | some b => tickAt s b
    | none => sampleNo s
  let old := s.gra.image
  let oldF := frameSize s
  let s := { s with
    gra.oldCheck := if old.isSome && (match s.gra.runTo with | none => true | some k => decide (s.gra.frameNo ≤ k))
      then some (tick + oldF, s.gra.frameNo - 1) else none
    gra.oldReady := s.gra.ready, gra.ready := [], gra.gather := [], gra.lateSinks := [], gra.rise := 0, gra.resets := []
    gra.nodes := freshNodes s c.image, pwr.keptImage := none, gra.keptNodes := [], gra.keptMeters := []
    gra.oldImage := old, gra.oldBase := s.gra.gridBase
    gra.image := some c.image, gra.gen := s.gra.gen + 1, gra.commit := none
    gra.gridBase := tick, gra.frameNo := 0, gra.runFrom := 0
    gra.runTo := if s.gra.pause = 0 then none else some 0
    gra.meters := freshMeters s c.image, gra.faultQuiet := [] }
  let s := freeOld (createTasks c.image (frameEndCount s 0) s)
  let s := { s with gra.banks := banksNeeded s }
  completeP c.cid .ok (128 * b2n c.late) c.resp (raise 215 c.image.id s)

/-- The switch of Table 10.8, steps 4a and 4b, at boundary B. The second component tells that the new image has
started. -/
def graphSwitch (s : State) : State × Bool :=
  match s.gra.commit with
  | none => (s, false)
  | some c =>
    if c.step = .start then
      let s := paramDrop s
      let s := { s with gra.paused := s.gra.pause != 2 ^ causeSwitch, gra.pause := s.gra.pause - 2 ^ causeSwitch }
      let s := if s.gra.paused then s else raise 218 0 s
      (graphStart c s, true)
    else
      let s := paramDrop (oldGraphStops s)
      if banksShared s c.image then
        let s := { s with gra.commit := some { c with step := .fill, began := s.time.now } }
        (pauseTell (pauseSet causeSwitch s), false)
      else (graphStart c s, true)

/-- The graph and everything the scheduler held are lost with HALL_DSP (R256, R280). -/
def graphLost (s : State) : State :=
  let s := commitEnd .notReady (paramDrop s)
  let s := s.gra.runs.foldl (fun s c => complete (some c) .ok s) s
  let s := schedLost { s with
    gra := { gen := s.gra.gen + 1, late := s.gra.late, ringStage := s.gra.ringStage, lastBoundary := s.gra.lastBoundary
             fhSince := s.gra.fhSince, countHeld := s.gra.countHeld, gridBase := s.gra.gridBase, frameNo := s.gra.frameNo
             keptNodes := s.gra.keptNodes, keptMeters := s.gra.keptMeters } }
  { s with gra.banks := banksNeeded s }

end Sys2Proof.Machine
end

