-- ==== Sys2Proof/Machine/Mic.lean ====
section
/-! DEFINITION. Microphones, Speedwell, the history, its stream and MIC_MUTE as shared operations (chapter 06). -/

namespace Sys2Proof.Machine

open Sys2Proof

def micOf (s : State) (m : Nat) : MicCh := vget s.mic.chans m
def onMic (m : Nat) (f : MicCh → MicCh) (s : State) : State := { s with mic.chans := vupd s.mic.chans m f }

/-- Fields of page 0x0700 (Table 6.9). -/
def micEn (s : State) : Nat := Page.get s.mic.page0700 16 16
def micFaultEn (s : State) (m : Nat) : Bool := Page.bit s.mic.page0700 m
/-- FAULT_EN as the last start of the channel took it (R160). -/
def micWatched (s : State) (m : Nat) : Bool := (vget s.mic.chans m).watch
def micStartupMs (s : State) : Nat := Page.get s.mic.page0700 40 8
def modeChgMs (s : State) : Nat := Page.get s.mic.page0700 35 5
def g0Rise (s : State) : Bool := Page.bit s.mic.page0700 32

/-- Fields of page 0x0800 (Table 6.10). -/
def swEn (s : State) : Bool := Page.bit s.mic.page0800 31
/-- Detection fields as the running frame took them (R161). -/
def swMask (s : State) : Nat := Page.get s.mic.page0800 24 4
def swMinCh (s : State) : Nat := Page.get s.mic.page0800 20 4
def swOnset (s : State) : Nat := Page.get s.mic.page0800 16 4
def swThresh (s : State) : Nat := Page.get s.mic.page0800 8 8
def swTc (s : State) : Nat := Page.get s.mic.page0800 0 8
def swHangover (s : State) : Nat := Page.get s.mic.page0800 48 8
def swPtt (s : State) : Nat := Page.get s.mic.page0800 80 8
def swTimeout (s : State) : Nat := Page.get s.mic.page0800 40 8
def swPreroll (s : State) : Nat := Page.get s.mic.page0800 32 8
def histBank (s : State) : Nat := Page.get s.mic.page0800 72 8
def swStreamOwner (s : State) : Bool := Page.bit s.mic.page0800 66
def swStreamMaster (s : State) : Nat := Page.get s.mic.page0800 64 2

/-! ### Late fields of pages 0x0700 and 0x0800 (R160, R161, R54) -/

/-- STARTUP_MS and MODE_CHG_MS. -/
def micStartMask : Nat := fieldMask 40 8 + fieldMask 35 5
/-- The fields that apply from a channel start; a FAULT_EN bit from a start of its channel. -/
def micLateMask : Nat := micStartMask + 0xFFFF

/-- The waiting fields of a mask reach their effect point. -/
def micTake (mask : Nat) (s : State) : State :=
  let live := lateLive s.mic.page0700.toNat mask s.mic.late0700
  let left := lateLeft live micLateMask s.mic.late0700
  lateDone s.mic.late0700 left { s with mic.page0700 := BitVec.ofNat 64 live, mic.late0700 := left }

/-- Fields that no working channel holds back: FAULT_EN of idle channels, the others once all are idle. -/
def micTakeIdle (s : State) : State :=
  let idle (m : Nat) : Bool := (micOf s m).st == .off || (micOf s m).st == .retired
  let bits := maskOf ((List.range 16).map idle)
  micTake (bits + (if bits = 0xFFFF then micStartMask else 0)) s

/-- The detection fields: CH_MASK, MIN_CH, ONSET, THRESH_DB, FLOOR_TC_S, HANGOVER_100MS, PTT_SLOT. -/
def swDetMask : Nat := fieldMask 0 28 + fieldMask 48 8 + fieldMask 80 8
/-- TIMEOUT_S. -/
def swOpenMask : Nat := fieldMask 40 8
def swLateMask : Nat := swDetMask + swOpenMask

/-- The waiting fields of a mask reach their effect point. -/
def swTake (mask : Nat) (s : State) : State :=
  let live := lateLive s.mic.page0800.toNat mask s.mic.late0800
  let left := lateLeft live swLateMask s.mic.late0800
  lateDone s.mic.late0800 left { s with mic.page0800 := BitVec.ofNat 96 live, mic.late0800 := left }

/-- The part is in an active state (PL0 to PL4). -/
def active (s : State) : Bool := s.pwr.asleep.isNone && !s.pwr.supplyFault

/-- The listening group's clock may run: every state but RETAIN and OFF (Table 6.2). -/
def aoListens (s : State) : Bool := match s.pwr.asleep with | some sl => decide (sl.target < 3) | none => true

/-- All four listening channels are retired (R145). -/
def allRetired (s : State) : Bool := [0, 1, 2, 3].all (fun m => (micOf s m).st == .retired)

/-- Speedwell works (R146): enabled, not muted, a channel left. -/
def swRuns (s : State) : Bool := swEn s && !s.mic.mute && !allRetired s && aoListens s

/-- Fields that no running detection frame and no OPEN history holds back. -/
def swTakeIdle (s : State) : State :=
  swTake ((if swRuns s then 0 else swDetMask) + (if s.mic.hist = .opened then 0 else swOpenMask)) s

/-- PDM_CLK0 that Table 6.2 asks for. -/
def clk0Want (s : State) : Nat :=
  if s.mic.mute || !aoListens s || !(swEn s || decide (micEn s % 16 ≠ 0)) then 0
  else
    let low := match s.pwr.asleep, s.pwr.entry with
      | some sl, _ => sl.target == 2
      | none, some e => e.target == 2 && decide (5 ≤ e.step)
      | none, none => false
    if g0Rise s && !low then 2 else 1

/-- PDM_CLK1 (MIC_STATUS_GET). -/
def clk1 (s : State) : Nat :=
  if s.mic.mute || !active s || micEn s / 16 = 0 then 0 else if famOf s then 2 else 1

/-- PDM_CLK0 starts or stops at once; a change between its two rates is a row of its own (R159). -/
def clk0Update (s : State) : State :=
  if clk0Want s = 0 then { s with mic.clk0 := 0 }
  else if s.mic.clk0 = 0 then { s with mic.clk0 := clk0Want s }
  else s

/-- Index of the next instant to be written (R150). -/
def writeIndex (s : State) : Nat := s.mic.nextIndex + s.mic.running.length

/-- A marker of the side channel (R159): it ends a marker it falls in; the oldest goes when 64 are held. -/
def addMarker (kind len : Nat) (s : State) : State :=
  let i := writeIndex s
  let cut := s.mic.markers.map (fun m =>
    if m.start < i ∧ i < m.start + m.length then { m with length := i - m.start } else m)
  { s with mic.markers := (cut ++ [({ start := i, length := len, kind := kind } : Marker)]).drop (cut.length + 1 - 64) }

/-- PDM_CLK0 changes rate at an instant boundary (R159). -/
def clk0Change (s : State) : State :=
  let want := clk0Want s
  if want = 0 ∨ s.mic.clk0 = 0 ∨ want = s.mic.clk0 then s
  else
    let kind := if want = 2 then 1 else 2
    let len := 16 * s.mic.modeMs
    let s := { s with mic.clk0 := want }
    if len = 0 then s else raise 119 len (addMarker kind len s)

/-- A channel starts (R144): STARTUP_MS from the time its clock runs; where its group's clock runs already, from the enable
(the rule counts from when the clock first runs: DESIGN CHOICE, log entry "Start-up under a running clock"). FAULT_EN and
MODE_CHG_MS act from here (R160). -/
def micStart (m : Nat) (s : State) : State :=
  let clocked := if m < 4 then s.mic.clk0 != 0 else clk1 s != 0
  match (micOf s m).st with
  | .retired | .retrying => s
  | _ =>
    let s := micTake (micStartMask + 2 ^ m) s
    let c : MicCh := { st := .starting, watch := micFaultEn s m
                       due := if clocked then some (s.time.now + msTu (micStartupMs s)) else none }
    onMic m (fun _ => c) { s with mic.modeMs := modeChgMs s }

/-- Channels whose start-up waits for their clock begin it where the clock runs now (R144). -/
def micClockCame (s : State) : State :=
  (List.range 16).foldl (fun s m =>
    if (micOf s m).st = .starting ∧ (micOf s m).due.isNone then micStart m s else s) s

/-- A channel stops: from sound it falls to zero over 1 ms (MIC_ENABLE). -/
def micStop (m : Nat) (s : State) : State :=
  match (micOf s m).st with
  | .retired => s
  | .running => onMic m (fun c => { c with st := .off, due := none, ramp := some (s.time.now + tuPerMs) }) s
  | _ => chainStop (4 + m) (onMic m (fun c => { c with st := .off, due := none, ramp := none }) s)

/-- Channels that have fallen to zero carry zero with VALID low (MIC_ENABLE). -/
def micRampEnds (s : State) : State :=
  (List.range 16).foldl (fun s m =>
    if closedO (micOf s m).ramp s then chainStop (4 + m) (onMic m (fun c => { c with ramp := none }) s) else s) s

/-- E114 where the history was OPEN, unread words discarded (R151, R154). -/
def histClose (arg : Nat) (s : State) : State :=
  let s := { s with mic.stream := [] }
  if s.mic.hist = .opened then raise 114 arg s else s

/-- The history is erased (Table 6.6). -/
def histErase (arg : Option Nat) (s : State) : State :=
  let s := match arg with | some a => histClose a s | none => { s with mic.stream := [] }
  swTakeIdle { s with mic.hist := .erasing, mic.wantOpen := none }

/-- An OPEN history relocks (R151). -/
def histRelock (arg : Nat) (s : State) : State :=
  if s.mic.hist = .opened then swTakeIdle { histClose arg s with mic.hist := .locked } else s

/-- Both banks are cleared (R151, R158). -/
def histCleared (s : State) : State :=
  { s with mic.hist := .locked, mic.frames := [], mic.markers := [], mic.nextIndex := 0, mic.running := [],
           mic.frameStart := s.time.now }

/-- Speedwell starts with new floors and an empty history (R146, R158). The fields of the page that act from a frame or
a channel start act from here (R160, R161). -/
def swStart (s : State) : State :=
  let s := swTake swDetMask s
  { s with
    mic.floors := Vector.replicate 4 none, mic.onset := 0, mic.nextIndex := 0, mic.frames := [], mic.running := []
    mic.markers := [], mic.frameStart := s.time.now, mic.listenFrom := s.time.now, mic.hangs := [], mic.hangover := false
    mic.modeMs := modeChgMs s }

/-- Enable or disable Speedwell (R151, WAKE_ENABLE). -/
def swSet (en : Bool) (s : State) : State :=
  let was := swEn s
  let s := { s with mic.page0800 := Page.put s.mic.page0800 31 1 (b2n en) }
  if en && !was then clk0Update (swStart s)
  else if !en && was then clk0Update { histErase (some 3) s with mic.onset := 0, mic.hangs := [], mic.hangover := false }
  else s

/-- Group delay of the listening decimator, 12 samples at 16 kHz at either clock rate (Table 6.3). -/
abbrev listenDelay : Nat := 18432

/-- What the history records of a listening channel now (R143 to R145): zero while STARTUP_MS runs and once it is
retired, else the listening decimator's output, the sound at its ball one group delay ago. -/
def listenSample (s : State) (m : Nat) : BitVec 16 :=
  let c := micOf s m
  if c.st = .retired ∨ (c.st = .starting ∧ !closedO c.due s) then 0
  else Config.micSound m ((s.time.now : Int) - listenDelay)

/-- The four channels of an instant in order, little-endian (R150). -/
def instantNow (s : State) : DWord :=
  BitVec.ofNat 64 (leNat ([0, 1, 2, 3].flatMap (fun m => leBytes 2 (listenSample s m).toNat)))

/-- A 16 kHz instant of the listening path, 1,536 tu apart: HALL_AO writes it (R150). -/
def listenTick (s : State) : State :=
  if swRuns s && s.mic.clk0 != 0 && decide (s.mic.frameStart < s.time.now)
      && (s.time.now - s.mic.frameStart) % 1536 == 0 then
    { s with mic.running := s.mic.running ++ [instantNow s] }
  else s

/-- A stored instant: from the frames held, or from the frame that is being written. -/
def instantAt (s : State) (i : Nat) : DWord :=
  match s.mic.frames.find? (fun f => decide (f.index ≤ i ∧ i < f.index + 160)) with
  | some f => f.samples.getD (i - f.index) 0
  | none => s.mic.running.getD (i - s.mic.nextIndex) 0

/-- The oldest instant still held (R157). -/
def oldestInstant (s : State) : Nat := writeIndex s - 32000

/-- The preroll point (R156). -/
def prerollPoint (s : State) (instant : Nat) : Nat :=
  let p := (instant + 1 - 1600 * swPreroll s) / 160 * 160
  max p (cdiv (oldestInstant s) 160 * 160)

/-- The words of a stream block (Table 6.7, R155). -/
def blockWords (s : State) (start : Nat) : List Word :=
  let inBlock (m : Marker) : Nat := min (start + 160) (m.start + m.length) - max start m.start
  let ms := s.mic.markers.filter (fun m => decide (0 < inBlock m))
  let spl := ms.head?
  let len := (ms.map inBlock).foldl (· + ·) 0
  let ofs := match spl with | some m => max start m.start - start | none => 0
  let kind := match spl with | some m => m.kind | none => 0
  let hist := decide (start + 159 ≤ s.mic.detected)
  let t := match s.mic.frames.find? (fun f => f.index == start) with | some f => f.time | none => 0
  let w0 := 0x5A5A * 2 ^ 16 + b2n spl.isSome * 2 ^ 10 + b2n s.mic.gap * 2 ^ 9 + b2n hist * 2 ^ 8 + 4
  let head : List Nat := [w0, start, len * 2 ^ 16 + ofs * 2 ^ 8 + kind, t]
  head.map (BitVec.ofNat 32) ++ (List.range 160).flatMap (fun j =>
    let x := (instantAt s (start + j)).toNat
    [BitVec.ofNat 32 x, BitVec.ofNat 32 (x / 2 ^ 32)])

/-- PP_STATUS.STREAM_OPEN and STREAM_DATA of a page (R154, R156). -/
def streamOpen (s : State) (m : Fin 4) : Bool :=
  s.mic.hist == .opened && s.mic.served == m && !closed s.mic.relockAt s
def streamData (s : State) (m : Fin 4) : Bool := streamOpen s m && !s.mic.stream.isEmpty

/-- A release timeout that closes at this tu is taken before what else happens (R82, R153). -/
def histSettle (s : State) : State :=
  if s.mic.hist = .opened ∧ closed s.mic.relockAt s then histRelock 1 s else s

/-- A read of PP_STREAM (R41, R152): the word, and E115 where the history is not open for this master. -/
def streamRead (m : Fin 4) (s : State) : Word × State :=
  let s := histSettle s
  if !streamOpen s m then (0, raise 115 m.val s)
  else match s.mic.stream with
  | [] => (0, s)
  | w :: ws => (w, { s with mic.stream := ws })

/-- A detection (R147, R148): E112 outside every hangover window that is open at its stamp, a new window in any case;
void from the tu at which MIC_MUTE rose (R158), and before the listening path started. A window is kept as long as an
edge of a slot with the longest debounce may still fall into it. The last component tells that E112 was raised. -/
def detect (stamp instant arg : Nat) (s : State) : State × Bool :=
  let s := histSettle s
  let t := atDev s stamp
  let isVoid := match s.mic.voidFrom with | some v => decide (v ≤ t) | none => false
  if isVoid || decide (t < s.mic.listenFrom) then (s, false)
  else
    let inside := s.mic.hangs.any (fun w => decide (w.1 ≤ t ∧ t < w.2))
    let e := t + 2457600 * swHangover s
    let kept := s.mic.hangs.filter (fun w => decide (s.time.now < w.2 + 65536 * tuPerTick))
    let s := { s with mic.hangs := (t, e) :: kept, mic.hangover := s.mic.hangover || decide (s.time.now < e) }
    if inside then (s, false)
    else
      let s := raiseAt 112 arg stamp { s with mic.wakes := satAdd 65535 s.mic.wakes 1 }
      let s := if s.mic.hist = .locked then { s with mic.wantOpen := some (t, instant) } else s
      (s, true)

/-- A listening channel has been retired (R145): Speedwell stops with the last one. -/
def micRetired (m : Nat) (s : State) : State :=
  let s := chainRetire (4 + m) (onMic m (fun c => { c with st := .retired, due := none, ramp := none }) s)
  let s := raise (96 + m) 4 s
  if m < 4 ∧ allRetired s then histErase (some 4) s else s

/-- MIC_MUTE asserts (Table 6.8). Hangover windows still open end with Speedwell, as they do when it is disabled or starts
anew (the spec does not say: DESIGN CHOICE, log entry "Hangover windows and restarts"). -/
def muteOn (s : State) : State :=
  if s.mic.mute then { s with mic.muteRelease := none }
  else
    let s := { s with mic.mute := true, mic.muteRelease := none, mic.clk0 := 0, mic.voidFrom := some (clockNow s)
                      mic.onset := 0, mic.hangs := [], mic.hangover := false }
    let s := { s with mic.chans := s.mic.chans.map (fun c =>
      match c.st with
      | .starting | .running => { c with st := .starting, due := none, ramp := none }
      | _ => { c with ramp := none }) }
    histErase (some 2) (raise 116 0 s)

/-- MIC_MUTE has been low for 10 ms (Table 6.8). -/
def muteOff (s : State) : State :=
  let s := raise 117 0 { s with mic.mute := false, mic.muteRelease := none, mic.voidFrom := none }
  let s := micClockCame (clk0Update s)
  if swEn s then swStart s else s

end Sys2Proof.Machine
end

