-- ==== Sys2Proof/Machine/Ring.lean ====
section
/-! DEFINITION. The Gallery ring as shared operations (chapter 14): links and training, head and timing, concealment,
control messages, departures. -/

namespace Sys2Proof.Machine

open Sys2Proof

def onGal (p : Nat) (f : RingPort → RingPort) (s : State) : State := { s with ring.ports := vupd s.ring.ports p f }

/-- Fields of page 0x1200 (Table 14.8). -/
def galEn (s : State) (p : Nat) : Bool := Page.bit s.ring.page (31 - p)
def ringBulkAccept (s : State) : Bool := Page.bit s.ring.page 29
def ringFaultEn (s : State) : Bool := Page.bit s.ring.page 28
def ringPagePrio (s : State) : Nat := Page.get s.ring.page 24 4
def ringPageAddr (s : State) : Nat := Page.get s.ring.page 12 12
def ringPresUs (s : State) : Nat := Page.get s.ring.page 48 16
def ringConceal (s : State) : Nat := Page.get s.ring.page 40 8
def ringM3From (s : State) : Nat := Page.get s.ring.page 84 12

/-- PRES_TU of a PRES_US. -/
def presTuOf (us : Nat) : Nat := us * 24576 / 1000

/-- `n` ring periods in tu. -/
def ringPeriods (s : State) (n : Nat) : Nat := samplesTu (baseHz s) n

/-- H_max (R349). -/
def ringHmax (s : State) : Nat := (s.ring.presTu * 4069 - 1040000) / 65000

def ringHead (s : State) : Bool := s.ring.role == .head || s.ring.role == .successor

/-- PERIOD has reached a ring period; it wraps at 32 bits (Table 14.2). -/
def periodReached (s : State) (b : Nat) : Bool := decide ((s.ring.period + 2 ^ 32 - b % 2 ^ 32) % 2 ^ 32 < 2 ^ 31)

/-! ### Control messages (R355, R356) -/

/-- A message waits to be inserted. -/
def ringSend (dest type seq : Nat) (payload : List Byte) (s : State) : State :=
  { s with ring.out := s.ring.out ++ [({ dest := dest, type := type, seq := seq, payload := payload } : RingMsg)] }

/-- A message with a SEQ of this part's choosing. -/
def ringSendNew (dest type : Nat) (payload : List Byte) (s : State) : State :=
  let s' := ringSend dest type s.ring.seq payload s
  { s' with ring.seq := (s.ring.seq + 1) % 256 }

/-- Blocks a message takes. -/
def msgBlocks (m : RingMsg) : Nat := cdiv (12 + m.payload.length) 128

/-- The messages that go out in one ring period with `free` free blocks, and the blocks left. -/
def takeMsgs : Nat → List RingMsg → List RingMsg × Nat
  | free, [] => ([], free)
  | free, m :: l => if msgBlocks m ≤ free then takeMsgs (free - msgBlocks m) l else (m :: l, free)

/-- A record as EVT_RECORD_READ and the ring give it (Table 3.11). -/
def recordBytes (r : Record) : List Byte :=
  b2 r.ev ++ b2 r.arg ++ b2 r.epoch ++ b1 (maskOf [r.merged, r.held]) ++ b1 0 ++ b8 r.time

/-- The records the router forwards become messages of type 4 to the owner's address (R74, R355). -/
def ringForward (s : State) : State :=
  s.ev.forward.foldl (fun s x => ringSendNew x.1 4 (recordBytes x.2) s) { s with ev.forward := [] }

/-- A ring period is sent on: messages go out, then bulk data in what is left, at most 6 blocks (R355, R357). -/
def ringEmit (free : Nat) (s : State) : State :=
  let s := ringForward s
  let r := takeMsgs free s.ring.out
  let s := { s with ring.out := r.1 }
  match s.ring.send with
  | some b =>
    let n := min (b.len - b.sent) (min 752 (128 * min 6 r.2 - 16))
    if b.accepted && r.1.isEmpty && n != 0 then { s with ring.send := some { b with sent := b.sent + n } } else s
  | none => s

/-! ### Late fields of page 0x1200 (R358, R349, R54) -/

/-- PRES_US. -/
def ringPresMask : Nat := fieldMask 48 16
/-- HEAD_PRIO and FIXED_ADDR. -/
def ringTrainMask : Nat := fieldMask 12 16
def ringLateMask : Nat := ringPresMask + ringTrainMask

/-- The waiting fields of a mask reach their effect point. -/
def ringTake (mask : Nat) (s : State) : State :=
  let live := lateLive s.ring.page.toNat mask s.ring.late
  let left := lateLeft live ringLateMask s.ring.late
  lateDone s.ring.late left { s with ring.page := BitVec.ofNat 96 live, ring.late := left }

/-- The values of a training are at work: a link is up, stands looped back or departed, or is being trained. -/
def galTrained (s : State) : Bool :=
  [0, 1].any (fun p =>
    let st := (galOf s p).st
    st == .up || st == .loopedBack || st == .peerLeft || st == .training)

/-! ### Training (R350) -/

/-- A training may be asked for: enabled, signal present, not up, not held off or retired, none under way. -/
def galMayTrain (s : State) (p : Nat) : Bool :=
  let k := galOf s p
  galEn s p && k.signal && !k.asked && k.trainDue.isNone && !k.backoff && !k.dozed
    && (k.st == .noSignal || k.st == .loopedBack || k.st == .familyMismatch || k.st == .peerLeft)

/-- A training is refused its grant: the command ends with NO_GRANT. -/
def galRefused (p : Nat) (s : State) : State :=
  completeAll (galOf s p).cids .noGrant (onGal p (fun k => { k with asked := false, cids := [] }) s)

/-- A training grant is asked for. -/
def galAsk (p : Nat) (cid : Option Nat) (who : Nat) (s : State) : State :=
  let s := onGal p (fun k => { k with asked := true, cids := k.cids ++ cid.toList }) s
  let r := askGrant (.ringTrain (Fin.ofNat 2 p)) cid who 45 0 0 s
  if r.2 = .refused then galRefused p r.1 else r.1

/-- The grant is given: the training runs (Table 14.4), with the HEAD_PRIO and FIXED_ADDR written last (R358). -/
def galTrain (p : Nat) (s : State) : State :=
  let s := ringTake ringTrainMask s
  onGal p (fun k => { k with asked := false, st := .training, trainDue := some (s.time.now + msTu 10) }) s

/-- A training or a request for one ends without a link. -/
def galTrainEnd (p : Nat) (st : LinkState) (s : State) : State :=
  let cids := (galOf s p).cids
  let s := onGal p (fun k => { k with st := st, trainDue := none, asked := false, cids := [] }) s
  completeAll cids .timeout (releaseGrant (.ringTrain (Fin.ofNat 2 p)) s)

/-- An address is assigned (R343): E166 where it is new. -/
def ringAddress (a : Nat) (s : State) : State :=
  let fixed := s.ring.fixedAddr
  let s' := { s with ring.addr := a, ring.conflict := fixed != 0 && a != fixed && a != 0 }
  if s.ring.addr = a ∨ a = 0 then s' else raise 166 a s'

/-- The head of the ring now: E166 with address 1 for a head that starts one. -/
def ringBecomeHead (role : RingRole) (s : State) : State :=
  let s := { s with ring.role := role, ring.standing := none, ring.hops := 0, ring.delayAcc := 0 }
  let s := if role = .head then ringAddress 1 s else s
  { s with ring.headAddr := s.ring.addr, ring.presTu := presTuOf (ringPresUs s) }

/-- A link comes up (R350 step 6, R343, R344). -/
def galJoin (p : Nat) (uid : BitVec 128) (peer delay own : Nat) (s : State) : State :=
  let old := (galOf s p).uid
  let changed := old.isSome && old != some uid
  let cids := (galOf s p).cids
  let s := { s with ring.headPrio := ringPagePrio s, ring.fixedAddr := ringPageAddr s }
  let s := onGal p (fun k => { k with
    been := true, uid := some uid, addr := peer, delay := delay, changed := changed, cids := [], leaving := none
    dozed := false }) s
  let s := raise 160 p (galTrainEnd p .up s)
  let s := if changed then raise 164 p s else s
  let s := if ringHead s then s
    else if s.ring.headPrio = 15 then ringBecomeHead .head s
    else
      let s := if s.ring.role = .off ∨ s.ring.role = .alone then
        { s with ring.role := .member, ring.lastTiming := s.time.now } else s
      ringAddress own s
  let s := if ringHead s && s.ring.folded && galUp s 0 && galUp s 1 && s.ring.unfoldAt.isNone then
    { s with ring.unfoldAt := some (s.ring.period + 16) } else s
  completeAll cids .ok s

/-! ### Fold (R351, R354) -/

/-- E162 where the fold is new. -/
def ringFold (addr : Nat) (s : State) : State :=
  if s.ring.folded ∧ s.ring.foldAddr = addr then s
  else raise 162 addr { s with ring.folded := true, ring.foldAddr := addr, ring.openChain := addr == 0 }

/-- The address of the member that receives forward across a break at port `p`. -/
def beyond (s : State) (p : Nat) : Nat := if p = 0 then (galOf s 0).addr else s.ring.addr

/-- No link is left: forwarded records that have not left are dropped (R74). -/
def forwardsDrop (s : State) : State :=
  if ringLinkUp s && !s.ring.left then s
  else { s with ev.forward := [], ring.out := s.ring.out.filter (fun m => m.type != 4) }

/-- A link has gone: the end loops back while the other link is up, or the part is alone. -/
def ringLose (p : Nat) (st : LinkState) (s : State) : State :=
  let s := forwardsDrop (onGal p (fun k => { k with st := st, leaving := none }) s)
  if ringLinkUp s then ringFold (beyond s p) s
  else landFollow { s with ring.role := .alone }

/-- AT_PERIOD of a departure announced now: the message leaves with the next ring period, at least 4 before it (R356). -/
def leavePeriod (s : State) : Nat := (s.ring.period + 5) % 2 ^ 32

/-- A departure is announced (R354). -/
def ringLeave (mask cause : Nat) (s : State) : State :=
  ringSendNew 4095 8 (b1 mask ++ b1 cause ++ rz 2 ++ b4 (leavePeriod s)) s

/-- A disabled port idles: its link, its training and its commands end. -/
def galDrop (p : Nat) (s : State) : State :=
  let k := galOf s p
  let s := if k.asked || k.trainDue.isSome then galTrainEnd p .disabled s else s
  let s := completeAll k.cids .timeout (onGal p (fun k => { k with cids := [], signal := false, dropAt := none }) s)
  let was := k.st == .up
  let s := onGal p (fun k => { k with st := if k.st = .retired then .retired else .disabled }) s
  let s := if was then ringLose p .disabled s else s
  if galEn s 0 || galEn s 1 || ringLinkUp s then s else landFollow { s with ring.role := .off }

/-- A port is disabled (R354): an up link idles once its departure has been announced, any other at once. -/
def galDisable (p : Nat) (s : State) : State :=
  if galUp s p && ringRuns s then onGal p (fun k => { k with dropAt := some (leavePeriod s) }) (ringLeave (2 ^ p) 0 s)
  else galDrop p s

/-- EN of a port changed. -/
def galEnable (p : Nat) (s : State) : State :=
  if galEn s p then
    let s := onGal p (fun k => if k.st = .disabled then { k with st := .noSignal, pollAt := s.time.now }
      else { k with dropAt := none }) s
    if s.ring.role = .off then { s with ring.role := .alone } else s
  else galDisable p s

/-- A departure that this part has announced is due, or no ring period will bring its AT_PERIOD. -/
def leaveDue (s : State) (at_ : Option Nat) : Bool :=
  match at_ with
  | some b => periodReached s b || !ringRuns s || !asynRuns s
  | none => false

/-- Announced departures take effect (R354): disabled ports idle; before a sleep every link is left. -/
def ringDepart (s : State) : State :=
  let s := [0, 1].foldl (fun s p => if leaveDue s (galOf s p).dropAt then galDrop p s else s) s
  if leaveDue s s.ring.leaveAt then forwardsDrop { s with ring.leaveAt := none, ring.left := true } else s

/-- A sleep entry announces the departure of the part (R354). -/
def ringGo (cause : Nat) (s : State) : State :=
  if ringRuns s then { ringLeave 3 cause s with ring.leaveAt := some (leavePeriod s) }
  else if ringLinkUp s then forwardsDrop { s with ring.left := true }
  else s

/-- A planned or a lost link: does the neighbour's departure cover it? -/
def planned (s : State) (p : Nat) : Bool :=
  match (galOf s p).leaving with
  | some at_ => periodReached s at_
  | none => false

/-! ### Concealment (R348) -/

def concealOf (s : State) (i : Nat) : Conceal := vget s.ring.conceal i
def onConceal (i : Nat) (f : Conceal → Conceal) (s : State) : State := { s with ring.conceal := vupd s.ring.conceal i f }

/-- Samples of a ring input in one ring period, its rate, and those of CONCEAL ring periods (R347, R348). -/
def ringPer (s : State) (i : Nat) : Nat := match ringBinding s false i with | some b => if b.wide then 2 else 1 | none => 1
def ringHz (s : State) (i : Nat) : Nat := ringPer s i * baseHz s
def concealLen (s : State) (i : Nat) : Nat := ringConceal s * ringPer s i

/-- A sample at `g` of `n` parts. -/
def concealAt (g n : Nat) (v : Int) : Int := roundDiv n ((g : Int) * v)

/-- The base tick whose sample falls due for presentation now. -/
def dueTick (s : State) : Nat := ticksIn s (baseHz s) (s.time.now - s.ring.presTu - s.time.tickBase)

/-- A sample of an input is missing (R348): E165, the gain falls by one step, the last sample received stands in. Before
the first sample there is none (DESIGN CHOICE, log entry "Ring audio"). -/
def concealMiss (i : Nat) (s : State) : State :=
  let c := concealOf s i
  let n := concealLen s i
  let g := match c.gain with | some g => min n g - 1 | none => n - 1
  let k := dueTick s
  let s := onConceal i (fun c => { c with
    gain := some g, missed := if c.missTick = some k then c.missed else satAdd 65535 c.missed 1
    missTick := some k, missAt := some s.time.now
    out := match c.last with | some v => if g = 0 then {} else { v := concealAt g n v, valid := true } | none => {} }) s
  raise 165 1 { s with ring.misses := satAdd 65535 s.ring.misses 1 }

/-- A sample of an input is presented in time (R348): within concealment the gain rises by one step; at 1 E167. -/
def concealHit (i : Nat) (x : RingSmp) (s : State) : State :=
  let c := concealOf s i
  let n := concealLen s i
  let v := if x.valid then x.v else 0
  let show_ (v : Int) : Smp := if x.valid then { v := v, valid := true, settled := true } else {}
  match c.gain with
  | none => onConceal i (fun c => { c with last := some v, out := show_ v }) s
  | some g =>
    if n ≤ g + 1 then
      raise 167 c.missed (onConceal i (fun c => { c with
        gain := none, missed := 0, missTick := none, last := some v, out := show_ v }) s)
    else onConceal i (fun c => { c with gain := some (g + 1), last := some v, out := show_ (concealAt (g + 1) n v) }) s

/-- Inputs the slot map binds. -/
def ringInputs (s : State) : List Nat := (s.ring.map.filter (fun b => !b.out)).map (fun b => b.point)

/-- The part takes part in the ring's audio (R346). -/
def ringAudio (s : State) : Bool := ringHead s || s.clk.ref == 16

/-! ### Audio slots (R347 to R349) -/

/-- Longest time in tu from a capture tick to arrival over `h` hops: 10.4 µs and 0.65 µs each (R349). -/
def transitTu (h : Nat) : Nat := (1040000 + 65000 * h) * 24576 / 100000000

/-- Internal time of the base tick whose period arrives now, `age` ticks before the latest; an age that the transit of the
period's hops does not reach counts as none (log entry "Ring audio"). -/
def periodTick (s : State) (age : Nat) : Nat :=
  let t := s.time.tickBase + ticksTu s (baseHz s) (baseTicks s - age)
  if age ≤ baseTicks s ∧ s.time.now - t ≤ transitTu s.ring.hops then t else baseTickTu s

/-- A slot's sample arrives, in time or not at all: within [tick, tick + PRES_TU). A second pass through the part counts
where the first brought no VALID sample. -/
def sampleArrives (i : Nat) (x : RingSmp) (s : State) : State :=
  if s.ring.presTu ≤ s.time.now - x.at_ then s
  else onConceal i (fun c => { c with
    queue := if c.queue.any (fun y => y.at_ == x.at_ && y.valid) then c.queue
      else c.queue.filter (fun y => y.at_ != x.at_) ++ [x] }) s

/-- The samples of a ring period received at port `p` for the base tick at internal time `t` (R348). -/
def slotsArrive (p t : Nat) (valid : BitVec 256) (s : State) : State :=
  let word (slot : Nat) (at_ : Nat) : RingSmp :=
    { at_ := at_, v := signedOf 32 (Config.ringSlot p s.time.now slot).toNat, valid := valid.getLsbD slot }
  (s.ring.map.filter (fun b => !b.out)).foldl (fun s b =>
    let s := sampleArrives b.point (word b.slot t) s
    if b.wide then sampleArrives b.point (word (b.slot + 1) (t + ticksTu s (2 * baseHz s) 1)) s else s) s

/-- The presentation instant of a sample of input `i` stands now: its tick lies PRES_TU back. -/
def ringDue (s : State) (i : Nat) : Bool :=
  let dt := s.time.now - s.ring.presTu - s.time.tickBase
  decide (s.time.tickBase + s.ring.presTu ≤ s.time.now) && ticksTu s (ringHz s i) (ticksIn s (ringHz s i) dt) == dt

/-- The sample that is due has arrived. A tick's place within its tu is not kept: a sample one tu beside it is the one. -/
def ringArrived (s : State) (i : Nat) : Option RingSmp :=
  (concealOf s i).queue.find? (fun x => decide (x.at_ + s.ring.presTu ≤ s.time.now + 1 ∧ s.time.now ≤ x.at_ + s.ring.presTu + 1))

/-- Samples of the input are presented: the part shares the ring's audio in a ring, or alone still conceals what it
received (log entry "Ring audio"). -/
def ringPresents (s : State) (i : Nat) : Bool :=
  s.ring.role != .off && ringAudio s && (ringInputs s).contains i
    && (s.ring.role != .alone || ((concealOf s i).last.isSome && (concealOf s i).gain != some 0))

/-- A sample is missing at this tu: it is due, has not arrived and has not been judged. -/
def ringMissing (s : State) (i : Nat) : Bool :=
  ringPresents s i && ringDue s i && (ringArrived s i).isNone && (concealOf s i).missAt != some s.time.now

/-- An input at this tu: the due sample is presented, a missing one concealed. -/
def inputStep (s : State) (i : Nat) : State :=
  if !ringPresents s i then onConceal i (fun c => { c with out := {}, queue := [] }) s
  else if !ringDue s i then s
  else
    let s := match ringArrived s i with
      | some x => concealHit i x s
      | none => if ringMissing s i then concealMiss i s else s
    onConceal i (fun c => { c with queue := c.queue.filter (fun x => decide (s.time.now + 1 < x.at_ + s.ring.presTu)) }) s

/-- A change of the presentation delay at work (R349): 1 ms down, the new delay, 1 ms up. -/
def presStep (s : State) : State :=
  match s.ring.presFade with
  | some (a, tu) =>
    if a + 2 * tuPerMs ≤ s.time.now then { s with ring.presTu := tu, ring.presFade := none }
    else if a + tuPerMs ≤ s.time.now then { s with ring.presTu := tu }
    else s
  | none => s

/-- Level of the ring inputs in tu of 1 ms. -/
def presLevel (s : State) : Nat :=
  match s.ring.presFade with
  | some (a, _) =>
    let d := s.time.now - a
    if d < tuPerMs then tuPerMs - d else min tuPerMs (d - tuPerMs)
  | none => tuPerMs

/-- The ring inputs at this tu. -/
def ringInStep (s : State) : State := (ringInputs s).foldl inputStep (presStep s)

/-- A slot's word: 0 where VALID is low (R348). -/
def slotWord (a : Smp) : BitVec 32 × Bool := (if a.valid then BitVec.ofInt 32 a.v else 0, a.valid)

/-- What this part writes into an audio slot of the period it sent on last (R348); none where it writes nothing. -/
def ringSlotOut (s : State) (slot : Nat) : Option (BitVec 32 × Bool) :=
  match s.ring.capture.find? (fun c => s.ring.sentAt == some c.at_) with
  | some c => (c.slots.find? (fun x => x.1 == slot)).map (fun x => x.2)
  | none => none

/-! ### Timing (R341, R342) -/

/-- The better of two standings (R342). -/
def beats (p1 : Nat) (u1 : BitVec 128) (p2 : Nat) (u2 : BitVec 128) : Bool :=
  decide (p2 < p1) || (p1 == p2 && decide (u1.toNat < u2.toNat))

/-- A timing field is taken: the member follows the head it names. -/
def ringFollow (p : Nat) (t : RingTiming) (s : State) : State :=
  let s := { s with
    ring.lastTiming := s.time.now, ring.period := t.period % 2 ^ 32, ring.headAddr := t.head, ring.hops := t.hops + 1
    ring.delayAcc := (t.delayAcc + (galOf s p).delay) % 2 ^ 32, ring.standing := none
    ring.role := .member
    ring.unfoldAt := if t.unfoldDue then some t.unfoldAt else s.ring.unfoldAt
    ring.presChange :=
      if t.presTu ≠ s.ring.presTu ∧ s.ring.presChange.isNone ∧ s.ring.presFade.isNone then some (t.period + 16, t.presTu)
      else s.ring.presChange }
  if t.folded then ringFold t.foldAddr s else s

/-- An arbitration message of this part. -/
def arbitrate (s : State) : State :=
  ringSendNew 4095 7 (b1 s.ring.headPrio ++ rz 3 ++ leBytes 16 Config.uid.toNat ++ b4 s.ring.period) s

/-- A new slot map takes effect at a ring period boundary (R347). -/
def ringMapTake (s : State) : State :=
  match s.ring.newMap with
  | some m =>
    complete s.ring.mapCid .ok (landFollow { s with
      ring.map := m, ring.newMap := none, ring.mapCid := none, ring.conceal := Vector.replicate 32 {} })
  | none => s

/-! ### Bulk (R357) -/

/-- A transfer being sent ends: E168, the command completes. -/
def bulkSendEnd (st : Status) (s : State) : State :=
  match s.ring.send with
  | some b =>
    let lock := match s.boot.install with | some i => i.source == 0 | none => false
    complete b.cid st (raise 168 st.code { s with ring.send := none, own.mbxLock := lock })
  | none => s

/-! ### Sleep and reset (R354) -/

/-- On wake, or when an entry is undone, the part rejoins; a departure that is not due yet is dropped. -/
def ringRejoin (s : State) : State :=
  let s := { s with ring.leaveAt := none }
  if s.ring.left then
    let s := { s with ring.left := false, ring.lastTiming := s.time.now }
    if s.ring.folded && ringHead s then { s with ring.unfoldAt := some (s.ring.period + 16) } else s
  else s

/-- LISTEN, RETAIN, OFF: every link goes; page and map take their reset contents; rosters and retirements stay. -/
def ringLost (s : State) : State :=
  let s := [0, 1].foldl (fun s p => completeAll (galOf s p).cids .timeout s) s
  let s := bulkSendEnd .timeout s
  let s := s.ring.access.foldl (fun s a => complete a.cid .timeout s) s
  { s with
    ring := { ports := s.ring.ports.map (fun k => { uid := k.uid, addr := k.addr, changed := k.changed
                                                    st := if k.st = .retired then .retired else .disabled }) } }

end Sys2Proof.Machine
end

