-- ==== Sys2Proof/Machine/Protect.lean ====
section
/-! DEFINITION. The fault supervisor, retirement and its redistribution, the supply clamp as shared operations
(chapter 13). -/

namespace Sys2Proof.Machine

open Sys2Proof

/-! ### Fault channels (R329 to R332) -/

/-- Channels of each class (Table 13.5). -/
def classSize (cls : Nat) : Nat := [24, 16, 2, 6, 24].getD cls 0

def faultOf (s : State) (cls i : Nat) : FaultCh :=
  match cls with
  | 0 => vget s.prot.drvCh i
  | 1 => vget s.prot.micCh i
  | 2 => vget s.prot.ringCh i
  | 3 => vget s.prot.tdmCh i
  | _ => vget s.prot.hkCh i

def onFault (cls i : Nat) (f : FaultCh → FaultCh) (s : State) : State :=
  match cls with
  | 0 => { s with prot.drvCh := vupd s.prot.drvCh i f }
  | 1 => { s with prot.micCh := vupd s.prot.micCh i f }
  | 2 => { s with prot.ringCh := vupd s.prot.ringCh i f }
  | 3 => { s with prot.tdmCh := vupd s.prot.tdmCh i f }
  | _ => { s with prot.hkCh := vupd s.prot.hkCh i f }

/-! ### Redistribution (R333 to R335) -/

/-- Fields of page 0x1100 (Table 13.8). -/
def laneGuard (s : State) : Bool := Page.bit s.prot.page1100 31
def thermalSave (s : State) : Bool := Page.bit s.prot.page1100 30
def supplyClampOn (s : State) : Bool := Page.bit s.prot.page1100 29
def holdTu (s : State) : Nat := 245760 * Page.get s.prot.page1100 8 8
def remapMixers (s : State) : Nat := Page.get s.prot.page1100 0 5

/-- Source a target has, or will have once its waiting change applies. -/
def sourceComing (s : State) (t : Nat) : Option Nat :=
  match (targetOf s t).wait with
  | some w => w.src
  | none => (targetOf s t).src

/-- Gain a target has, or will have. -/
def gainComing (s : State) (t : Nat) : Int :=
  match (targetOf s t).wait with
  | some w => w.gain
  | none => gainStored s t

/-- Route target of input `i` of mixer `m`. -/
def mixerIn (m i : Nat) : Nat := 128 + 16 * m + i

/-- The supervisor changes a route and notes it (R334). -/
def remapSet (port t : Nat) (src : Option Nat) (gain : Int) (mixer : Option Nat) (s : State) : State :=
  let r : Remap := { port := port, target := t, src := src, gain := gain, oldSrc := sourceComing s t
                     oldGain := gainComing s t, mixer := mixer }
  routeChange t src gain (defaultFade s) none { s with prot.remaps := s.prot.remaps ++ [r] }

def onProt (n : Nat) (f : PortProt → PortProt) (s : State) : State := { s with prot.ports := vupd s.prot.ports n f }
def protOf (s : State) (n : Nat) : PortProt := vget s.prot.ports n

/-- A target that cannot take the signal is skipped. -/
def remapSkip (port : Nat) (s : State) : State := onProt port (fun p => { p with incomplete := true }) s

/-- The lowest input of a mixer that has no source. -/
def freeInput (s : State) (m : Nat) : Option Nat := (List.range 16).find? (fun i => sourceComing s (mixerIn m i) == none)

/-- The highest of the remap mixers that has no source on any input. -/
def freeMixer (s : State) : Option Nat :=
  ((List.range (remapMixers s)).map (fun k => 63 - k)).find? (fun m =>
    (List.range 16).all (fun i => sourceComing s (mixerIn m i) == none)
      && !s.prot.moves.any (fun v => v.mixer == m))

/-- One target of a retirement-map entry (R334 step 2). -/
def remapTarget (port : Nat) (source : Option Nat) (t : Nat) (w : Int) (s : State) : State :=
  let sink := 6 + t
  if drvRetired s t then remapSkip port s
  else match s.prot.moves.find? (fun v => v.sink == sink), sourceComing s sink with
  | some v, _ => match freeInput s v.mixer with
    | some i => remapSet port (mixerIn v.mixer i) source w none s
    | none => remapSkip port s
  | none, none => remapSet port sink source w none s
  | none, some p =>
    if 192 ≤ p then
      match freeInput s (p - 192) with
      | some i => remapSet port (mixerIn (p - 192) i) source w none s
      | none => remapSkip port s
    else match freeMixer s with
      | none => remapSkip port s
      | some m =>
        let g := gainComing s sink
        let s := remapSet port (mixerIn m 0) (some p) g (some m) s
        let s := remapSet port (mixerIn m 1) source w (some m) s
        { s with prot.moves := s.prot.moves ++
            [({ port := port, sink := sink, mixer := m, asked := s.time.now, fedAt := none } : MixerMove)] }

/-- The routes of a retired drive port are rewritten (R334). -/
def remapPort (port : Nat) (s : State) : State :=
  let present := sourceComing s (6 + port)
  let s := remapSet port (6 + port) none (gainComing s (6 + port)) none s
  match s.prot.map.find? (fun e => e.port == port) with
  | none => s
  | some e =>
    let source := if e.source = 0xFFFF then present else some e.source
    e.targets.foldl (fun s x => remapTarget port source x.1 x.2 s) s

/-- At a frame boundary the mixers that are fed from it are noted (R334). -/
def movesFed (b : Nat) (s : State) : State :=
  { s with
    prot.moves := s.prot.moves.map (fun v => if v.fedAt.isNone ∧ v.asked < b then { v with fedAt := some b } else v) }

/-- The supervisor's changes for a port are undone where nobody has changed them since (PROT_RESTORE): the targets that
now wait. -/
def remapUndo (port : Nat) (s : State) : State × List Nat :=
  let mine := (s.prot.remaps.filter (fun r => r.port == port)).reverse
  let s := { s with
    prot.remaps := s.prot.remaps.filter (fun r => r.port != port)
    prot.moves := s.prot.moves.filter (fun v => v.port != port) }
  let s := onProt port (fun p => { p with incomplete := false }) s
  mine.foldl (fun (a : State × List Nat) r =>
    if sourceComing a.1 r.target = r.src ∧ gainComing a.1 r.target = r.gain then
      (routeChange r.target r.oldSrc r.oldGain (defaultFade a.1) none a.1, a.2 ++ [r.target])
    else a) (s, [])

/-! ### Faults, backoff, retirement -/

/-- The safe state of a class (Table 13.5). -/
def faultSafe (cls i : Nat) (s : State) : State :=
  match cls with
  | 0 => drvSafe i s
  | 1 => chainStop (4 + i) (onMic i (fun _ => { st := .retrying, due := none }) s)
  | 2 => onGal i (fun k => { k with backoff := true }) s
  | 3 => onTdm i (fun p => { p with backoff := true }) s
  | _ => s

/-- A channel is retired (R330, Table 13.5). -/
def retire (cls i : Nat) (s : State) : State :=
  let s := onFault cls i (fun c => { c with st := .retired, backoffEnd := none, reask := none }) s
  match cls with
  | 0 => remapPort i (drvRetire i (if charNames s i then charAbort s else s))
  | 1 => micRetired i s
  | 2 => raise 161 (i * 256 + 2) (onGal i (fun k => { k with st := .retired, backoff := false, asked := false, trainDue := none }) s)
  | 3 => raise (176 + i) 3 (onTdm i (fun p => { p with st := .retired, rate := none, backoff := false }) s)
  | _ => raise 128 (i * 256 + 2) s

/-- Backoff after the k-th fault (R330). -/
def backoffTu (k : Nat) : Nat := msTu ([2, 8, 32].getD (k - 1) 32)

/-- A fault reaches the supervisor (R330, R331): it counts in the channel's window and starts a backoff, and the fourth
retires the channel. -/
def superviseFault (cls i cause : Nat) (s : State) : State :=
  let c := faultOf s cls i
  if c.stamp = some s.time.now ∧ c.st ≠ .normal then onFault cls i (fun c => { c with cause := min c.cause cause }) s
  else if c.st ≠ .normal then s
  else
    let inside := match c.windowEnd with | some e => decide (s.time.now < e) | none => false
    let count := if inside then c.count + 1 else 1
    let s := onFault cls i (fun c => { c with
      count := count, cause := cause, stamp := some s.time.now
      windowEnd := if inside then c.windowEnd else some (s.time.now + 49152000) }) s
    if 4 ≤ count then retire cls i (faultSafe cls i s)
    else
      faultSafe cls i (onFault cls i (fun c => { c with
        st := .backoff, backoffEnd := some (s.time.now + backoffTu count) }) s)

/-- A retry begins (R332): RETRIES counts. -/
def retryCount (cls i : Nat) (s : State) : State :=
  onFault cls i (fun c => { c with
    st := .normal, backoffEnd := none, reask := none, retries := satAdd 65535 c.retries 1 }) s

/-- A retry waits for its grant. -/
def retryWait (cls i : Nat) (s : State) : State :=
  onFault cls i (fun c => { c with st := .retryWait, backoffEnd := none, reask := none }) s

/-- A retry was refused its grant: the supervisor asks again 32 ms later (R332). -/
def retryRefused (cls i : Nat) (s : State) : State :=
  if (faultOf s cls i).st = .retryWait then
    onFault cls i (fun c => { c with reask := some (s.time.now + msTu 32) }) s
  else s

/-- Ports of a group whose retry waits for the group's grant go to their start-up. -/
def retryGroup (g : Nat) (s : State) : State :=
  (grpPorts g).foldl (fun s n =>
    if (faultOf s 0 n).st = .retryWait ∧ (drvOf s n).st = .safeStop then
      drvStart n none 4 (retryCount 0 n s)
    else s) s

/-- A group's grant is refused, for commands and for the supervisor's retries. -/
def grpRefusedAll (g : Nat) (s : State) : State :=
  drvSettle ((grpPorts g).foldl (fun s n => retryRefused 0 n s) (grpRefused g s))

/-- The retry of a drive port: its group's grant is asked for where the group is OFF; a port the host asked to stop is
released into STOPPED (R305, R332). -/
def retryDrive (n : Nat) (s : State) : State :=
  if !(drvOf s n).wanted then drvSettle (grpIdle (n / 4) (drvTo n .stopped (retryCount 0 n s)))
  else match (grpOf s (n / 4)).st with
  | .on => drvSettle (drvStart n none 4 (retryCount 0 n s))
  | .starting =>
    if (grpOf s (n / 4)).asked then retryWait 0 n s else drvSettle (drvStart n none 4 (retryCount 0 n s))
  | .stopping | .restarting => grpStart (n / 4) none 4 (retryWait 0 n s)
  | _ =>
    let s := grpStart (n / 4) none 4 (retryWait 0 n s)
    if (grpOf s (n / 4)).st = .off then retryRefused 0 n s else s

/-- The retry of a channel (Table 13.5). -/
def retry (cls i : Nat) (s : State) : State :=
  match cls with
  | 0 => retryDrive i s
  | 1 =>
    let s := retryCount 1 i s
    let s := onMic i (fun _ => { st := .off, due := none }) s
    if maskBit (micEn s) i then micStart i s else s
  | 2 =>
    let s := onGal i (fun k => { k with backoff := false }) s
    if galMayTrain s i then
      let s := galAsk i none 4 (retryWait 2 i s)
      if (galOf s i).asked ∨ grantHeld (.ringTrain (Fin.ofNat 2 i)) s then s else retryRefused 2 i s
    else retryCount 2 i s
  | 3 => landFollow (tdmStart i (onTdm i (fun p => { p with backoff := false, st := .off }) (retryCount 3 i s)))
  | _ => retryCount 4 i s

/-- A channel is released into its class's normal state (PROT_RESTORE). The route targets that wait are the second
component. -/
def restore (cls i : Nat) (s : State) : State × List Nat :=
  let c := faultOf s cls i
  if c.st = .normal then (s, [])
  else
    let wasRetired := c.st == .retired
    let s := onFault cls i (fun c => { c with
      st := .normal, count := 0, windowEnd := none, backoffEnd := none, reask := none, stamp := none }) s
    match cls with
    | 0 =>
      let s := onDrv i (fun p => { p with wanted := false, autoStopped := false, resume := false }) (drvPutEn i false s)
      let s := (drvChains i).foldl (fun s c => chainRestore c s) (drvSettle (grpIdle (i / 4) (drvTo i .stopped s)))
      if wasRetired then remapUndo i s else (s, [])
    | 1 =>
      let s := onMic i (fun _ => { st := .off, due := none }) s
      let s := chainRestore (4 + i) s
      (clk0Update (if maskBit (micEn s) i then micStart i s else s), [])
    | 2 =>
      let s := releaseGrant (.ringTrain (Fin.ofNat 2 i)) s
      (onGal i (fun k => { k with
        st := if galEn s i then .noSignal else .disabled, backoff := false, asked := false, pollAt := s.time.now }) s, [])
    | 3 => (landFollow (tdmStart i (onTdm i (fun p => { p with st := .off, backoff := false }) s)), [])
    | _ => (s, [])

/-- A full reset or firmware restart clears every retirement, count and window; a discontinuity the counts (R335). -/
def faultsCleared (s : State) : State :=
  { s with
    prot.drvCh := Vector.replicate 24 {}, prot.micCh := Vector.replicate 16 {}, prot.ringCh := Vector.replicate 2 {}
    prot.tdmCh := Vector.replicate 6 {}, prot.hkCh := Vector.replicate 24 {} }

/-- A time discontinuity: counts and windows are cleared (R335). -/
def faultCountsCleared (s : State) : State :=
  let f (c : FaultCh) : FaultCh := { c with count := 0, windowEnd := none, stamp := none }
  { s with
    prot.drvCh := s.prot.drvCh.map f, prot.micCh := s.prot.micCh.map f, prot.ringCh := s.prot.ringCh.map f
    prot.tdmCh := s.prot.tdmCh.map f, prot.hkCh := s.prot.hkCh.map f }

/-! ### SPEAKER_MODEL and SUPPLY_LIMIT in force -/

/-- The image runs: in force and not paused. -/
def graphRuns (s : State) : Bool := s.gra.image.isSome && !s.gra.paused

/-- DRIVER_ID of the SPEAKER_MODEL port of a drive port in the image in force. -/
def modelOf (s : State) (n : Nat) : Option Nat :=
  match s.gra.image with
  | some im => ((im.nodes.flatMap modelPorts).find? (fun x => x.1 == n)).map (fun x => x.2)
  | none => none

/-- The driver entry of a port in a table (R318). -/
def driverEntry (s : State) (id n : Nat) : Option Driver :=
  match s.prot.drivers.find? (fun d => d.1 == id) with
  | some d => match d.2.find? (fun e => e.port == n) with
    | some e => some e
    | none => d.2.find? (fun e => e.port == 0xFF)
  | none => none

/-- The driver entry a port's SPEAKER_MODEL uses. -/
def modelEntry (s : State) (n : Nat) : Option Driver := (modelOf s n).bind (fun id => driverEntry s id n)

/-- SUPPLY_ID and input ports of the SUPPLY_LIMIT node in force. -/
def limitNode (s : State) : Option (Nat × List Nat) :=
  match s.gra.image with
  | some im => (im.nodes.find? (fun n => n.type == 17)).map (fun n => (n.u16 2, limitPorts n))
  | none => none

/-- The supply a running SUPPLY_LIMIT node names (R327). -/
def limitSupply (s : State) : Option Supply :=
  if graphRuns s then (limitNode s).bind (fun x => s.prot.supplies.find? (fun y => y.id == x.1)) else none

def onSupply (id : Nat) (f : Supply → Supply) (s : State) : State :=
  { s with prot.supplies := s.prot.supplies.map (fun x => if x.id = id then f x else x) }

/-- SUPPLY_HK is retired or in its backoff (R325). -/
def supplyDead (s : State) (t : SupplyTable) : Bool := (faultOf s 4 t.hk).st != .normal

/-! ### Reductions in 0.5 dB steps, from the square of a gain -/

/-- The gain lies at least `k` × 0.5 dB below 1: `10 ^ k ≤ (1 / g2) ^ 20`. -/
def downBy (k : Nat) (g2 : Rat) : Bool := decide (10 ^ k * g2.num.toNat ^ 20 ≤ g2.den ^ 20)

/-- The gain lies at least `k + 1/2` steps of 0.5 dB below 1. -/
def downByHalf (k : Nat) (g2 : Rat) : Bool := decide (10 ^ (2 * k + 1) * g2.num.toNat ^ 40 ≤ g2.den ^ 40)

/-- The reduction rounded to the nearest 0.5 dB, saturating at 255 (R321, R326). -/
def stepsDown (g2 : Rat) : Nat := ((List.range 255).filter (fun k => downByHalf k g2)).length

/-! ### Supply clamp (R328) -/

/-- The clamp acts, or its factor still rises. -/
def clampActs (s : State) (x : Supply) : Bool :=
  x.clamp && (match x.riseFrom with | some t => !closed (t + msTu 10) s | none => true)

/-- Running ports of a supply. -/
def supplyRunning (s : State) (t : SupplyTable) : List Nat :=
  (maskList t.mask 24).filter (fun n => (drvOf s n).st == .running)

/-- A SUPPLY_HK result of `mv` mV. -/
def supplyResult (mv : Rat) (s : State) : State :=
  match limitSupply s with
  | none => s
  | some x =>
    let floor : Rat := (x.table.vFloor : Nat)
    let above := decide (105 * floor / 100 < mv)
    let s := if mv < 105 * floor / 100 ∧ !x.floorTold then
        raise 232 (mv / 16).floor.toNat (onSupply x.id (fun y => { y with floorTold := true }) s)
      else if above then onSupply x.id (fun y => { y with floorTold := false }) s else s
    if !supplyClampOn s then s
    else if mv < 102 * floor / 100 then
      let again := clampActs s x && x.riseFrom.isNone
      let s := onSupply x.id (fun y => { y with
        clamp := true, clearFrom := none, riseFrom := none
        clamps := if again then y.clamps else satAdd 65535 y.clamps 1 }) s
      if again then s
      else (supplyRunning s x.table).foldl (fun s n =>
        raise (4 * n + 2) (3 * 256 + max 12 (protOf s n).red) (onProt n (fun p => { p with
          limiting := true, toldCause := 3, holdFrom := none }) s)) s
    else if x.clamp then
      onSupply x.id (fun y => { y with
        clearFrom := if above then (match y.clearFrom with | some t => some t | none => some s.time.now) else none }) s
    else s

end Sys2Proof.Machine
end

