-- ==== Sys2Proof/Machine/Svc.lean ====
section
/-! DEFINITION. The firmware services as shared operations (chapter 17): source selection, the volume policy, Sorrel. -/

namespace Sys2Proof.Machine

open Sys2Proof

/-! ### Open rounding -/

/-- A result whose rounding the spec does not give: below half a step it is the step below, else open between the two
neighbours. -/
def roundOpen (x : Rat) (s : State) : Int × State :=
  let f := x.floor
  if x - (f : Rat) < 1 / 2 then (f, s)
  else let r := freshBool s; (if r.1 then (f + 1, r.2) else (f, r.2))

/-- A gain a node takes; a curve that leads outside the range of R199 gives an open gain. -/
def gainFit (g : Int) (s : State) : Int × State :=
  if gainOk g then (g, s) else let r := freshNat s; ((r.1 % 2881 : Nat) - 2400, r.2)

/-! ### Curves (R317) -/

/-- The line through two points. -/
def lineAt (a b : CurvePt) (x : Rat) : Rat :=
  (a.y : Rat) + ((b.y : Rat) - (a.y : Rat)) * (x - (a.x : Rat)) / ((b.x : Rat) - (a.x : Rat))

/-- Output of a curve: linear between points, the nearest segment beyond the ends. -/
def curveAt : List CurvePt → Rat → Rat
  | [], x => x
  | [a], _ => (a.y : Rat)
  | a :: b :: l, x => if x ≤ (b.x : Rat) ∨ l = [] then lineAt a b x else curveAt (b :: l) x

/-- A curve table installed. -/
def curveOf (s : State) (id : Nat) : Option (List CurvePt) := (s.prot.curves.find? (fun c => c.1 == id)).map (fun c => c.2)

/-- `10 ^ k ≤ r ^ 800`: `r` lies `k` half-steps of 0.05 dB above 1. -/
def pow10Le (k : Int) (r : Rat) : Bool :=
  let n := r.num.toNat ^ 800
  let d := r.den ^ 800
  if 0 ≤ k then decide (10 ^ k.toNat * d ≤ n) else decide (d ≤ n * 10 ^ (-k).toNat)

/-- The largest `k` between `lo` and `hi` with `10 ^ k ≤ r ^ 800`. -/
def halfSteps : Nat → Int → Int → Rat → Int
  | 0, lo, _, _ => lo
  | f + 1, lo, hi, r =>
    let mid := (lo + hi) / 2
    if pow10Le mid r then halfSteps f mid hi r else halfSteps f lo mid r

/-- 20 log10 of a ratio in 0.05 dB (Table 17.4); its rounding and its value at 0 are open. -/
def ratioDb (r : Rat) (s : State) : Int × State :=
  if r ≤ 0 then let x := freshNat s; (-(x.1 : Int), x.2)
  else roundOpen ((halfSteps 17 (-65536) 65536 r : Rat) / 2) s

/-! ### Source selection (R401 to R404) -/

/-- Fields of page 0x1500 (Table 17.6). -/
def srcEn (s : State) : Bool := Page.bit s.svc.page1500 31
def srcManual (s : State) : Bool := Page.bit s.svc.page1500 30
def srcUser (s : State) : Bool := Page.bit s.svc.page1500 29
def srcTargets (s : State) : List Nat :=
  (List.range (Page.get s.svc.page1500 4 4)).map (fun i => Page.get s.svc.page1500 8 8 + i)
def srcLostMs (s : State) : Nat := Page.get s.svc.page1500 48 16
def srcFade (s : State) : Nat := Page.get s.svc.page1500 32 9
def srcDef (s : State) (k : Nat) : Bool := Page.bit s.svc.page1500 (64 + 32 * k + 31)
def srcAux (s : State) (k : Nat) : Bool := Page.bit s.svc.page1500 (64 + 32 * k + 30)
def srcTrim (s : State) (k : Nat) : Int := signedOf 16 (Page.get s.svc.page1500 (64 + 32 * k) 16)
/-- The points of a source. -/
def srcPoints (s : State) (k : Nat) : List Nat :=
  (List.range (Page.get s.svc.page1500 (64 + 32 * k + 24) 4)).map (fun i =>
    Page.get s.svc.page1500 (64 + 32 * k + 16) 8 + i)

/-- A source is active (R402). -/
def srcActive (s : State) (k : Nat) : Bool :=
  srcDef s k && (srcPoints s k).any (fun p => (sourceBits s p).1 && !(silenceOf s p).silent)
    && (!srcAux s k || s.svc.auxPresent)

/-- A selection that waits has been applied, or its fades have ended. -/
def srcFollow (s : State) : State :=
  match s.svc.select with
  | none => s
  | some x =>
    let waits (t : Nat) : Bool := match (targetOf s t).wait with | some w => w.cid.isNone | none => false
    if x.targets.any waits then s
    else
      let s := { s with svc.source := x.source, svc.lowFrom := if x.source = s.svc.source then s.svc.lowFrom else none }
      if x.targets.any (fun t => (targetOf s t).fade.isSome) then s
      else complete x.cid .ok { s with svc.select := none }

/-- A selection is carried out (R401): every target in ascending order. -/
def srcSelect (k : Nat) (cid : Option Nat) (s : State) : State :=
  let old := s.svc.select
  if old.isNone && s.svc.source == k then complete cid .ok s
  else
    let pts := if k < 8 then srcPoints s k else []
    let ts := (srcTargets s).filter (fun t => !targetRetired s t)
    let s := (srcTargets s).zipIdx.foldl (fun s x =>
      if targetRetired s x.1 then s
      else
        let p := pts[x.2]?.bind (fun p => if sourceRetired s p then none else some p)
        routeChange x.1 p (if k < 8 then srcTrim s k else gainStored s x.1) (srcFade s) none s) s
    let s := match old with | some o => complete o.cid .superseded s | none => s
    srcFollow { s with svc.select := some { source := k, targets := ts, cid := cid } }

/-- The default source table (Table 17.3). -/
def srcDefault : List JackEntry :=
  let e (sel : Nat) (tr : List (Nat × Nat)) : JackEntry :=
    { actions := sel, timerMs := 0
      next := (List.range 16).map (fun c => ((tr.find? (fun t => t.1 == c)).map (fun t => t.2)).getD 0xFF) }
  [ e 8 [(0, 1), (1, 2), (2, 3), (3, 4)], e 0 [(8, 0), (9, 0)], e 1 [(0, 1), (8, 0), (9, 0)],
    e 2 [(0, 1), (1, 2), (8, 0), (9, 0)], e 3 [(0, 1), (1, 2), (2, 3), (8, 0), (9, 0)] ]

/-- The table the source machine runs (R403). -/
def srcTable (s : State) : List JackEntry := if srcUser s then s.svc.user.getD srcDefault else srcDefault

/-- At each tu the part notes since when every point of the source in force has carried VALID low (Table 17.1). -/
def lowStep (s : State) : State :=
  if s.svc.source < 8 ∧ (srcPoints s s.svc.source).all (fun p => !(sourceBits s p).1) then
    { s with svc.lowFrom := some (s.svc.lowFrom.getD s.time.now) }
  else { s with svc.lowFrom := none }

/-- Conditions of Table 17.1. -/
def srcCond (s : State) (c : Nat) : Bool :=
  let pts := srcPoints s s.svc.source
  let has := decide (s.svc.source < 8)
  match c with
  | 8 => has && pts.all (fun p => (silenceOf s p).silent)
  | 9 => has && pts.all (fun p => !(sourceBits s p).1) && closedO (s.svc.lowFrom.map (· + msTu (srcLostMs s))) s
  | 10 => s.svc.timer
  | 11 => s.svc.auxPresent
  | 12 => !s.svc.auxPresent
  | 13 => s.svc.hpInUse
  | 14 => !s.svc.hpInUse
  | 15 => true
  | k => srcActive s k

/-- A state of the source machine is entered (R402, Table 17.2). -/
def srcEnter (st : Nat) (s : State) : State :=
  match (srcTable s)[st]? with
  | none => s
  | some e =>
    let s := { s with svc.state := st, svc.timer := false, svc.timerEnd := none }
    let s := if e.actions % 16 ≤ 8 then srcSelect (e.actions % 16) none s else s
    { s with svc.timerEnd := if e.timerMs = 0 then none else some (s.time.now + msTu e.timerMs) }

/-- The timer of a state latches TIMER (R133). -/
def srcTimer (s : State) : State :=
  if closedO s.svc.timerEnd s then { s with svc.timerEnd := none, svc.timer := true } else s

/-- One evaluation of the source machine (R402 to R404). -/
def srcEvaluate (s : State) : State :=
  if !srcEn s || srcManual s then s
  else if s.svc.restart then
    srcEnter 0 { s with svc.restart := false
                        svc.page1500 := Page.put s.svc.page1500 29 1 (b2n s.svc.user.isSome) }
  else match (srcTable s)[s.svc.state]? with
    | none => s
    | some e =>
      match (List.range 16).find? (fun c => srcCond s c && decide (e.next.getD c 0xFF ≠ 0xFF)) with
      | some c => srcEnter (e.next.getD c 0xFF) s
      | none => s

/-- Commands that wait for the end of route changes: source selections and PROT_RESTORE. -/
def routesFollow (s : State) : State :=
  let s := srcFollow s
  let waits (t : Nat) : Bool := (targetOf s t).wait.isSome || (targetOf s t).fade.isSome
  let ended := s.prot.restores.filter (fun r => !r.2.any waits)
  completeAll (ended.map (fun r => r.1)) .ok
    { s with prot.restores := s.prot.restores.filter (fun r => r.2.any waits) }

/-! ### Volume policy (R405, R406) -/

/-- Fields of page 0x1501 (Table 17.7). -/
def volEn (s : State) : Bool := Page.bit s.svc.page1501 31
def volHpMutes (s : State) : Bool := Page.bit s.svc.page1501 30
def volCapEn (s : State) : Bool := Page.bit s.svc.page1501 29
def volCurve (s : State) : Nat := Page.get s.svc.page1501 0 16
def volSupply (s : State) : Nat := Page.get s.svc.page1501 32 16
def volCapCurve (s : State) : Nat := Page.get s.svc.page1501 48 16
def volHpNode (s : State) : Nat := Page.get s.svc.page1501 64 16
def volNode (s : State) : Nat := Page.get s.svc.page1501 80 16
def volMax (s : State) : Int := signedOf 16 (Page.get s.svc.page1501 96 16)
def volLoud (s : State) : Nat := Page.get s.svc.page1501 112 16
def volCapRise (s : State) : Nat := Page.get s.svc.page1501 152 8

/-- The node of the image in force at an index, where it has a type. -/
def svcNode (s : State) (ty n : Nat) : Option GNode :=
  match s.gra.image with
  | some im => (im.nodes[n]?).filter (fun x => x.type == ty)
  | none => none

/-- Gain of a volume through VOL_CURVE (Table 17.4). -/
def volGain (v : Int) (s : State) : Int × State :=
  if v = mute then (mute, s)
  else match curveOf s (volCurve s) with
    | some c => let r := roundOpen (curveAt c (v : Rat)) s; gainFit r.1 r.2
    | none => (v, s)

/-- The supply limiter that the cap needs runs. -/
def capWorks (s : State) : Bool :=
  volCapEn s && (curveOf s (volCapCurve s)).isSome
    && (match limitSupply s with | some x => x.id == volSupply s | none => false)

/-- A service's parameter write (R257). -/
def svcWrite (node ofs : Nat) (data : List Byte) (cid : Option Nat) (s : State) : State :=
  paramQueue { node := node, ofs := ofs, data := data, held := false, cid := cid, by_ := none } s

/-- Writes of one gain into every GAIN_i of a GAIN node. -/
def gainWrite (node : Nat) (g : Int) (cid : Option Nat) (s : State) : State :=
  match svcNode s 2 node with
  | some n => svcWrite node 4 ((List.range n.nin).flatMap (fun _ => i2 g)) cid s
  | none => s

/-- The gains are computed and what has changed is written (R405); nothing is written without a graph or during a
Sorrel run (R406). The last write carries the command. -/
def volFollow (which : Option (Nat × Nat)) (s : State) : State :=
  if !volEn s then s
  else if s.gra.image.isNone || s.svc.sorrel.isSome then { s with svc.owed := true }
  else
    let s := { s with svc.owed := false }
    let r := volGain s.svc.vol s
    let rc := match (if capWorks s then s.svc.cap else none) with
      | some c => (min r.1 c.floor, r.2)
      | none => r
    let g := if s.svc.hpInUse && volHpMutes s then mute else rc.1
    let rh := volGain s.svc.volHp rc.2
    let h := rh.1
    let s := rh.2
    let cidOf (k : Nat) : Option Nat := which.bind (fun x => if x.1 = k then some x.2 else none)
    let gNew := s.svc.gEff != some g
    let hNew := s.svc.gHp != some h
    let s := { s with svc.gEff := some g, svc.gHp := some h }
    let loud := (svcNode s 9 (volLoud s)).isSome
    let s := if gNew then gainWrite (volNode s) g (if loud then none else cidOf 0) s else s
    let s := if gNew && loud then svcWrite (volLoud s) 4 (i2 g) (cidOf 0) s else s
    if hNew then gainWrite (volHpNode s) h (cidOf 1) s else s

/-- The mean of the supply's results since the last evaluation in mV; without a result the latest (R405, R325). -/
def supplyMean (s : State) : Rat :=
  if s.svc.supplyN = 0 then
    match limitSupply s with
    | some x => ((vget s.hk.chans x.table.hk).value : Rat)
    | none => 0
  else (s.svc.supplySum : Rat) / (s.svc.supplyN : Rat)

/-- Every 100 ms the cap is evaluated from the mean of the supply (R405). -/
def capUpdate (s : State) : State :=
  let mv := supplyMean s
  let s := { s with svc.supplyN := 0, svc.supplySum := 0 }
  if !volEn s then s
  else if !capWorks s then volFollow none { s with svc.cap := none }
  else
    let floor : Rat := (((limitSupply s).map (fun x => x.table.vFloor)).getD 1 : Nat)
    let h := ratioDb (mv / floor) s
    let c := curveAt ((curveOf s (volCapCurve s)).getD []) (h.1 : Rat)
    let step : Rat := (volCapRise s : Rat) / 5
    let cap := match s.svc.cap with
      | some o => if c ≤ o then c else min c (o + step)
      | none => c
    volFollow none { h.2 with svc.cap := some cap }

/-! ### Sorrel (R407 to R411) -/

/-- Fields of page 0x1502 (Table 17.8). -/
def sorMix (s : State) : Nat := Page.get s.svc.page1502 0 16
def sorTone (s : State) : Nat := Page.get s.svc.page1502 16 16
def sorBank (s : State) : Nat := Page.get s.svc.page1502 32 8
def sorPoint (s : State) : Nat := Page.get s.svc.page1502 40 8
def sorEq (s : State) : Nat := Page.get s.svc.page1502 48 16
def sorF1 (s : State) : Nat := Page.get s.svc.page1502 64 16
def sorF0 (s : State) : Nat := Page.get s.svc.page1502 80 16
def sorLevel (s : State) : Nat := Page.get s.svc.page1502 96 16
def sorDurMs (s : State) : Nat := Page.get s.svc.page1502 112 16
def sorSections (s : State) : Nat := Page.get s.svc.page1502 156 4
def sorMa (s : State) : Nat := Page.get s.svc.page1502 176 16

/-- Gain of MIX_NODE's input 0 into an output. -/
def mixWrite (o : Nat) (g : Int) (s : State) : State :=
  match svcNode s 3 (sorMix s) with
  | some n => if o < n.nout then svcWrite (sorMix s) (4 + 2 * (o * n.nin)) (i2 g) none s else s
  | none => s

/-- MIX_NODE's input 0 reaches output `c` only. -/
def mixOnly (c : Nat) (s : State) : State :=
  match svcNode s 3 (sorMix s) with
  | some n => (List.range n.nout).foldl (fun s o => mixWrite o (if o = c then 0 else mute) s) s
  | none => s

/-- The next channel asks for its grant, or the run ends (R408). -/
def sorrelEnd (s : State) : State :=
  match s.svc.sorrel with
  | none => s
  | some r =>
    let s := { s with svc.sorrel := none, svc.gEff := none, svc.gHp := none }
    let s := { s with gra.banks := banksNeeded s }
    let s := if volEn s then s else r.saved.foldl (fun s x =>
      if s.gra.image.isSome then svcWrite x.1 0 x.2 none s else s) s
    let s := volFollow none s
    completeP r.cid (if r.refused then .noGrant else .ok) 0 (r.results.toList.flatMap b1) s

/-- A channel's result is recorded. -/
def sorrelPut (c : Nat) (x : SorrelRes) (s : State) : State :=
  { s with
    svc.results := vset s.svc.results c (some x)
    svc.sorrel := s.svc.sorrel.map (fun r => { r with
      results := vset r.results c x.result, left := r.left.filter (fun k => k != c), due := none, limited := false }) }

/-- Ask for the grant of the next channel; `fuel` is at least the channels left. -/
def sorrelNext : Nat → State → State
  | 0, s => s
  | f + 1, s =>
    match s.svc.sorrel with
    | none => s
    | some r =>
      match r.left with
      | [] => sorrelEnd s
      | c :: _ =>
        let s := { s with svc.sorrel := some { r with step := 1, due := none } }
        let a := askGrant (.sorrel (Fin.ofNat 16 c)) r.cid 4 60 (sorMa s) 0xFFFFFF s
        if a.2 = .refused then
          sorrelNext f (sorrelPut c { result := 5 } { a.1 with
            svc.sorrel := a.1.svc.sorrel.map (fun r => { r with refused := true }) })
        else a.1

/-- The grant of a channel is given (Table 17.5 step 2). -/
def sorrelGranted (c : Nat) (s : State) : State :=
  match s.svc.sorrel with
  | none => releaseGrant (.sorrel (Fin.ofNat 16 c)) s
  | some r =>
    let s := { s with svc.sorrel := some { r with step := 2, due := none, limited := false } }
    mixOnly c (gainWrite (volHpNode s) mute none (gainWrite (volNode s) mute none s))

/-- The grant of a channel is refused: NO_GRANT for that channel only (R410). -/
def sorrelRefused (c : Nat) (s : State) : State :=
  match s.svc.sorrel with
  | none => s
  | some r => sorrelNext 17 (sorrelPut c { result := 5 } { s with svc.sorrel := some { r with refused := true } })

/-- At the frame boundary the mutes apply: capture starts, the noise window and then the sweep are laid out (steps 2, 3). -/
def sorrelBoundary (s : State) : State :=
  match s.svc.sorrel with
  | some r =>
    if r.step = 2 then
      let due := s.time.now + msTu 100
      let s := { s with svc.sorrel := some { r with step := 3, due := some due, capture := [] } }
      match svcNode s 13 (sorTone s) with
      | some n => svcWrite (sorTone s) 0 (b1 n.nout ++ b1 2 ++ b2 (sorLevel s) ++ b4 (100 * sorF0 s) ++ b4 (100 * sorF1 s)
          ++ b4 (sorDurMs s) ++ b8 (due - s.time.start)) none s
      | none => s
    else s
  | none => s

/-- A step of a channel ends: the noise window, or the sweep and its capture (steps 3, 4). -/
def sorrelStep (s : State) : State :=
  match s.svc.sorrel with
  | some r =>
    if !closedO r.due s then s
    else if r.step = 3 then
      { s with svc.sorrel := some { r with step := 4, due := some (s.time.now + msTu (sorDurMs s + 200)) } }
    else if r.step = 4 then
      let c := r.left.headD 0
      let s := { s with svc.sorrel := some { r with step := 5, due := none } }
      releaseGrant (.sorrel (Fin.ofNat 16 c)) (mixWrite c mute s)
    else s
  | none => s

/-- The capture takes a 16-bit sample of MIC_POINT at Fh from B to the end of the sweep (R407, Table 17.5). -/
def captureTake (s : State) : State :=
  match s.svc.sorrel with
  | some r =>
    if r.step = 3 ∨ r.step = 4 then
      { s with svc.sorrel := some { r with
          capture := BitVec.ofInt 16 ((vget s.fab.src (sorPoint s)).v / 65536) :: r.capture } }
    else s
  | none => s

/-- A captured sample reached full scale (R409). -/
def captureClipped (l : List (BitVec 16)) : Bool := l.any (fun x => x == 0x7FFF || x == 0x8000)

/-- One pass-through section. -/
def passSection : List Byte := leBytes 4 0x3F800000 ++ List.replicate 16 0

/-- Analysis of a channel ends (step 5, R409): what it finds in the capture and the sections it places. Where more than one
code holds, which is reported is open. -/
def sorrelAnalysed (s : State) : State :=
  match s.svc.sorrel with
  | some r =>
    if r.step ≠ 5 then s
    else
      let c := r.left.headD 0
      let (snr, residual, delay, sections) := Config.sorrel r.capture.reverse (leBytes 24 s.svc.page1502.toNat) (fhHz s)
      let codes := (if snr < 200 then [1] else []) ++ (if captureClipped r.capture then [2] else [])
        ++ (if r.limited then [3] else [])
      let pick := freshNat s
      let s := if 1 < codes.length then pick.2 else s
      let code := if codes = [] then 0 else codes.getD (if 1 < codes.length then pick.1 % codes.length else 0) 1
      let secs := sections.take (20 * (min (sorSections s) (sections.length / 20)))
      let s := match svcNode s 4 (sorEq s) with
        | some n =>
          if code = 0 then
            let per := n.u8 1
            svcWrite (sorEq s) (4 + 20 * (c * per))
              ((secs ++ (List.range per).flatMap (fun _ => passSection)).take (20 * per)) none s
          else s
        | none => s
      sorrelNext 17 (sorrelPut c { result := code, residual := residual, delay := delay, snr := snr
                                   sections := if code = 0 then secs else [] } s)
  | none => s

/-- A run stops at once (R410): the channel being measured and those left report ABORTED. -/
def sorrelAbort (s : State) : State :=
  match s.svc.sorrel with
  | none => s
  | some r =>
    let c := r.left.headD 0
    let s := releaseGrant (.sorrel (Fin.ofNat 16 c)) s
    let s := if 2 ≤ r.step ∧ r.step ≤ 4 then mixWrite c mute s else s
    sorrelEnd (r.left.foldl (fun s c => sorrelPut c { result := 4 } s) s)

end Sys2Proof.Machine
end

