-- ==== Sys2Proof/Machine/GraphRows.lean ====
section
/-! DEFINITION. Meanings of the graph commands (chapter 10) and of the fill of a switch. -/

namespace Sys2Proof.Machine

open Sys2Proof

/-- GRAPH_STATUS_GET (R254): LATE is cleared by the read. -/
def execGraphStatusGet (q : Req) (s : State) : Out :=
  .next (serve { code := 0x0E00, owner := false, report := true, len := lenIs 0 }
    (fun _ _ s =>
      let g := s.gra
      let st := if g.image.isNone then 0 else if g.paused || hallShut 4 s then 2 else if g.commit.isSome then 3 else 1
      let im := g.image.getD default
      let has := g.image.isSome
      ({ s with gra.late := 0 },
       ans .ok (b1 st ++ b1 g.pause ++ b2 im.id ++ b1 (frameSize s) ++ b1 (if has then minLevel (fhHz s) im else 0xFF)
         ++ b2 im.nodes.length ++ b2 (if has then sat 16 (loadMilli s.pwr.level (fhHz s) im) else 0) ++ rz 2
         ++ b4 g.late ++ b4 (if has then totalCyc (fhHz s) im else 0) ++ b4 im.banks))) q s)

/-- GRAPH_RUN (R246). -/
def execGraphRun (q : Req) (s : State) : Out :=
  .next (serve { code := 0x0E01, owner := true, len := lenIs 4, halls := needDSP,
                 fields := fun q _ => within 0 1 (q.u8 0) && zeros q 1 3 }
    (fun cid q s =>
      if s.gra.image.isNone then (s, ans .notReady)
      else if s.gra.pause.testBit causeHost == (q.u8 0 == 0) then (s, ans .ok)
      else
        let s := if q.u8 0 = 0 then pauseSet causeHost (sorrelAbort s) else pauseClear causeHost s
        ({ s with gra.runs := s.gra.runs ++ [cid] }, ans .pending)) q s)

/-- GRAPH_METER_READ (R248): PEAK starts again with the read. -/
def execGraphMeterRead (q : Req) (s : State) : Out :=
  .next (serve { code := 0x0E02, owner := false, report := true, len := lenIs 4, halls := needDSP,
                 fields := fun q s => zeros q 2 2 && (match s.gra.image with
                   | some im => decide (q.u16 0 < im.nodes.length) && (nodeAt im (q.u16 0)).type == 12
                   | none => true) }
    (fun _ q s =>
      match s.gra.image with
      | none => (s, ans .notReady)
      | some im =>
        let n := q.u16 0
        let chans := List.range (nodeAt im n).nin
        let of_ (c : Nat) : MeterCh := match s.gra.meters.find? (fun m => m.1 == n && m.2.1 == c) with
          | some m => m.2.2
          | none => {}
        ({ s with gra.meters := s.gra.meters.map (fun m =>
             if m.1 = n then (m.1, m.2.1, { m.2.2 with peak := m.2.2.level }) else m) },
         ans .ok (b2 n ++ b1 chans.length ++ rz 1 ++ chans.flatMap (fun c => i2 (of_ c).level ++ i2 (of_ c).peak)))) q s)

/-- Bytes staged after one more piece, none where it does not continue (GRAPH_IMAGE_WRITE, BOOT_IMAGE_WRITE). -/
def stagePiece (old : List Byte) (ofs : Nat) (data : List Byte) : Option (List Byte) :=
  let base := if ofs = 0 then [] else old
  if ofs ≠ base.length ∨ 262144 < ofs + data.length then none else some (base ++ data)

/-- GRAPH_IMAGE_WRITE (R255). -/
def execGraphImageWrite (q : Req) (s : State) : Out :=
  .next (serve { code := 0x0E80, owner := true, len := fun k => within 9 248 k, halls := needDSP,
                 fields := fun q _ => zeros q 4 4 }
    (fun _ q s =>
      if s.own.mbxLock then (s, ans .busy)
      else match stagePiece s.own.mbxStage (q.u32 0) (q.payload.drop 8) with
      | some b => ({ s with own.mbxStage := b }, ans .ok)
      | none => (s, ans .badParam)) q s)

/-- The image a commit reads: mailbox staging, ring staging, or flash. -/
def commitBytes (s : State) (source addr : Nat) : List Byte :=
  match source with
  | 0 => s.own.mbxStage
  | 1 => s.gra.ringStage
  | _ => memReadList s.boot.flash addr (max 64 (min 262144 (leNat (memReadList s.boot.flash (addr + 8) 4))))

/-- GRAPH_IMAGE_COMMIT (R255, R259). -/
def execGraphImageCommit (q : Req) (s : State) : Out :=
  .next (serve { code := 0x0E81, owner := true, len := lenIs 16, halls := needDSP,
                 fields := fun q _ => decide (q.u8 0 < 3) && zeros q 1 3 && (q.u8 0 == 2 || q.u32 4 == 0) }
    (fun cid q s =>
      if s.gra.commit.isSome then (s, ans .busy)
      else if q.u8 0 = 2 ∧ !Page.bit s.boot.page1600 31 then (s, ans .notReady)
      else
        let b := commitBytes s (q.u8 0) (q.u32 4)
        let im := readImage b
        let fh := fhHz s
        match imageFail b s with
        | some (r, n) =>
          let known := decide (4 ≤ r)
          let resp := commitResp r (if known then minLevel fh im else 0xFF) n
            (if known then sat 16 (loadMilli s.pwr.level fh im) else 0)
          (if 4 ≤ r then raise 216 n s else s, ans .badParam resp)
        | none =>
          let late := decide (q.u64 8 ≠ 0 ∧ atDev s (q.u64 8) ≤ boundaryTu s)
          let resp := commitResp 0 (minLevel fh im) 0xFFFF (loadMilli s.pwr.level fh im)
          let c : Commit := { image := im, at_ := whenNamed (q.u64 8) s, late := late, step := .grant, began := s.time.now
                              cid := some cid, resp := resp }
          (commitStart c q.m.val s, { status := .pending, flags := 128 * b2n late, payload := resp })) q s)

/-- GRAPH_PARAM_WRITE (R257). -/
def execGraphParamWrite (q : Req) (s : State) : Out :=
  .next (serve { code := 0x0E82, owner := true, len := fun k => within 9 240 k, halls := needDSP,
                 fields := fun q s => decide (q.u8 2 < 2) && zeros q 3 1 && (match s.gra.image with
                   | some im => paramWriteOk s im (q.u16 0) (q.u32 4) (q.payload.drop 8)
                   | none => true) }
    (fun cid q s =>
      let held := s.gra.writes.filter (fun w => w.held)
      let bytes := (held.map (fun w => w.data.length)).foldl (· + ·) 0
      if s.gra.image.isNone then (s, ans .notReady)
      else if q.u8 2 = 1 ∧ (64 ≤ held.length ∨ 4096 < bytes + (q.len - 8)) then (s, ans .busy)
      else
        (paramQueue { node := q.u16 0, ofs := q.u32 4, data := q.payload.drop 8, held := q.u8 2 == 1
                      cid := some cid, by_ := some q.m } s, ans .pending)) q s)

/-- GRAPH_PARAM_READ (R257). -/
def execGraphParamRead (q : Req) (s : State) : Out :=
  .next (serve { code := 0x0E83, owner := false, report := true, len := lenIs 12, halls := needDSP,
                 fields := fun q s => zeros q 2 2 && within 1 232 (q.u16 8) && zeros q 10 2 && (match s.gra.image with
                   | some im => decide (q.u16 0 < im.nodes.length
                       ∧ q.u32 4 + q.u16 8 ≤ (nodeAt im (q.u16 0)).param.length)
                   | none => true) }
    (fun _ q s =>
      match s.gra.image with
      | none => (s, ans .notReady)
      | some im =>
        (s, ans .ok (q.payload ++ sliceBytes (nodeAt im (q.u16 0)).param (q.u32 4) (q.u16 8)))) q s)

/-- GRAPH_SWITCH_FILL_DONE (Table 10.8 step 4b): the regions are zeroed and filled once the old graph's last item has
retired. -/
def execGraphSwitchFillDone (s : State) : Out :=
  .next (
    if !hallRuns s hDSP then s else
    match s.gra.commit with
    | some c =>
      if c.step = .fill ∧ s.sch.ops = [] ∧ s.sch.store = [] ∧ s.sch.spill = [] then
        { s with gra.commit := some { c with step := .start, began := s.time.now } }
      else s
    | none => s)

end Sys2Proof.Machine
end

