-- ==== Sys2Proof/Machine/JackRows.lean ====
section
/-! DEFINITION. Meanings of the jack rows: detectors, machines, load measurement (R129 to R138). -/

namespace Sys2Proof.Machine

open Sys2Proof

def jackOf (s : State) (k : Nat) : Jack := vget s.ana.jacks k
def onJack (k : Nat) (f : Jack → Jack) (s : State) : State := { s with ana.jacks := vupd s.ana.jacks k f }

/-- Fields of JDk in page 0x0600 (Table 5.13). -/
def jdEn (s : State) (k : Nat) : Bool := Page.bit s.ana.page0600 (32 * k)
def jdPol (s : State) (k : Nat) : Bool := Page.bit s.ana.page0600 (32 * k + 1)
def jdDebounce (s : State) (k : Nat) : Nat := Page.get s.ana.page0600 (32 * k + 8) 8

/-- A ball level shows a plug (R132). -/
def plugAt (s : State) (k : Nat) (level : Bool) : Bool := level == jdPol s k

/-- The detectors run in the active states only (R138). -/
def jackRuns (s : State) (k : Nat) : Bool := jdEn s k && hallRuns s hANA

/-- An entry with transitions written as (condition, state). -/
def jackEntry (actions timerMs : Nat) (tr : List (Nat × Nat)) : JackEntry :=
  { actions := actions, timerMs := timerMs,
    next := (List.range 16).map (fun c => ((tr.find? (fun p => p.1 == c)).map (fun p => p.2)).getD 0xFF) }

/-- The default tables (Tables 5.9 and 5.10). -/
def jackDefault : Nat → List JackEntry
  | 0 =>
    [ jackEntry 0x12 0 [(0, 1)],
      jackEntry 0 300 [(1, 0), (2, 2)],
      jackEntry 0x04 0 [(1, 6), (3, 3), (4, 4), (5, 3), (6, 5), (7, 4), (13, 4)],
      jackEntry 0x09 0 [(1, 6), (7, 4), (13, 4)],
      jackEntry 0x12 0 [(1, 6)],
      jackEntry 0 500 [(1, 6), (2, 2)],
      jackEntry 0x12 0 [(0, 1), (14, 0)] ]
  | _ =>
    [ jackEntry 0x40 0 [(0, 1)],
      jackEntry 0 200 [(1, 0), (2, 2)],
      jackEntry 0x20 0 [(1, 0)] ]

/-- The table a machine runs (R136, R137). -/
def jackTable (s : State) (k : Nat) : List JackEntry :=
  let j := jackOf s k
  if j.useUser then j.user.getD (jackDefault k) else jackDefault k

/-- The worse class of the two channels in the last completed measurement (R129, R133). -/
def worseClass (s : State) : Nat := s.ana.condClass

/-- The conditions of Table 5.6. -/
def jackCond (s : State) (k c : Nat) : Bool :=
  let j := jackOf s k
  let o := jackOf s (1 - k)
  let cls := worseClass s
  match c with
  | 0 => j.present
  | 1 => !j.present
  | 2 => j.latch.timer
  | 3 => j.loadValid && cls == 1
  | 4 => j.loadValid && (cls == 2 || cls == 5)
  | 5 => j.loadValid && cls == 3
  | 6 => j.loadValid && cls == 4
  | 7 => j.latch.hpShort
  | 8 => j.latch.hostGo
  | 9 => j.latch.hostStop
  | 10 => o.present
  | 11 => !o.present
  | 12 => (fnOf s 4).st == .on && (fnOf s 5).st == .on
  | 13 => j.latch.hpFail
  | 14 => (fnOf s 4).st == .off && (fnOf s 5).st == .off
  | 15 => true
  | _ => false

/-- One action of Table 5.7; it acts where the control field names this machine (R134). -/
def jackAction (k bit : Nat) (s : State) : State :=
  let hp := hpCtrl s == k + 1
  let mb (n : Nat) : Bool := mbCtrl s n == k + 1
  let on2 (s : State) : State := (enableSet [4, 5] none 4 s).1
  match bit with
  | 0 => if hp && !s.pwr.shut then on2 s else s
  | 1 => if hp then
      [4, 5].foldl (fun s i => disableFn i s) s
      else s
  | 2 =>
    let s := onJack k (fun j => { j with loadValid := false }) s
    if hp && s.ana.measure.isNone && !s.pwr.shut then measureStart none 4 s else s
  | 3 => { s with svc.hpInUse := true }
  | 4 => { s with svc.hpInUse := false }
  | 5 => { s with svc.auxPresent := true }
  | 6 => { s with svc.auxPresent := false }
  | 7 => if mb 0 && !s.pwr.shut then (enableFn 7 none 4 s).1 else s
  | 8 => if mb 0 then disableFn 7 s else s
  | 9 => if mb 1 && !s.pwr.shut then (enableFn 8 none 4 s).1 else s
  | 10 => if mb 1 then disableFn 8 s else s
  | _ => s

/-- A state is entered (R133): the event, latches cleared, actions in ascending bit order, the timer. -/
def jackEnter (k st : Nat) (s : State) : State :=
  match (jackTable s k)[st]? with
  | none => s
  | some e =>
    let s := raise (136 + k) st s
    let s := onJack k (fun j => { j with state := st, latch := {}, timerEnd := none }) s
    let s := (maskList e.actions 11).foldl (fun s b => jackAction k b s) s
    let s := onJack k (fun j => { j with
      timerEnd := if e.timerMs = 0 then none else some (s.time.now + msTu e.timerMs) }) s
    anaJobsDone s

/-- One evaluation (R133, R136): a waiting selection, else the first condition that holds and is tested. -/
def jackEvaluate (k : Nat) (s : State) : State :=
  let j := jackOf s k
  match j.select with
  | some (useUser, cid) =>
    let s := onJack k (fun j => { j with useUser := useUser, select := none }) s
    let s := { s with ana.page0600 := Page.put s.ana.page0600 (32 * k + 3) 1 (b2n useUser) }
    complete cid .ok (jackEnter k 0 s)
  | none =>
    match (jackTable s k)[j.state]? with
    | none => s
    | some e =>
      match (List.range 16).find? (fun c => jackCond s k c && decide (e.next.getD c 0xFF ≠ 0xFF)) with
      | some c => jackEnter k (e.next.getD c 0xFF) s
      | none => s

/-- A machine restarts in state 0 after a wake, its debounce from the level then present (R138). The restart enters no state
in the sense of R133: no E136 or E137, no actions, no timer; PRESENT keeps its value until the debounce ends (DESIGN CHOICE,
log entry "Jack machine restart"). -/
def jackRestart (k : Nat) (s : State) : State :=
  onJack k (fun j => { j with state := 0, latch := {}, timerEnd := none, loadValid := false,
                              window := some (s.time.now + msTu (jdDebounce s k), j.level) }) s

/-- The debounce window of a detector closes (R132, R131, R133). A measurement begun while the detector already shows no
plug is not stopped by it: only a change to absent is a report (DESIGN CHOICE, log entry "Measurement corners"). Class NONE
holds from an insertion (Table 5.5), at the detector that HP_CTRL names; with HP_CTRL 0 the table does not say whose
insertion counts, and none does (DESIGN CHOICE, log entry "Whose insertion clears the class"). -/
def jdSettle (k : Nat) (s : State) : State :=
  match (jackOf s k).window with
  | none => s
  | some (due, level) =>
    if !jackRuns s k || !closed due s then s
    else
      let there := plugAt s k level
      let was := (jackOf s k).present
      let s := onJack k (fun j => { j with
        window := none, present := there, loadValid := j.loadValid && (there || !was) }) s
      if hpCtrl s != k + 1 then s
      else if was && !there then measureAbort s
      else if there && !was then { s with ana.zl := 0, ana.zr := 0, ana.classL := 0, ana.classR := 0 }
      else s

/-- JD_LEVEL_CHANGE (R132); a window that closes at this tu is closed first (R82). -/
def execJdLevelChange (k : Fin 2) (level : Bool) (s : State) : Out :=
  .next (
    let s := onJack k.val (fun j => { j with level := level }) (jdSettle k.val s)
    if !jackRuns s k.val then s
    else onJack k.val (fun j => { j with
      window := some (s.time.now + msTu (jdDebounce s k.val), level) }) s)

/-- JD_DEBOUNCE_END (R132, R131, R133). -/
def execJdDebounceEnd (k : Fin 2) (s : State) : Out := .next (if !hallRuns s hANA then s else jdSettle k.val s)

/-- The timer of a state latches TIMER (R133). -/
def jackTimer (k : Nat) (s : State) : State :=
  if closedO (jackOf s k).timerEnd s && hallRuns s hANA then
    onJack k (fun j => { j with timerEnd := none, latch.timer := true }) s
  else s

/-- JACK_EVALUATION (R133): every 1 ms; windows that close at this tu are closed first (R82). -/
def execJackEvaluation (k : Fin 2) (s : State) : Out :=
  .next (if jackRuns s k.val && devTime s % tuPerMs == 0 then
      let t := laneFollow (jackEvaluate k.val (jackTimer k.val (jdSettle 1 (jdSettle 0 s))))
      if t.svc.hpInUse == s.svc.hpInUse then t else volFollow none t
    else s)

/-- JACK_STATE_TIMER (R133): the timer latches TIMER. -/
def execJackStateTimer (k : Fin 2) (s : State) : Out := .next (if !hallRuns s hCTRL then s else jackTimer k.val s)

def jackStatus (s : State) : List Byte :=
  ([0, 1].flatMap (fun k => let j := jackOf s k
    b1 j.state ++ b1 (b2n j.present) ++ b1 (b2n j.level) ++ b1 (b2n j.useUser)))
  ++ b2 s.ana.zl ++ b2 s.ana.zr ++ b1 s.ana.classL ++ b1 s.ana.classR ++ rz 2

/-- JACK_STATUS_GET (R133). -/
def execJackStatusGet (q : Req) (s : State) : Out :=
  .next (report { code := 0x0600, owner := false, report := true, len := lenIs 0 } (fun _ s => jackStatus s) q s)

/-- JACK_HOST_SIGNAL (R133): latches HOST_GO or HOST_STOP. -/
def execJackHostSignal (q : Req) (s : State) : Out :=
  .next (serve { code := 0x0601, owner := true, len := lenIs 4, halls := needANA,
                 fields := fun q _ => decide (q.u8 0 < 2 ∧ (q.u8 1 = 1 ∨ q.u8 1 = 2)) && zeros q 2 2 }
    (fun _ q s => (onJack (q.u8 0) (fun j =>
      if q.u8 1 = 1 then { j with latch.hostGo := true } else { j with latch.hostStop := true }) s, ans .ok)) q s)

/-- JACK_HP_MEASURE (R129, R131). -/
def execJackHpMeasure (q : Req) (s : State) : Out :=
  .next (serve { code := 0x0602, owner := true, len := lenIs 0, halls := needANA }
    (fun cid q s =>
      if s.ana.measure.isSome ∨ (fnOf s 4).st = .fault ∨ (fnOf s 5).st = .fault ∨ s.pwr.shut then (s, ans .busy)
      else
        let s := measureStart (some cid) q.m.val s
        if s.ana.measure.isNone then (s, ans .noGrant) else (s, ans .pending (rz 8))) q s)

/-- JACK_TABLE_SELECT (R136). -/
def execJackTableSelect (q : Req) (s : State) : Out :=
  .next (serve { code := 0x0680, owner := true, len := lenIs 4, halls := needANA,
                 fields := fun q s => decide (q.u8 0 < 2 ∧ q.u8 1 < 2) && zeros q 2 2
                   && (q.u8 1 == 0 || (jackOf s (q.u8 0)).user.isSome) }
    (fun cid q s =>
      let k := q.u8 0
      let old := (jackOf s k).select
      let s := onJack k (fun j => { j with select := some (q.u8 1 == 1, some cid) }) s
      (match old with | some (_, c) => complete c .superseded s | none => s, ans .pending)) q s)

end Sys2Proof.Machine
end

