-- ==== Sys2Proof/Machine/Hk.lean ====
section
/-! DEFINITION. The housekeeping converter as shared operations (chapter 15). -/

namespace Sys2Proof.Machine

open Sys2Proof

/-! ### Fields (Tables 15.3 to 15.5) -/

def hkEn (s : State) : Bool := Page.bit s.hk.page1300 31
def hkRef (s : State) : Nat := Page.get s.hk.page1300 29 2
def hkLen (s : State) : Nat := Page.get s.hk.page1300 24 5
def hkTrig (s : State) : Nat := Page.get s.hk.page1300 21 3
def hkTimer (s : State) : Nat := Page.get s.hk.page1300 32 25
def hkRefMv (s : State) : Nat := Page.get s.hk.page1300 80 16
def hkSettle (s : State) : Nat := Page.get s.hk.page1300 72 8
def hkEntryAcq (s : State) (k : Nat) : Nat := Page.get s.hk.page1300 (96 + 8 * k + 6) 2
def hkEntryCh (s : State) (k : Nat) : Nat := Page.get s.hk.page1300 (96 + 8 * k) 5
def hkTempHi (s : State) : Int := (Page.get s.hk.page1300 248 8 : Nat)
def hkTempHyst (s : State) : Int := (Page.get s.hk.page1300 240 8 : Nat)
def slotEn (s : State) (k : Nat) : Bool := Page.bit s.hk.page1301 (32 * k + 31)
def slotTrig (s : State) (k : Nat) : Nat := Page.get s.hk.page1301 (32 * k + 28) 3
def hkHigh (s : State) (c : Nat) : Nat := Page.get s.hk.page1302 (64 * c + 20) 12
def hkLowPage (s : State) (c : Nat) : Nat := Page.get s.hk.page1302 (64 * c + 8) 12
def hkHyst (s : State) (c : Nat) : Nat := Page.get s.hk.page1302 (64 * c + 4) 4
def hkWinEn (s : State) (c : Nat) : Bool := Page.bit s.hk.page1302 (64 * c + 3)
def hkWatch (s : State) (c : Nat) : Bool := Page.bit s.hk.page1302 (64 * c + 2)
def hkFaultEn (s : State) (c : Nat) : Bool := Page.bit s.hk.page1302 (64 * c + 1)
def hkScale (s : State) (c : Nat) : Nat := Page.get s.hk.page1302 (64 * c + 48) 16

def hkCh (s : State) (c : Nat) : HkCh := vget s.hk.chans c
def onHk (c : Nat) (f : HkCh → HkCh) (s : State) : State := { s with hk.chans := vupd s.hk.chans c f }

/-- V_ref in mV (R360). -/
def hkVref (s : State) : Nat := if hkRef s = 0 then 1250 else if hkRef s = 1 then hkRefMv s else 1800

/-- REF_SETTLED of the selected reference. -/
def hkSettled (s : State) : Bool := vget s.hk.settled (hkRef s)

/-- The channel Tansy takes slot 3 for (R368). -/
def tansySlot (s : State) : Option Nat := (limitSupply s).map (fun x => x.table.hk)

/-- Channel and ACQ of a slot. -/
def slotCh (s : State) (k : Nat) : Nat :=
  if k = 3 then (tansySlot s).getD (Page.get s.hk.page1301 96 5) else Page.get s.hk.page1301 (32 * k) 5
def slotAcq (s : State) (k : Nat) : Nat :=
  if k = 3 ∧ (tansySlot s).isSome then 0 else Page.get s.hk.page1301 (32 * k + 26) 2

/-- Acquisition and conversion times in tu (Table 15.2). -/
def acqTu (a : Nat) : Nat := [3, 12, 49, 196].getD a 0
def convTu (a : Nat) : Nat := [13, 22, 59, 206].getD a 0

/-- Bits of page 0x1300 that R366 holds back: the sequence and its trigger. -/
def seqMask : Nat := 0x9FE3FFFF + 0xFFFFFFFF * 2 ^ 32 + (2 ^ 128 - 1) * 2 ^ 96

/-! ### What runs next -/

/-- A held sequence configuration takes effect; a pending trigger is discarded (R366). -/
def seqTake (s : State) : State :=
  match s.hk.next1300 with
  | some p => completeAll s.hk.seqCids .ok { s with
      hk.page1300 := BitVec.ofNat 256 (mergeBits s.hk.page1300.toNat p seqMask), hk.next1300 := none, hk.trig := false
      hk.seqCids := [] }
  | none => s

/-- A pass ends: E120 with the entries converted, then a pending pass (R364 to R366). -/
def passEnd (s : State) : State :=
  let s := raise 120 s.hk.done s
  let s := seqTake { s with hk.pass := false, hk.entry := 0, hk.aborted := false }
  if s.hk.trig && hkEn s then { s with hk.trig := false, hk.pass := true, hk.entry := 0, hk.done := 0 } else s

/-- A change of REF takes effect (R361). -/
def refTake (s : State) : State :=
  match s.hk.nextRef with
  | none => s
  | some r =>
    completeAll s.hk.refCids .ok { s with
      hk.page1300 := Page.put s.hk.page1300 29 2 r, hk.nextRef := none, hk.refSince := s.time.now, hk.refBad := false
      hk.refCids := []
      hk.settled := vmapi s.hk.settled (fun i b => if i = 0 then b else false) }

/-- A conversion begins. -/
def hkBegin (run : HkRun) (acq : Nat) (s : State) : State :=
  { s with hk.run := some run, hk.began := s.time.now, hk.due := s.time.now + convTu acq }

/-- The sequence stays enabled after the running conversion: a change that waits may disable it (R366). -/
def seqStays (s : State) : Bool :=
  match s.hk.next1300 with
  | some p => p.testBit 31
  | none => hkEn s

/-- The converter is free: pending slots in ascending order, then a calibration, then the pass goes on (R367, R369). -/
def hkNext (s : State) : State :=
  if s.hk.run.isSome then s
  else
    let s := refTake s
    if s.hk.gated || !hkSettled s then s
    else match (maskList s.hk.inj 4).head? with
    | some k => hkBegin (.injected k) (slotAcq s k) { s with hk.inj := s.hk.inj - 2 ^ k }
    | none =>
      match s.hk.calWait with
      | some cid =>
        { s with hk.run := some (.calibrating (s.time.now + 983)), hk.calWait := none, hk.calCid := cid
                 hk.began := s.time.now, hk.due := s.time.now + 983 }
      | none =>
        if !s.hk.pass then s
        else if !seqStays s then passEnd s
        else hkBegin (.regular s.hk.entry) (hkEntryAcq s s.hk.entry) { s with hk.aborted := false }

/-- Slots whose new configuration waits take it once they are idle (R376). -/
def slotsTake (s : State) : State :=
  let s := [0, 1, 2, 3].foldl (fun s k =>
    match vget s.hk.next1301 k with
    | some w =>
      if s.hk.inj.testBit k || s.hk.run == some (.injected k) then s
      else { s with
        hk.page1301 := Page.put s.hk.page1301 (32 * k) 32 w, hk.next1301 := vset s.hk.next1301 k none }
    | none => s) s
  if s.hk.next1301.toList.all (fun w => w.isNone) then completeAll s.hk.slotCids .ok { s with hk.slotCids := [] } else s

/-! ### Triggers (R362, R364, R365, R367) -/

/-- A trigger of the regular sequence: the state and the OUTCOME of HK_TRIGGER. -/
def seqTrigger (s : State) : State × Nat :=
  if !s.hk.pass then (hkNext { s with hk.pass := true, hk.entry := 0, hk.done := 0 }, 0)
  else if !s.hk.trig then ({ s with hk.trig := true }, 1)
  else
    let n := satAdd 65535 s.hk.overrun 1
    (raise 131 n { s with hk.overrun := n }, 2)

/-- A trigger of slot `k`: a regular conversion is aborted, E129 unless the slot is Tansy's. -/
def slotTrigger (k : Nat) (s : State) : State × Nat :=
  if s.hk.inj.testBit k || s.hk.run == some (.injected k) then
    ({ s with hk.injOvr := vupd s.hk.injOvr k (satAdd 255 1) }, 2)
  else
    let s := { s with hk.inj := s.hk.inj + 2 ^ k }
    match s.hk.run with
    | some (.regular e) =>
      let quiet := k == 3 && (tansySlot s).isSome
      let s := { s with hk.run := none, hk.aborted := true, hk.aborts := satAdd (2 ^ 32 - 1) s.hk.aborts 1 }
      (hkNext (if quiet then s else raise 129 e s), 0)
    | some _ => (s, 1)
    | none => (hkNext s, 0)

/-- A hardware trigger refused while the reference is not settled (R362). -/
def hkRefuse (s : State) : State := { s with hk.refused := satAdd 65535 s.hk.refused 1 }

/-! ### Results (R360, R370 to R374) -/

/-- To the nearest whole number; which neighbour an exact half takes is open. -/
def roundNear (x : Rat) (s : State) : Int × State :=
  let f := x.floor
  if x - (f : Rat) < 1 / 2 then (f, s)
  else if 1 / 2 < x - (f : Rat) then (f + 1, s)
  else let r := freshBool s; (if r.1 then (f + 1, r.2) else (f, r.2))

/-- VALUE of a code (R360). -/
def hkValue (c code : Nat) (s : State) : Int × State :=
  if c = 16 ∨ c = 17 then (Config.dieTemp (c - 16) code, s)
  else
    let scale := if c < 16 then hkScale s c else 100 * hkDivider c
    let r := roundNear (((code * hkVref s * scale : Nat) : Rat) / 409600) s
    (if c = 23 then -r.1 else r.1, r.2)

/-- DVDD of a level in mV (Table 16.1). -/
def levelMv (l : Nat) : Nat := [600, 650, 720, 800, 900].getD l 0

/-- The level whose DVDD channel 20 is held against: that in force, or of a rise the new one once DVDD_OK has confirmed it
(R372). -/
def dvddLevel (s : State) : Nat :=
  match s.pwr.change with
  | some x => if x.source < x.target ∧ x.step ≠ .grant ∧ x.step ≠ .settleUp then x.target else s.pwr.level
  | none => s.pwr.level

/-- VALUE lies in the alarm range of Table 15.1. -/
def alarmInside (s : State) (c : Nat) (v : Int) : Bool :=
  match c with
  | 18 => withinI 3000 3600 v
  | 19 => withinI 1620 1980 v
  | 20 => decide (95 * (levelMv (dvddLevel s) : Int) ≤ 100 * v ∧ 100 * v ≤ 108 * (levelMv (dvddLevel s) : Int))
  | 21 => if s.hk.iovdd33.getD false then withinI 2970 3630 v else withinI 1620 1980 v
  | 22 => withinI 1620 1980 v
  | 23 => withinI (-2000) (-1500) v
  | _ => true

/-- The alarm check of a channel is suspended (R372). -/
def alarmOff (s : State) (c : Nat) : Bool :=
  match c with
  | 19 => hkRef s == 2
  | 20 => match s.pwr.change with
    | some x => if x.source < x.target then x.step == .settleUp else x.step != .grant
    | none => false
  | 23 => (fnOf s 6).st != .on
  | c => decide (c < 18)

/-- LOW in force: Tansy's 1.02 × V_FLOOR, rounded up, or the page's (R371, R328). -/
def hkLow (s : State) (c : Nat) : Nat :=
  match limitSupply s with
  | some x =>
    if x.table.hk = c ∧ supplyClampOn s then
      let scale := if c < 16 then hkScale s c else 100 * hkDivider c
      cdiv (102 * x.table.vFloor * 4096) (hkVref s * scale)
    else hkLowPage s c
  | none => hkLowPage s c

/-- Window state after a result (R371). -/
def windowNext (s : State) (c code : Nat) : HkWin :=
  let hi : Int := hkHigh s c
  let lo : Int := hkLow s c
  let x : Int := code
  if hi < x then .above
  else if x < lo then .below
  else match (hkCh s c).win with
    | .above => if x ≤ hi - (hkHyst s c : Int) then .inside else .above
    | .below => if lo + (hkHyst s c : Int) ≤ x then .inside else .below
    | .inside => .inside

/-- The window comparison and its event. -/
def hkWindow (c code : Nat) (s : State) : State :=
  if !hkWinEn s c then s
  else
    let w := windowNext s c code
    if w = (hkCh s c).win then s
    else raise 125 (c * 256 + (match w with | .above => 1 | .below => 2 | .inside => 3)) (onHk c (fun h => { h with win := w }) s)

/-- The supply alarm (R372). -/
def hkAlarm (c : Nat) (v : Int) (s : State) : State :=
  let s := if c = 21 ∧ s.hk.iovdd33.isNone then { s with hk.iovdd33 := some (decide (2500 ≤ v)) } else s
  if alarmOff s c then s
  else
    let out := !alarmInside s c v
    if out == (hkCh s c).alarm then s else raise 133 c (onHk c (fun h => { h with alarm := out }) s)

/-- The die-temperature event (R373). -/
def hkDie (c : Nat) (v : Int) (s : State) : State :=
  let sensor := c - 16
  let hot := (hkCh s c).alarm
  if !hot && decide (10 * hkTempHi s < v) || hot && decide (v < 10 * (hkTempHi s - hkTempHyst s)) then
    let t := roundNear ((v : Rat) / 10) s
    raise 132 (sensor * 256 + (t.1 + 64).toNat) (onHk c (fun h => { h with alarm := !hot }) t.2)
  else s

/-- Runs of 16 results all 0 or all 4,095 (R374). -/
def hkFault (c code : Nat) (s : State) : State :=
  let s := onHk c (fun h => { h with
    zeros := if code = 0 then h.zeros + 1 else 0, fulls := if code = 4095 then h.fulls + 1 else 0 }) s
  if hkFaultEn s c && decide (16 ≤ (hkCh s c).zeros ∨ 16 ≤ (hkCh s c).fulls) then
    superviseFault 4 c 1 (raise 128 (c * 256 + 1) (onHk c (fun h => { h with zeros := 0, fulls := 0 }) s))
  else s

/-- A channel's results are delivered: not retired and not in its backoff (R374). -/
def hkDelivers (s : State) (c : Nat) : Bool := (faultOf s 4 c).st == .normal

/-- A result of channel `c` is written: stored, compared, reported; nothing of it is delivered while the channel is in
its backoff or retired. The 16-result fault is judged first. -/
def hkResult (c code stamp : Nat) (s : State) : State :=
  if !hkDelivers s c then s
  else
    let s := hkFault c code s
    if !hkDelivers s c then s
    else
      let r := hkValue c code s
      let v := r.1
      let s := if (hkCh r.2 c).new && hkWatch r.2 c then raise 130 c r.2 else r.2
      let s := onHk c (fun h => { h with
        code := code, value := v, stamp := stamp, new := true, frameN := h.frameN + 1, frameSum := h.frameSum + v }) s
      let s := hkWindow c code s
      let s := if 18 ≤ c then hkAlarm c v s else if 16 ≤ c then hkDie c v s else s
      match limitSupply s with
      | some x =>
        if x.table.hk = c then
          supplyResult (v : Rat) { s with svc.supplyN := s.svc.supplyN + 1, svc.supplySum := s.svc.supplySum + v }
        else s
      | none => s

/-! ### States (R375) -/

/-- DOZE: pending triggers are discarded, the running conversion finishes. -/
def hkDoze (s : State) : State :=
  slotsTake (seqTake { s with hk.gated := true, hk.trig := false, hk.inj := 0, hk.pass := false, hk.entry := 0 })

/-- Wake from DOZE: the sequence resumes with its next trigger. -/
def hkWake (s : State) : State := hkNext { s with hk.gated := false }

/-- LISTEN, RETAIN, OFF: pages at reset, OTP calibrations, references to settle again; retirements and counters stay, and so
does the range of IOVDD_D, which only a reset forgets (R359). -/
def hkReset (s : State) : State :=
  let s := completeAll (s.hk.seqCids ++ s.hk.refCids ++ s.hk.slotCids) .notReady s
  { s with
    hk := { ({} : Hk) with
      refSince := s.time.now, anaSince := s.time.now, iovdd33 := s.hk.iovdd33, overrun := s.hk.overrun, refused := s.hk.refused
      aborts := s.hk.aborts, injOvr := s.hk.injOvr } }

end Sys2Proof.Machine
end

