-- ==== Sys2Proof/Machine/Audio.lean ====
section
/-! DEFINITION. The synthesizers, the edge line, device time across a discontinuity, and what the audio halls do when
their clock stops or changes (chapters 03, 04 and 08). -/

namespace Sys2Proof.Machine

open Sys2Proof

/-! ### Hall clocks (R13, R85) -/

/-- The safety clock of a hall (R85). -/
def safetyClk (s : State) : HallClk := if s.clk.xtal then .xtal else .rc
/-- Halls change to their safety clock. -/
def hallsFall (mask : Nat) (s : State) : State := onHalls mask (fun h => { h with clk := safetyClk s }) s
/-- Halls change to their normal clock. -/
def hallsNormal (mask : Nat) (s : State) : State := onHalls mask (fun h => { h with clk := .normal }) s

/-! ### Discontinuity of device time (R77, R80, R81, R335) -/

/-- Actions of commands that named a device time and still wait act at the first boundary after the discontinuity, with
LATE (R81). -/
def waitsLate (s : State) : State :=
  let now := s.time.now
  { s with
    flt.chains := s.flt.chains.map (fun k => { k with
      wait := k.wait.map (fun w => if w.at_ ≠ 0 then { w with at_ := now, late := true } else w) })
    flt.syncs := s.flt.syncs.map (fun j => if j.at_ ≠ 0 then { j with at_ := now, late := true } else j)
    gra.commit := s.gra.commit.map (fun c => if c.at_ ≠ 0 then { c with at_ := now, late := true } else c)
    sch.delays := vmapi s.sch.delays (fun l es =>
      if listTick s l = 0 then es else es.map (fun e => { e with due := 0, notBefore := 0 }))
    sch.windowEnd := now + 24576000, sch.busy := Vector.replicate 8 0, sch.cycles := 0 }

/-- The tick number of the next frame boundary: the first tick of a new epoch carries it. -/
def nextFrameTick (s : State) : Nat :=
  s.gra.gridBase + ((sampleNo s - s.gra.gridBase) / frameSize s + 1) * frameSize s

/-- A new epoch begins: time from zero, TIME_DISC on every page, TIME_Q and UNCERT at zero, E246 (R77). -/
def newEpoch (s : State) : State :=
  let s := faultCountsCleared (waitsLate s)
  let e := (s.time.epoch + 1) % 65536
  let s := { s with time := { ({} : Time) with
    now := s.time.now, start := s.time.now, epoch := e, tickBase := s.time.now, tickNo := nextFrameTick s } }
  raise 246 e (onPorts (fun p => { p with timeDisc := true }) s)

/-! ### Clock outputs (R98, R101 to R103) -/

def outOf (s : State) (k : Nat) : ClkOut := vget s.clk.outs k
def onOut (k : Nat) (f : ClkOut → ClkOut) (s : State) : State := { s with clk.outs := vupd s.clk.outs k f }
/-- The CLKOUT word of page 0x0400. -/
def outWordOf (s : State) (k : Nat) : Nat := Page.get s.clk.page (64 + 32 * k) 32
def outPut (k w : Nat) (s : State) : State := { s with clk.page := Page.put s.clk.page (64 + 32 * k) 32 w }

/-- Every enabled output goes low at its next low phase, to restart after the lock (R103). -/
def outsHold (s : State) : State := { s with clk.outs := s.clk.outs.map (fun o => { o with held := o.on }) }
/-- The next base tick and its number: outputs start there (R102). -/
def outTick (s : State) : Nat × Nat :=
  (nextTick s (baseHz s), s.time.baseNo + (if baseTickTu s = s.time.now then baseTicks s else baseTicks s + 1))
/-- Held outputs restart with the next base tick, and a waiting enable starts there (R102). Holding an output and restarting
it raises no E158: it is neither an enable nor a disable (DESIGN CHOICE, log entry "Clock outputs"). -/
def outsRestart (s : State) : State :=
  let n := outTick s
  { s with clk.outs := s.clk.outs.map (fun o =>
      if o.held then { o with held := false, tick := some n.1, count := n.2, due := n.1 } else { o with due := n.1 }) }

/-- DIV, COARSE and FINE of the word in force (Table 4.13). -/
def outDiv (s : State) (k : Nat) : Nat := bitsAt (outWordOf s k) 18 12 + 1
def outDelayMod (s : State) (k : Nat) : Rat := (bitsAt (outWordOf s k) 6 12 : Rat) + (outWordOf s k % 64 : Nat) / 64

/-- Modulator periods from the base tick of number `count` to the time `t` in tu (R86): 4,096 of them are a base period. -/
def modPeriods (s : State) (count : Nat) (t : Rat) : Rat :=
  ((s.time.baseNo : Rat) - count) * 4096
    + (t - s.time.tickBase) * (baseHz s * 4096 : Nat) * (1000000000 + s.time.tickPpb : Int) / (24576000 * 1000000000)

/-- t_D in modulator periods (R100). -/
def outDelayD (s : State) : Rat := (2600 + Config.outDelay.val : Nat) * (baseHz s * 4096 : Nat) / 1000000000000

/-- Modulator periods from the first rising edge of an output to the time `t` (R101): t_tick + t_D + COARSE + FINE/64. -/
def outPhase (s : State) (k : Nat) (t : Rat) : Rat :=
  modPeriods s (outOf s k).count t - outDelayD s - outDelayMod s k

/-- The time in tu of rising edge `n` of an output (R101), at the rate in force. -/
def outEdge (s : State) (k n : Nat) : Rat :=
  (s.time.tickBase : Rat)
    + (((outOf s k).count : Rat) * 4096 - (s.time.baseNo : Rat) * 4096 + outDelayD s + outDelayMod s k + (n * outDiv s k : Nat))
      * 24576000 * 1000000000 / ((baseHz s * 4096 : Nat) * (1000000000 + s.time.tickPpb : Int))

/-- Level of the ball CLKOUTk at a time within the present tu (R101): low while off or held; from the first edge on the divider
counts freely, high for ⌊DIV/2⌋ periods of DIV, or as the modulator clock itself where DIV is 1. -/
def outHigh (s : State) (k : Nat) (t : Rat) : Bool :=
  let o := outOf s k
  let x := outPhase s k t
  o.on && !o.held && decide (0 ≤ x)
    && (if outDiv s k = 1 then decide (256 * (x - (x.floor : Rat)) < (Config.modDuty.val : Rat))
        else decide (x.floor.toNat % outDiv s k < outDiv s k / 2))
/-- LISTEN, RETAIN, OFF: every output stops before the commit point (R103), with no E158 (log entry "Clock outputs"). -/
def outsStop (s : State) : State :=
  let s := completeAll (s.clk.outs.toList.flatMap (fun o => o.cids)) .ok s
  { s with clk.outs := Vector.replicate 4 {} }

/-- An output is asked to run with a word, or to stop (CLK_OUT_SET, R102). A request that changes nothing is OK at once
and raises no E158 (DESIGN CHOICE, log entry "Clock outputs"). -/
def outAsk (k : Nat) (w : Nat) (cid : Nat) (s : State) : State × Status :=
  let o := outOf s k
  let en := w.testBit 31
  if en && !asynRuns s then (s, .noLock)
  else if en && o.on && !o.stopping && outWordOf s k == w then (s, .ok)
  else if !en && !o.on && o.start.isNone then (outPut k w s, .ok)
  else
    (onOut k (fun o => { o with stopping := o.on || !en, start := if en then some w else none, word := some w
                                due := (outTick s).1, cids := o.cids ++ [cid] }) s, .pending)

/-! ### Stopping and returning of audio (R90, Tables 4.10, 4.12) -/

/-- The ring ports drop their links (Table 4.10 step 2). -/
def ringDrop (s : State) : State :=
  let live (k : RingPort) : Bool := k.st == .up || k.st == .loopedBack || k.st == .training || k.st == .peerLeft
  let s := [0, 1].foldl (fun s p =>
    if live (galOf s p) then
      galTrainEnd p .noSignal (onGal p (fun k => { k with pollAt := s.time.now, leaving := none }) s)
    else s) s
  pathFollow { forwardsDrop s with ring.role := if s.ring.role = .off then .off else .alone }

/-- The audio halls lose ASYN: quiet stops, outputs to HELD, the graph pauses, ports hold, links drop. Without ticks no
point carries a sample: VALID is low until ASYN runs again (DESIGN CHOICE, log entry "Sample path"). -/
def asynStop (s : State) : State :=
  let s := countStop { s with clk.edge := false, fab.src := Vector.replicate 256 {}, fab.snk := Vector.replicate 128 {} }
  ringDrop (outsHold (tdmHold (pauseSet causeAsyn (anaHold 12288 (drvQuietAll (sorrelAbort (lanesKeep false s)))))))

/-- ASYN runs Table 4.4: from step 1 with an external reference measured first, or from step 3. -/
def asynSequence (why : LockWhy) (target : Nat) (measure : Bool) (s : State) : State :=
  { s with
    clk.asyn := if measure && target != 0 then .measuring else .search
    clk.measureDue := s.time.now + tuPerMs
    clk.why := why, clk.target := target, clk.attempts := 0, clk.rejoinRef := none
    clk.lost := false, clk.returning := false, clk.stepAt := none }

/-- The command waiting for a lock or rejoin ends with a status (CLK_REF_SELECT's response: JUMP, ALIGN_MS). -/
def clkDone (st : Status) (s : State) : State :=
  let pay := if s.clk.newWord.isSome || st != .ok then [] else i4 s.clk.jump ++ b4 s.clk.alignMs
  completeP s.clk.cid st 0 pay { s with clk.cid := none, clk.newWord := none }

/-- CSYN retargets from the crystal at a level's settings (Table 4.7 step 1, Table 4.11 step 3). -/
def csynRetarget (level : Nat) (s : State) : State :=
  hallsFall 6 { s with clk.csyn := .search, clk.csynLevel := level, clk.csynAttempts := 0, clk.csynFell := false }

/-- The unit whose clock an external reference is carries one (Table 4.3): a TDM port has acquired (R464), a receiver is
locked, the part is in a ring whose clock is not lost (DEDUCED, log entry "References"). -/
def refAlive (ref : Nat) (s : State) : Bool :=
  if 2 ≤ ref ∧ ref < 14 then (tdmOf s ((ref - 2) % 6)).st == .running
  else if ref = 14 ∨ ref = 15 then (rxOf s (ref - 14)).st == .pcm || (rxOf s (ref - 14)).st == .nonPcm
  else if ref = 16 then s.ring.role != .off && s.ring.role != .alone && !s.ring.clockLost
  else true

/-- Unit frequency of a family (R87). -/
def unitHz (fam : Bool) : Nat := if fam then 3675 else 4000

/-- A frequency as measured is a multiple of a family's unit within 1,000 ppm (R87). -/
def hzInFamily (fam : Bool) (freq : Nat) : Bool :=
  let n := (freq + unitHz fam / 2) / unitHz fam
  let off := if n * unitHz fam ≤ freq then freq - n * unitHz fam else n * unitHz fam - freq
  within 2 12288 n && decide (off * 1000 ≤ n * unitHz fam)

/-- An external reference meets R87 now: its unit carries a clock, and the frequency the reference monitors see is within the
limits of the family. The crystal passes. -/
def refSeen (ref : Nat) (s : State) : Bool :=
  ref == 0 || (refAlive ref s && hzInFamily (famOf s) (Config.refHz ref s.time.now))

/-- A measured frequency and its error from the nominal ratio in 0.001 ppm meet R87: both within 1,000 ppm, and the error
is that of the frequency to 1 Hz. -/
def refMeets (fam : Bool) (freq : Nat) (errPpb : Int) : Bool :=
  let n := (freq + unitHz fam / 2) / unitHz fam
  let off : Int := (freq : Int) * 1000000000 - (n * unitHz fam : Nat) * (1000000000 + errPpb)
  hzInFamily fam freq && withinI (-1000000) 1000000 errPpb && decide (off.natAbs ≤ 1000000000)

/-- A change of family runs: from its APPLY on, the check of R90 included (DESIGN CHOICE, log entry "Family change"). -/
def famBusy (s : State) : Bool := s.clk.familyChange || s.clk.famCheck.isSome

/-- CLK_REF_SELECT, or an APPLY of REF, BW or REJOIN with its word 0 (R93, R110, R112): `step` asks for STEP. -/
def clkSelect (ref : Nat) (step : Bool) (cid : Nat) (word : Option Nat) (s : State) : State × Status :=
  if famBusy s || s.clk.xtalFailed then (s, .busy)
  else if s.clk.rebased.isNone && asynRuns s && s.clk.ref == ref then
    ({ s with clk.page := match word with | some w => Page.put s.clk.page 0 32 w | none => s.clk.page }, .ok)
  else
    if !refSeen ref s then (s, .noLock)
    else
      let s := clkDone .superseded s
      let s := { s with clk.cid := some cid, clk.newWord := word, clk.jump := 0, clk.alignMs := 0 }
      if s.clk.rebased.isSome then
        let s := asynStop (hallsFall 0x78 { s with clk.waitCsyn := true, clk.csynBack := true })
        (asynSequence .unbase ref true (relockGrant .relockCsyn (csynRetarget s.pwr.level s)), .pending)
      else if asynRuns s then
        let w := match word with | some w => w | none => putBits (Page.get s.clk.page 0 32) 0 5 ref
        ({ s with
           clk.page := Page.put s.clk.page 0 32 w, clk.ref := ref, clk.asyn := .coasting, clk.lost := true
           clk.lostFrom := s.time.now, clk.returning := false, clk.stepMode := step, clk.stepAt := none }, .pending)
      else (asynSequence .first ref true s, .pending)

/-- The planned stop of a change of family (R90): halls on their safety clock, audio stops on it, Table 4.4 from step 1. -/
def familyBegin (ref : Nat) (s : State) : State :=
  asynSequence .family ref true (asynStop (linesStop (hallsFall 0x78 { s with
    clk.famCheck := none, clk.familyChange := true })))

/-- A change of FAMILY (R90, R112): word 0 of the page is taken at E146. An external reference is first measured over
24,576 tu; the crystal passes in both families. -/
def clkFamily (ref : Nat) (cid : Nat) (word : Nat) (s : State) : State × Status :=
  if famBusy s || s.clk.xtalFailed || s.fab.fhChange.isSome then (s, .busy)
  else
    let s := clkDone .superseded s
    let s := { s with clk.cid := some cid, clk.newWord := some word, clk.jump := 0, clk.alignMs := 0 }
    if ref = 0 then (familyBegin 0 s, .pending)
    else ({ s with clk.famCheck := some (ref, s.time.now + tuPerMs) }, .pending)

/-! ### Change of Fh (R187, R216, R252) -/

/-- The image in force can run at Fh (R252). -/
def graphFits (s : State) : Bool :=
  match s.gra.image with
  | some im => im.fhMask.testBit (fhCode s) && (budgetFail s.pwr.level (fhHz s) im).isNone
  | none => true

/-- Number of the sample tick at Fh that stands on the next aligned base tick, at or after now. -/
def nextBaseTick (s : State) : Nat :=
  s.time.tickNo + fhPerBase s * (if baseTickTu s = s.time.now then baseTicks s else baseTicks s + 1)

/-- Fh takes a new code (Table 8.8 step 3): chains that follow Fh reset, landings acquire afresh, frame boundaries and
sample-tick delay lists start anew. What has been processed goes on being presented. -/
def fhApply (code : Nat) (s : State) : State :=
  let old := fhHz s
  let at_ := sampleCount s
  let no := sampleNo s
  let s := { s with fab.page0A00 := Page.put s.fab.page0A00 24 2 code }
  let s := convertLists old (fhHz s) at_ s
  let s := { s with gra.fhSince := sampleNo s, gra.gridBase := nextBaseTick s, gra.frameNo := 0, gra.lastBoundary := none
                    gra.runTo := s.gra.runTo.map (fun _ => 0), gra.runFrom := 0, gra.ready := [], gra.gather := []
                    gra.oldCheck := s.gra.oldCheck.map (fun x => (sampleNo s + cdiv ((x.1 - no) * fhHz s) old, x.2)) }
  landAfresh ((List.range 98).foldl (fun s c => if 8 ≤ c then chainSync c s else s) s)

/-- After a change of Fh the graph runs again or stays paused with E216 (R252). -/
def fhGraph (s : State) : State :=
  if graphFits s then pauseClear causeFh s else raise 216 0xFFFF (pauseSet causeFh s)

/-- Step 1 of Table 8.8. -/
def fhStart (code : Nat) (cid : Option Nat) (s : State) : State :=
  let s := { s with fab.fhChange := some { target := code, step := 1, cid := cid } }
  pauseSet causeFh (anaHold 12288 (drvQuietAll (sorrelAbort (lanesKeep true s))))

/-- The Fh that corresponds in a family (R187): codes 0 and 1, 2 and 3 map to each other. -/
def fhAcross (fam : Bool) (code : Nat) : Nat := 2 * (code / 2) + (if fam then 0 else 1)

/-! ### Locks (Table 4.4 steps 5 to 7, Table 4.10) -/

/-- Word 0 of page 0x0400 at a lock: REF, FAMILY, BW and REJOIN of the word that waited; SLEW_PPM, which acts at once,
stays (R112). -/
def lockWord (c : Clk) : Nat :=
  let live := Page.get c.page 0 32
  match (if c.famCheck.isSome then none else c.newWord) with
  | some w => putBits live 0 16 w
  | none => putBits live 0 5 (c.rejoinRef.getD c.target)

/-- How far ticks run off the crystal's rate on a reference, in 0.001 ppm: by the reference's error; on the re-base source,
also after a relock on it, everything is scaled by the source's ratio to 24.576 MHz (R109). -/
def refPpb (ref : Nat) (s : State) : Int :=
  if s.clk.rebased.isSome && s.clk.why != .unbase then (s.clk.refFreq * 1000000000 / 24576000 : Nat) - 1000000000
  else if ref = 0 then 0
  else s.clk.refErr

/-- Step 5 of Table 4.4: the base tick is aligned to the marker of the reference ASYN locks to (R99). -/
def baseAlign (s : State) : State :=
  if s.clk.target = 0 then alignXtal s else alignRef (refPpb s.clk.target s) s

/-- ASYN locks: E155 and E146, the halls change to ASYN, audio returns. -/
def asynLock (band : Fin 64) (s : State) : State :=
  let c := s.clk
  let fam := famOf s
  let w := lockWord c
  let s := hallsNormal 0x78 { s with
    clk.page := Page.put c.page 0 32 w
    clk.asyn := if c.rejoinRef.isSome then .coasting else .locked
    clk.lost := c.rejoinRef.isSome, clk.ref := c.rejoinRef.getD c.target, clk.rejoinRef := none, clk.attempts := 0
    clk.asynBand := band, clk.edge := true, clk.familyChange := false, clk.stepAt := none
    clk.lostFrom := s.time.now }
  let s := countGo (baseAlign { s with clk.target := c.target })
  let s := retimeList0 (frameEndCount s ((sampleNo s - s.gra.gridBase) / frameSize s)) s
  let s := releaseGrant .relockAsyn (raise 146 band.val (raise 155 0 s))
  let s := linesResume (if famOf s == fam then s else lineFamily (famOf s) (fhApply (fhAcross (famOf s) (fhCode s)) s))
  let s := if famOf s == fam then s else fhGraph s
  let s := outsRestart (tdmResume (chainSyncAll s))
  let s := drvQuietOver (anaUnhold (pauseClear causeAsyn s))
  let s := if c.why = .unbase && s.clk.csynBack && !s.clk.waitCsyn then { s with clk.rebased := none, clk.csynBack := false } else s
  pathFollow (if s.clk.waitCsyn || s.clk.famCheck.isSome then s else clkDone .ok s)

/-- ASYN loses lock (Table 4.10, R111): E144, the halls change to the crystal, relock at top priority. A reference that is
lost stays so: its return is seen while ASYN is unlocked (R93). -/
def asynLose (s : State) : State :=
  let s := hallsFall 0x78 s
  let s := asynStop (retick 0 (raise 144 0x78 s))
  let why := if s.clk.why = .unbase && s.clk.rebased.isSome then .unbase else .relock
  relockGrant .relockAsyn { asynSequence why s.clk.ref false s with clk.lost := s.clk.lost }

/-- The reference is lost and ASYN coasts (R91): E149. A rejoin stops where it stands (R93). Whether the frequency offset of a
SLEW ends there the spec does not say: ticks go on at the rate they had, offset included (DESIGN CHOICE, log entry "Base
tick"). -/
def refLose (cause : Nat) (s : State) : State :=
  if (s.clk.asyn == .locked || s.clk.asyn == .rejoining || s.clk.returning) && s.clk.ref != 0 then
    raise 149 (s.clk.ref * 256 + cause) { s with
      clk.asyn := .coasting, clk.lost := true, clk.returning := false, clk.lostFrom := s.time.now, clk.stepAt := none }
  else s

/-- BW in Hz (R88); under AUTO from the measured reference frequency. -/
def asynBw (s : State) : Rat :=
  match Page.get s.clk.page 13 2 with
  | 1 => 100
  | 2 => 1000
  | 3 => 10000
  | _ =>
    let f : Rat := if s.clk.ref = 0 then 24576000 else (s.clk.refFreq : Nat)
    if 200000 ≤ f then 10000 else if f ≤ 0 then 1 else f / 20

/-- SLEW_PPM (Table 4.13). -/
def slewPpm (s : State) : Nat := max 1 (Page.get s.clk.page 16 9)

/-- A time in ms as events report it: 40.7 is reported as 41; below a half the choice is open. -/
def roundMs (x : Rat) (s : State) : Nat × State :=
  let f := x.floor.toNat
  if x = (f : Rat) then (f, s)
  else if 1 / 2 ≤ x - (f : Rat) then (f + 1, s)
  else let r := freshBool s; (if r.1 then f + 1 else f, r.2)

/-- A rejoin ends: E151 with the alignment time (R92). The base tick stands on the markers and follows the reference's rate
(R99). An APPLY of FAMILY whose reference is still being checked is not what ends here (R90, R112). -/
def phaseAlign (s : State) : State :=
  let s := raise 151 s.clk.alignMs { retick (refPpb s.clk.ref s) s with
    clk.asyn := .locked, clk.returning := false, clk.stepAt := none }
  if s.clk.famCheck.isSome then s else clkDone .ok s

/-- The dividers of a STEP rejoin step to the new phase: the base tick moves by the jump and follows the reference's rate
(Table 4.5, R99). -/
def stepTake (s : State) : State :=
  if s.clk.asyn == .rejoining && s.clk.stepAt == some s.time.now then tickShift s.clk.jump (retick (refPpb s.clk.ref s) s) else s

/-- Numerator and denominator, in s, of the marker period of the reference in use (R92); the interval between the last two
active edges of SYNC_GPIO in whole MCLK_IN periods, open before two have come. -/
def markerPeriod (s : State) : Nat × Nat :=
  let ref := s.clk.ref
  let unit := unitHz (famOf s)
  let hz := max 1 ((s.clk.refFreq + unit / 2) / unit * unit)
  if ref = 0 then (1, 100)
  else if ref = 1 then
    (if Page.get s.clk.page 40 8 = 0xFF then (1, hz)
     else match s.clk.syncGap with
       | some g => (max 1 ((g * hz + 12288000) / 24576000), hz)
       | none => (Config.freeNat s.free % 4194304 + 1, hz))
  else if ref < 8 then (1, match tdmFormat s (ref - 2) with | some f => rateHz f.rate | none => 48000)
  else if ref < 14 then (1, hz)
  else if ref < 16 then (192, match (rxOf s (ref - 14)).rate with | some r => rateHz r | none => 48000)
  else (1, baseHz s)

/-- The alignment period P in 1/16 tu: the greatest common divisor of the base period and the marker period (R92). -/
def alignPeriod (s : State) : Rat :=
  let m := markerPeriod s
  ((Nat.gcd m.2 (m.1 * baseHz s) * 24576000 * 16 : Nat) : Rat) / ((m.2 * baseHz s : Nat) : Rat)

/-- A phase in 1/16 tu reduced into (-P/2, P/2] (R92), to the whole unit below: the spec gives no rounding (DESIGN CHOICE,
log entry "Base tick"). -/
def phaseReduce (p : Rat) (j : Int) : Int :=
  if p ≤ 0 then j else ((j : Rat) - p * (((j : Rat) / p - 1 / 2).ceil : Int)).floor

/-- The jump is measured (R92, Table 4.5): E148, then the rejoin. In a SLEW ASYN runs off the reference's rate by SLEW_PPM
in the direction that closes the jump: slow where the reference is late. -/
def phaseJump (raw : Int) (s : State) : State :=
  let jump := phaseReduce (alignPeriod s) raw
  let s := if s.clk.ref = 1 ∧ Page.get s.clk.page 40 8 ≠ 0xFF then (freshNat s).2 else s
  let j := max (-32767) (min 32767 jump)
  let s := raise 148 (unsignedOf 16 j) { s with clk.jump := jump, clk.returning := false }
  if jump.natAbs ≤ 1 then phaseAlign { s with clk.alignMs := 0 }
  else
    let step := s.clk.stepMode
    let tu : Rat := if step then 10 * 24576 else (jump.natAbs : Rat) * 1000000 / (16 * (slewPpm s : Rat))
    let ms : Rat := if step then 10 + 20 / 1000 + 4500 / asynBw s else tu / 24576
    let r := roundMs ms s
    let off : Int := (if jump < 0 then 1 else -1) * (slewPpm s * 1000 : Nat)
    if step then
      -- the time from the end of the fade-out to the new phase: at most the fine lock of R88 and 20 µs, open below that
      let f := freshNat r.2
      let lock := f.1 % ((4500 / asynBw s * 24576 : Rat).floor.toNat + usTu 20 + 1)
      { f.2 with
        clk.asyn := .rejoining, clk.alignMs := r.1, clk.stepFrom := s.time.now, clk.stepAt := some (s.time.now + stepFade + lock)
        clk.alignDue := s.time.now + 2 * stepFade + lock }
    else
      { retick (refPpb s.clk.ref s + off) r.2 with
        clk.asyn := .rejoining, clk.alignMs := r.1, clk.alignDue := s.time.now + tu.floor.toNat }

/-- PHASE_LEFT in 1/16 tu (CLK_STATUS_GET): what a SLEW has still to close; of a STEP all of it until it ends. -/
def phaseLeft (s : State) : Int :=
  if s.clk.asyn != .rejoining then 0
  else if s.clk.stepMode then s.clk.jump
  else
    let left : Nat := min s.clk.jump.natAbs ((s.clk.alignDue - s.time.now) * 16 * slewPpm s / 1000000)
    if s.clk.jump < 0 then -(left : Int) else left

end Sys2Proof.Machine
end

