-- ==== Sys2Proof/Machine/Float.lean ====
section
/-! DEFINITION. Graph arithmetic (R238): IEEE 754 binary32 with round-to-nearest-even, subnormal results flushed to zero; and
the numbers that are no quotients (gains in dB, roots, decays), each as the binary32 value nearest to it. -/

namespace Sys2Proof.Machine

open Sys2Proof

/-- 2 to a whole power. -/
def pow2 (e : Int) : Rat := if 0 ≤ e then 2 ^ e.toNat else 1 / 2 ^ (-e).toNat

/-- A magnitude. -/
def absRat (x : Rat) : Rat := max x (-x)

/-- The whole number `e` with 2^e ≤ |x| < 2^(e+1), for x other than 0. -/
def expOf (x : Rat) : Int :=
  let e := (Nat.log2 x.num.natAbs : Int) - Nat.log2 x.den
  if pow2 e ≤ absRat x then e else e - 1

/-- A number rounded to a whole one outside the graph; which way, where it is not whole, is open. -/
def roundRat (r : Rat) : Int := roundDiv r.den r.num

/-- The nearest whole number, of two the even one. -/
def nearestEven (x : Rat) : Int :=
  let f := x.floor
  let r := x - (f : Rat)
  if r < 1 / 2 then f else if 1 / 2 < r then f + 1 else if f % 2 = 0 then f else f + 1

/-- The binary32 value of a result, none where it is no finite number (R238, R245). Whether a result is subnormal is judged
once it is rounded (DESIGN CHOICE, log entry "Graph values"). -/
def fp32 (x : Rat) : Option Rat :=
  if x = 0 then some 0
  else
    let q := pow2 (expOf x - 23)
    let y := (nearestEven (x / q) : Rat) * q
    if 2 ^ 128 ≤ absRat y then none else if absRat y < pow2 (-126) then some 0 else some y

/-- The binary32 value of a finite number below 2^128. -/
def fpNear (x : Rat) : Rat := (fp32 x).getD 0

/-- The binary32 value nearest to a number that lies between `n` and `n + 1` units of 2^-60. -/
def fpUnits (n : Nat) : Rat := fpNear (((2 * n + 1 : Nat) : Rat) / 2 ^ 61)

/-- 10 to a rational power below 1. -/
def powTen (a : Rat) : Rat :=
  let fits (n : Nat) : Bool :=
    if 0 ≤ a.num then decide (n ^ a.den ≤ 10 ^ a.num.toNat * 2 ^ (60 * a.den))
    else decide (n ^ a.den * 10 ^ (-a.num).toNat ≤ 2 ^ (60 * a.den))
  fpUnits (greatest fits 66 0)

/-- A gain of `db` dB as a factor, `dbGain`; one in 0.05 dB (R199), `gain32`. -/
def dbGain (db : Rat) : Rat := powTen (db / 20)
def gain32 (g : Rat) : Rat := powTen (g / 400)

/-- The square root of a number from 0 to 32. -/
def rootOf (x : Rat) : Rat :=
  if x ≤ 0 then 0 else fpUnits (greatest (fun n => decide (((n ^ 2 : Nat) : Rat) ≤ x * 2 ^ 120)) 64 0)

/-- 1 + x + x²/2 + … of an exponential series, `k` terms from the `i`-th, whose value is `t`. -/
def expSum (x : Rat) : Nat → Nat → Rat → Rat
  | 0, _, _ => 0
  | k + 1, i, t => t + expSum x k (i + 1) (t * x / (i + 1 : Nat))

/-- e^-x for x from 0 on, to the binary32 value nearest to 64 terms of the series of e^x; 0 from 20 on (DESIGN CHOICE, log
entry "Graph values": R319 gives the exponential and no arithmetic). -/
def expNeg (x : Rat) : Rat := if x ≤ 0 then 1 else if 20 ≤ x then 0 else fpNear (1 / expSum x 64 0 1)

/-- e^(-t/tau) for a time and a time constant in seconds. -/
def expDecay (t tau : Rat) : Rat := if tau ≤ 0 then 0 else expNeg (t / tau)

end Sys2Proof.Machine
end

