-- ==== Sys2Proof/Machine/Sample.lean ====
section
/-! DEFINITION. The signal journey sample by sample (R24): decimators and interpolators with their trim filters and delay
lines (R163 to R184), fast sense path (R172), fabric, mixers, sinks (R196 to R201), landings (R192, R194), direct lanes
(R212). What lies outside, and a response the spec only bounds, is open (Config). -/

namespace Sys2Proof.Machine

open Sys2Proof

/-! ### Arithmetic -/

/-- Saturation at full scale, with the count of saturated samples (R175, R198). -/
def satFull (x : Int) : Int × Nat :=
  if x < -(2 ^ 31) then (-(2 ^ 31), 1) else if 2 ^ 31 ≤ x then (2 ^ 31 - 1, 1) else (x, 0)

/-- A sum in the 64-bit accumulator. -/
def acc64 (x : Int) : Int := if -(2 ^ 63) ≤ x ∧ x < 2 ^ 63 then x else Config.accOver x

/-- `k` of `n` parts of one signal and the rest of another: a linear cross-fade (R171, R181, R207). -/
def mix (n k : Nat) (old new : Int) : Int := roundDiv n (((n : Int) - k) * old + k * new)

/-- `k` of `n` parts of a signal: a linear ramp from or to zero. -/
def part (n k : Nat) (v : Int) : Int := roundDiv n (k * v)

/-- A sample of an analog output, a drive port or a digital output under the fades of a STEP rejoin (Table 4.5). -/
def stepped (s : State) (v : Int) : Int := part stepFade (stepLevel s) v

/-- A sample times a gain in 0.05 dB, none mute (R199). -/
def applyGain (g : Option Rat) (v : Int) : Int :=
  match g with
  | none => 0
  | some g => gainMul g v

/-! ### Trim filters (R175 to R179) -/

/-- Coefficient `j` of section `i` in Q2.30, and tap `k` in Q1.31 (Tables 7.3, 7.4, R176). -/
def imgCoef (img : List Byte) (i j : Nat) : Int := signedOf 32 (leAt img (16 + 20 * i + 4 * j) 4)
def imgTap (img : List Byte) (k : Nat) : Int := signedOf 32 (leAt img (16 + 20 * imgNbq img + 4 * k) 4)

/-- One biquad section: output, state, saturations (R175). -/
def sectionRun (img : List Byte) (i : Nat) (z : Section) (x : Int) : Int × Section × Nat :=
  let y := satFull (roundDiv (2 ^ 30) (acc64 (imgCoef img i 0 * x + imgCoef img i 1 * z.x1 + imgCoef img i 2 * z.x2
    - imgCoef img i 3 * z.y1 - imgCoef img i 4 * z.y2)))
  (y.1, { x1 := x, x2 := z.x1, y1 := y.1, y2 := z.y1 }, y.2)

/-- The FIR over the newest inputs, newest first (R175, R177). -/
def firRun (img : List Byte) (taps : Nat) (xs : List Int) : Int × Nat :=
  satFull (roundDiv (2 ^ 31) (acc64 (((List.range taps).map (fun k => imgTap img k * xs.getD k 0)).foldl (· + ·) 0)))

/-- A bank runs on one input sample (R179): output, bank, saturations. LOADING and INVALID do not run. -/
def bankRun (s : State) (c : Nat) (b : Bank) (x : Int) : Int × Bank × Nat :=
  if b.st = .loading ∨ b.st = .invalid then (0, b, 0)
  else
    let secs := (List.range (imgNbq b.image)).foldl (fun (r : Int × List Section × Nat) i =>
      let y := sectionRun b.image i (b.secs.getD i {}) r.1
      (y.1, r.2.1 ++ [y.2.1], r.2.2 + y.2.2)) (x, [], 0)
    let taps := firTaps s c b.image
    let xs := secs.1 :: b.fir
    let y := if taps = 0 then (secs.1, 0) else firRun b.image taps xs
    (y.1, { b with secs := secs.2.1, fir := xs.take 255, age := b.age + 1 }, secs.2.2 + y.2)

/-- The mix point of the sample at hand, and the fade after it (R181, R182). -/
def fadeStep (f : BankFade) : Nat × BankFade :=
  if f.forward then (min f.n (f.pos + 1), { f with pos := min f.n (f.pos + 1) }) else (f.pos, { f with pos := f.pos - 1 })

/-- The trim filter over one sample: what is heard, and the chain after it. CLIP counts the banks heard (DESIGN CHOICE,
log entry "Sample path"). -/
def trimRun (s : State) (c : Nat) (k : Chain) (x : Int) : Int × Chain :=
  let a := bankRun s c k.bankA x
  let b := bankRun s c k.bankB x
  let k := { k with bankA := a.2.1, bankB := b.2.1 }
  match k.fade with
  | none =>
    let r := if k.active then b else a
    (r.1, { k with clip := satAdd 65535 k.clip r.2.2 })
  | some f =>
    let st := fadeStep f
    let old := if f.goal then a.1 else b.1
    let new := if f.goal then b.1 else a.1
    (mix f.n st.1 old new, { k with fade := some st.2, clip := satAdd 65535 k.clip (a.2.2 + b.2.2) })

/-! ### Chains (R163, R167, R170, R171) -/

/-- An interpolator (Table 7.1): its input is a sink point. -/
def isInterp (c : Nat) : Bool := decide (20 ≤ c ∧ c < 26 ∨ 74 ≤ c)
def interpSink (c : Nat) : Nat := if c < 26 then c - 20 else c - 68

/-- The delay line at the delay in force, within a cross-fade mixed with the old one (R171). -/
def lineOut (k : Chain) (d : Nat) (line : List Int) : Int :=
  match k.delayFade with
  | some f => mix 64 (min 64 (f.pos + 1)) (line.getD f.old 0) (line.getD d 0)
  | none => line.getD d 0

/-- The sense correction in force (R174). -/
def senseCal (k : Chain) : Int × Int := (signedOf 16 (k.cal.toNat / 65536), signedOf 16 (k.cal.toNat % 65536))

/-- Saturation at the full scale of 24 bits. -/
def sat24 (x : Int) : Int := max (-(2 ^ 23)) (min (2 ^ 23 - 1) x)

/-- A fine sample after correction (R173, R174): 24 bits, left-aligned, with full scale at 2^31. -/
def senseFine (k : Chain) (raw : Int) : Int :=
  let g := senseCal k
  sat24 (roundDiv (2 ^ 28) ((raw - g.2 * 2 ^ 16) * (2 ^ 20 + g.1))) * 256

/-- Group delay and fractional phase delay of a chain in samples: both are in its rate conversion (R163, R164, R170). -/
def convDelay (s : State) (c : Nat) : Rat := chainGroupDelay s c + (chainDelayFrac s c : Rat) / 64

/-- Count of tu to which the rate conversion of a decimator leads back. -/
def chainLag (s : State) (c : Nat) : Rat :=
  (s.time.now : Rat) - convDelay s c * 24576000 / (chainHz s c : Rat)

/-- The hall from which a source point's samples cross to HALL_AUD (Tables 1.3, 7.1); none for TDM and S/PDIF, which
stand in HALL_AUD. -/
def sourceHall (p : Nat) : Option Nat :=
  if p < 4 then some hANA
  else if p < 8 then some hAO
  else if p < 20 then some hANA
  else if p < 68 then some hDRV
  else if p < 104 then none
  else if p < 136 then some hGAL
  else if p < 192 then some hDSP
  else none

/-- The stream crossings over which a source point reaches the fabric are OPEN (R20). -/
def sourceOpen (s : State) (p : Nat) : Bool :=
  match sourceHall p with
  | some h => hallsOpen (2 ^ h + 2 ^ hAUD) s
  | none => true

/-- The stream crossings that feed a chain are OPEN (R20): an interpolator of HALL_DRV reads the fabric's. -/
def chainOpen (s : State) (c : Nat) : Bool :=
  if isInterp c then decide (c < 26) || hallsOpen (2 ^ hAUD + 2 ^ hDRV) s
  else sourceOpen s (if c < 20 then c else c - 6)

/-- The input of a chain's part at fc: the rate conversion of a decimator, corrected on a sense chain, or the sink sample
of an interpolator. Over a crossing that is not OPEN it is zero (R20). -/
def chainInput (s : State) (c : Nat) : Int :=
  if !chainOpen s c then 0
  else if isInterp c then (vget s.fab.snk (interpSink c)).v
  else
    let raw := Config.signal (if c < 20 then c else c - 6) (chainPhase s c) (chainBand s c) (chainLag s c)
    if isSense c then senseFine (chainOf s c) raw else (satFull raw).1

/-- One output sample of a chain (R163): a decimator filters and then delays, an interpolator delays and then filters;
samples 0 to D' − 1 are exact zero with VALID low, SETTLED is high from D' + S' (R167). -/
def chainNext (s : State) (c : Nat) : Chain :=
  let k := chainOf s c
  let d := chainDelayInt s c
  let x := chainInput s c
  let n := k.count
  let r : Int × Chain :=
    if isInterp c then
      let line := (x :: k.line).take 256
      let y := trimRun s c k (lineOut k d line)
      (y.1, { y.2 with line := line, conv := ((satFull y.1).1 :: k.conv).take 64 })
    else
      let y := if isSense c then (x, k) else trimRun s c k x
      let line := (y.1 :: k.line).take 256
      (lineOut k d line, { y.2 with line := line })
  { r.2 with
    count := n + 1
    delayFade := r.2.delayFade.map (fun f => { f with pos := f.pos + 1 })
    out := if n < k.dPrime || !chainOpen s c then {}
           else { v := (satFull r.1).1, valid := true, settled := decide (k.dPrime + k.sPrime ≤ n) } }

/-- A chain at this tu: what falls due at its instant, and its sample. -/
def chainStep (c : Nat) (s : State) : State :=
  let s := if chainTick s c then chainTake chainOutMask c s else s
  let s := settleDue c (delayDue c (fadeDue c (swapDue c (syncDue c s))))
  if chainTick s c then delayDue c (onChain c (fun _ => chainNext s c) s) else s

/-! ### Fast sense path (R169, R172, R174) -/

/-- What the carriers of HALL_DRV count: internal time, or the safety RC's periods while device time is held (R307). -/
def driveClock (s : State) : Nat := if s.time.held then s.time.heldTicks else s.time.now

/-- 64ths of a carrier period of a port since the aligned base tick, at the time `t` of its clock; on the safety RC 64 of its
periods are one carrier period (R287, R307). -/
def carrierSub (s : State) (n t : Nat) : Nat :=
  (if s.time.held then t else ticksIn s (64 * carrierNow s (n / 4)) (t - s.time.tickBase)) - Page.get (drvOf s n).page 18 6

/-- Carrier periods of a port begun since the aligned base tick (R287). -/
def carrierAt (s : State) (n t : Nat) : Nat := carrierSub s n t / 64

/-- A carrier boundary of a port falls at this time. -/
def carrierEdge (s : State) (n : Nat) : Bool :=
  decide (0 < driveClock s) && carrierAt s n (driveClock s) != carrierAt s n (driveClock s - 1)

/-- Sense samples in a period of the carrier that runs (R172, Table 12.2). -/
def sensePer (s : State) (n : Nat) : Nat := if carrierNow s (n / 4) < 700000 then 16 else 8

/-- A sense sample of a port ends at this time: 16 to a period of the lower carrier, at 64ths of the carrier period. -/
def senseEdge (s : State) (n : Nat) : Bool :=
  let at_ (t : Nat) : Nat := carrierSub s n t * sensePer s n / 64
  decide (0 < driveClock s) && at_ (driveClock s) != at_ (driveClock s - 1)

/-- A value of a sense modulator after correction, in full scales (R174). -/
def senseFix (k : Chain) (x : Rat) : Rat :=
  let g := senseCal k
  (x - (g.2 : Rat) / 32768) * (1 + (g.1 : Rat) / 1048576)

/-- A running sense modulator gives an output. -/
def fastSample (c : Nat) (s : State) : State :=
  if (chainOf s c).resetAt.isNone then s
  else onChain c (fun k => { k with
    coarseSum := k.coarseSum + Config.modulator c (driveClock s), coarseCount := k.coarseCount + 1 }) s

/-- The fast value of the carrier period that ends: the mean of the modulator's outputs, corrected, in full scales. -/
def coarseMean (k : Chain) : Rat := senseFix k (k.coarseSum / ((max 1 k.coarseCount : Nat) : Rat))

/-- A port's carrier period ends (R172): the value of a converter that ran through it has COARSE_VALID 1. Calibration
acts from here (R174). -/
def coarseStep (c : Nat) (s : State) : State :=
  let s := chainTake chainCalMask c s
  let ok := (chainOf s c).resetAt.isSome && (chainOf s c).whole
  onChain c (fun k => { k with
    coarse := if k.resetAt.isSome then coarseMean k else k.coarse, coarseSum := 0, coarseCount := 0
    coarseOk := ok, whole := k.resetAt.isSome, coarseN := k.coarseN + b2n ok
    cal := k.page.extractLsb' 32 32 }) s

/-- The fast sense paths of a port at a carrier boundary. -/
def senseStep (n : Nat) (s : State) : State := coarseStep (50 + n) (coarseStep (26 + n) s)

/-! ### Source points (Table 8.3) -/

/-- A sample on its way to zero over the 1 ms that end at `due` (R117, MIC_ENABLE). -/
def falling (s : State) (due : Option Nat) (a : Smp) : Smp :=
  match due with
  | some d => { a with v := part tuPerMs (min tuPerMs (d - s.time.now)) a.v }
  | none => a

/-- A line input (R117). -/
def lineSample (s : State) (p : Nat) : Smp :=
  let l := vget s.ana.ins p
  if l.running then falling s l.rampEnd (chainOf s p).out else {}

/-- A PDM channel (R144, R145, R158): while MIC_MUTE is asserted exact zero with VALID high. SETTLED stays high then
(DESIGN CHOICE, log entry "Sample path"). -/
def micSample (s : State) (m : Nat) : Smp :=
  let c := micOf s m
  if s.mic.mute then { v := 0, valid := true, settled := true }
  else if c.st = .running then (chainOf s (4 + m)).out
  else if c.st = .off ∧ c.ramp.isSome then falling s c.ramp (chainOf s (4 + m)).out
  else {}

/-- The `bits` high bits of a word; the bits below are 0 (R220, R236). -/
def topBits (bits : Nat) (v : Int) : Int := v / 2 ^ (32 - bits) * 2 ^ (32 - bits)

/-- BCLK periods of a frame, and those from the active FSYNC edge to the MSB of slot 0 (Table 9.1). -/
def tdmPeriods (f : TdmFormat) : Nat := f.slots * f.slotBits
def tdmLead (f : TdmFormat) : Nat := if f.framing = 0 ∨ f.framing = 2 then 1 else 0

/-- BCLK_INV and FSYNC_INV (Table 9.2). -/
def tdmBclkInv (f : TdmFormat) : Bool := f.flags.testBit 0
def tdmFsyncInv (f : TdmFormat) : Bool := f.flags.testBit 1

/-- Level of FSYNC in period `b` of a frame, counted from the active edge (Table 9.1, R220). -/
def tdmFsync (f : TdmFormat) (b : Nat) : Bool :=
  let high := match f.framing with
    | 0 => decide (tdmPeriods f / 2 ≤ b)
    | 1 => decide (b < tdmPeriods f / 2)
    | _ => decide (b < max 1 f.width)
  high != tdmFsyncInv f

/-- Slot and bit place, 31 the MSB, carried in period `b` of a frame: slot k follows slot k − 1 without a gap, MSB first
(R220). -/
def tdmPlace (f : TdmFormat) (b : Nat) : Nat × Nat :=
  let i := (b + tdmPeriods f - tdmLead f) % tdmPeriods f
  (i / f.slotBits, 31 - i % f.slotBits)

/-- The word a slot of TDMn_DIN carries: DATA_BITS at the top of the slot, left-aligned (R220). -/
def tdmSlotIn (s : State) (n : Nat) (f : TdmFormat) (slot : Nat) : Int :=
  signedOf 32 (((List.range (min f.dataBits f.slotBits)).map (fun i =>
    b2n (Config.din n s.time.now (tdmLead f + slot * f.slotBits + i) (tdmBclkInv f)) * 2 ^ (31 - i))).foldl (· + ·) 0)

/-- A TDM input (R220, R225, R226). -/
def tdmSample (s : State) (p : Nat) : Smp :=
  match tdmBinding s false (p - 68) with
  | some x =>
    match tdmFormat s x.1 with
    | some f =>
      if pointClock s false p && !(tdmOf s x.1).broken then
        { v := tdmSlotIn s x.1 f x.2.slot, valid := true, settled := true }
      else {}
    | none => {}
  | none => {}

/-- VMODE of a receiver (Table 9.6). -/
def rxVmode (s : State) (k : Nat) : Bool := Page.bit s.tdm.page0D00 (8 * k + 5)

/-- An S/PDIF input (R230 to R234): 24 bits; a broken subframe repeats the sample before, a set validity bit gives zero
under VMODE; NON-PCM data never enters. -/
def rxSample (s : State) (p : Nat) : Smp :=
  let k := (p - 100) / 2
  if (rxOf s k).st = .pcm then
    let v := if (rxOf s k).again.getLsbD (p % 2) then (vget s.fab.src p).v
      else if rxVmode s k && Config.validityBit p s.time.now then 0 else topBits 24 (Config.digitalIn p s.time.now)
    { v := v, valid := true, settled := true }
  else {}

/-- A ring input (R348): what it presents, within a change of the presentation delay at the level of its fades (R349). -/
def ringSample (s : State) (p : Nat) : Smp :=
  let a := (concealOf s (p - 104)).out
  if (ringBinding s false (p - 104)).isNone then {}
  else if s.ring.presFade.isNone then a
  else { a with v := part tuPerMs (presLevel s) a.v }

/-- A graph output (R242, R246): where no frame is presented, zero with VALID low. -/
def graphSample (s : State) (o : Nat) : Smp :=
  if s.gra.muted then {}
  else match s.gra.play.find? (fun x => x.1 == o) with
    | some (_, a :: _) => a
    | _ => {}

/-- A source point's own sample at this tick; mixer outputs are the fabric's. -/
def ownSample (s : State) (p : Nat) : Smp :=
  if p < 4 then lineSample s p
  else if p < 20 then micSample s (p - 4)
  else if p < 68 then (chainOf s (p + 6)).out
  else if p < 100 then tdmSample s p
  else if p < 104 then rxSample s p
  else if p < 136 then ringSample s p
  else if p < 192 then graphSample s (p - 136)
  else {}

/-- What a landing gives at a point (Table 8.2, R193, R194): the sample that entered its latency ago, converted; it rises
over 256 samples and falls over 32. An instant before its first sample counts as zero with VALID high and SETTLED low: the
buffer is full at the lock. -/
def landSample (s : State) (k : Nat) (p : Nat) : Smp :=
  let l := landOf s k
  let falls := l.fall != 0
  let hz := if falls then l.fallHz else landRates s l
  let i := (if falls then l.fallChans else landChans l).idxOf p
  let t := (s.time.now : Rat) - (landLatency s k : Rat) / 64 * 24576000 / (hz.2 : Rat)
  let smp (x : LandIn) : Smp := x.smps.getD i {}
  let a := ((l.ins.find? (fun x => decide ((x.at_ : Rat) ≤ t))).map smp).getD { v := 0, valid := true }
  let back := ((((l.ins.head?).map (fun x => x.at_)).getD 0 : Nat) : Rat) - t
  let v := if a.valid then
      Config.landed ((hz.1 : Rat) * (1 + (landPpm s l : Rat) / 1000000000) / (hz.2 : Rat)) (l.ins.map (fun x => (smp x).v))
        (back * (hz.1 : Rat) / 24576000)
    else 0
  { a with v := if falls then part 8192 (l.fall * l.fallFrom) v else part 256 (min 256 l.rise) v }

/-- A source point at the fabric's entry: directly, through its landing, or zero with VALID low (R189, R20). MIC_MUTE acts on
all 16 PDM points, landed or not (R158). -/
def entrySample (s : State) (p : Nat) : Smp :=
  if !sourceOpen s p then {}
  else if pointHome s false p || (s.mic.mute && decide (4 ≤ p ∧ p < 20)) then ownSample s p
  else match landOn s false p with
    | some k => landSample s k p
    | none => {}

/-! ### What leaves by the TDM and S/PDIF ports (R220, R224, R234, R236) -/

/-- A sink point's sample as its port takes it: directly or through its landing. -/
def exitSample (s : State) (k : Nat) : Smp :=
  if pointHome s true k then vget s.fab.snk k
  else match landOn s true k with
    | some l => landSample s l k
    | none => {}

/-- The ring outputs of the base tick at hand (R348): a one-slot point's sample, a WIDE point's earlier one, and half a ring
period later its second. A part that shares no ring audio writes none of its slots (R346). -/
def captureStep (s : State) : State :=
  let outs := s.ring.map.filter (fun b => b.out)
  let slot (b : RingBind) (k : Nat) : Nat × BitVec 32 × Bool := (b.slot + k, slotWord (exitSample s (64 + b.point)))
  if outs.isEmpty || !ringAudio s || s.ring.role == .off then { s with ring.capture := [] }
  else if onTick s (baseHz s) then
    { s with ring.capture := ({ at_ := s.time.now, slots := outs.map (fun b => slot b 0) } : RingCapture)
        :: s.ring.capture.take 127 }
  else if onTick s (2 * baseHz s) then
    { s with ring.capture := match s.ring.capture with
        | c :: l => { c with slots := c.slots ++ (outs.filter (fun b => b.wide)).map (fun b => slot b 1) } :: l
        | [] => [] }
  else s

/-- The receiver whose NON-PCM stream passes through a slot of a port, and its subframe (R234). -/
def passSlot (s : State) (n slot : Nat) : Option (Nat × Nat) :=
  [0, 1].findSome? (fun k =>
    let first := Page.get s.tdm.page0D00 (16 + 16 * k) 8
    if (rxOf s k).st == .nonPcm && passOk s k && passPort s k == n && decide (first ≤ slot ∧ slot ≤ first + 1)
    then some (k, slot - first) else none)

/-- What a slot of TDMn_DOUT carries: a subframe passed through, its bound sample with the bits below DATA_BITS 0, or
under UNUSED_HIZ 0 or high impedance (none). -/
def tdmSlotOut (s : State) (n : Nat) (f : TdmFormat) (slot : Nat) : Option (BitVec 32) :=
  match passSlot s n slot with
  | some (k, c) => some (BitVec.ofInt 32 (Config.digitalIn (100 + 2 * k + c) s.time.now))
  | none =>
    match (tdmOf s n).map.find? (fun b => b.out && b.slot == slot) with
    | some b => some (BitVec.ofInt 32 (topBits f.dataBits (stepped s (exitSample s (30 + b.point)).v)))
    | none => if Page.bit (tdmOf s n).page 29 then none else some 0

/-- The port drives frames: it runs, a master from its first sample tick on. -/
def tdmDrives (s : State) (n : Nat) : Bool := (tdmOf s n).st == .running && decide ((tdmOf s n).startAt ≤ s.time.now)

/-- BCLK periods, with the part of the present one, since the active FSYNC edge of the frame of a port. -/
def tdmAt (s : State) (f : TdmFormat) : Rat :=
  let dt := s.time.now - s.time.tickBase
  let hz := rateHz f.rate
  ((dt - ticksTu s hz (ticksIn s hz dt) : Nat) : Rat) * ((hz * tdmPeriods f : Nat) : Rat) / 24576000

/-- Levels of BCLK and FSYNC that a master port drives (R218 to R220): data is launched on BCLK's falling edge, and both are
held low while the port waits for its start, is held, or is gated in DOZE (R219, R229). -/
def tdmClockLevels (s : State) (n : Nat) : Bool × Bool :=
  match tdmFormat s n with
  | some f =>
    if tdmMaster s n && tdmDrives s n && hallRuns s hAUD then
      let b := (tdmAt s f).floor.toNat
      (decide (1 ≤ 2 * (tdmAt s f - (b : Rat))) != tdmBclkInv f, tdmFsync f b)
    else (false, false)
  | none => (false, false)

/-- The frames of the TDM ports: a new one at each tick of the port's rate (R219; the frame of a slave port stands for the
one its master sends, DESIGN CHOICE, log entry "Sample path"). A port that does not run idles. -/
def tdmFrames (s : State) : State :=
  { s with
    tdm.ports := vmapi s.tdm.ports (fun n p =>
      match tdmFormat s n with
      | some f =>
        if !tdmDrives s n then { p with dout := [], doutPrev := [] }
        else if onTick s (rateHz (p.rate.getD f.rate)) then
          { p with dout := (List.range f.slots).map (tdmSlotOut s n f), doutPrev := p.dout }
        else p
      | none => { p with dout := [], doutPrev := [] }) }

/-- What TDMn_DOUT carries in a slot while its port drives no frame: its idle state (R222). -/
def tdmIdle (s : State) (n : Nat) : Option (BitVec 32) := if Page.bit (tdmOf s n).page 29 then none else some 0

/-- Level of TDMn_DOUT in period `b` of the present frame; none: high impedance. Where the MSB of slot 0 comes one period after
the edge, the period before it belongs to the last slot of the frame before. -/
def tdmDout (s : State) (n : Nat) (f : TdmFormat) (b : Nat) : Option Bool :=
  let x := tdmPlace f b
  ((if b < tdmLead f then (tdmOf s n).doutPrev else (tdmOf s n).dout).getD x.1 (tdmIdle s n)).map (fun w => w.getLsbD x.2)

/-- Bits of a sample under WORD (Table 9.6). -/
def outBits (s : State) : Nat := 16 + 4 * outWord s

/-- A frame of the transmitter (R236): each sample cut to WORD bits with its validity bit; E186 is armed (R237). -/
def spdifFrame (s : State) : State :=
  let a := exitSample s 62
  let b := exitSample s 63
  let word (x : Smp) : BitVec 32 × Bool := (BitVec.ofInt 32 (if x.valid then topBits (outBits s) (stepped s x.v) else 0), !x.valid)
  { s with
    tdm.outFrame := [word a, word b]
    tdm.outState := if a.valid || b.valid then 1 else s.tdm.outState
    tdm.outValid := s.tdm.outValid || (a.valid && b.valid) || (s.tdm.outBoth && (a.valid || b.valid))
    tdm.outBoth := s.tdm.outBoth || (a.valid && b.valid) }

/-- The transmitter sends a frame at each tick of its rate while the line runs. -/
def spdifFrames (s : State) : State :=
  if s.tdm.outState != 0 && onTick s (rateHz (outRate s)) then spdifFrame s else s

/-! ### Fabric (R198 to R201, R207) -/

/-- One source at one gain. At a mixer input a muted gain passes no VALID (R201). -/
def gained (get : Nat → Smp) (mixer : Bool) (src : Option Nat) (g : Option Rat) : Smp :=
  match src with
  | none => {}
  | some p =>
    let a := get p
    if !a.valid || (mixer && g.isNone) then {} else { a with v := applyGain g a.v }

/-- The signal of a target: its source at its gain, within a fade the mix of both; the mix is VALID if either is, and
SETTLED if every VALID one is (R207; SETTLED is DESIGN CHOICE, log entry "Sample path"). -/
def targetSignal (s : State) (get : Nat → Smp) (t : Nat) : Smp :=
  let x := targetOf s t
  let mixer := decide (128 ≤ t)
  let new := gained get mixer x.src (gainLevel s t)
  match x.fade with
  | none => new
  | some f =>
    let old := gained get mixer f.oldSrc (gainOf f.oldGain)
    let valid := old.valid || new.valid
    { v := mix f.n (min f.n (f.pos + 1)) old.v new.v, valid := valid
      settled := valid && (!old.valid || old.settled) && (!new.valid || new.settled) }

/-- One mixer: its output and whether it saturated (R200, R201). -/
def mixerSample (s : State) (get : Nat → Smp) (m : Nat) : Smp × Nat :=
  let ins := ((List.range 16).map (fun i => targetSignal s get (128 + 16 * m + i))).filter (fun a => a.valid)
  if ins = [] then ({}, 0)
  else
    let y := satFull (acc64 ((ins.map (fun a => a.v)).foldl (· + ·) 0))
    ({ v := y.1, valid := true, settled := ins.all (fun a => a.settled) }, y.2)

/-- The selected source of a target (R203). -/
def targetInput (s : State) (get : Nat → Smp) (t : Nat) : Smp :=
  match (targetOf s t).src with
  | some p => get p
  | none => {}

/-- The samples at hand meet the basic changes of the gains `lo` to `hi − 1` (R203, R204). -/
def gainsMeet (lo hi : Nat) (input : State → Nat → Smp) (s : State) : State :=
  (s.fab.gainJobs.filter (fun j => decide (lo ≤ j.index ∧ j.index < hi))).foldl
    (fun s j => gainMeet j.index (input s j.index) s) s

/-- Signs of the samples at `n` inputs as a mask. -/
def negMask (n : Nat) (input : Nat → Smp) : Nat := maskOf ((List.range n).map (fun i => decide ((input i).v < 0)))

/-- Mixer `m` takes its turn: changes of its gains, its output, the signs of its inputs. The second component holds the
samples of the source points, the mixers that saturated and the mask of signs. -/
def mixerTurn (r : State × Vector Smp 256 × List Nat × Nat) (m : Nat) : State × Vector Smp 256 × List Nat × Nat :=
  let get (p : Nat) : Smp := vget r.2.1 p
  let lo := 128 + 16 * m
  let s := gainsMeet lo (lo + 16) (fun s => targetInput s get) r.1
  let y := mixerSample s get m
  (s, vset r.2.1 (192 + m) y.1, if y.2 = 0 then r.2.2.1 else m :: r.2.2.1,
    r.2.2.2 + negMask 16 (fun i => targetInput s get (lo + i)) * 2 ^ lo)

/-- The mixers in ascending index: one of the same or a higher index is read as it stood a sample before (R200). -/
def mixersRun (s : State) : State × Vector Smp 256 × List Nat × Nat :=
  (List.range 64).foldl mixerTurn (s, s.fab.src, [], 0)

/-- A sink sample: source × crosspoint gain × output trim, and whether it saturated (R198). -/
def sinkSample (s : State) (get : Nat → Smp) (k : Nat) : Smp × Nat :=
  let a := targetSignal s get k
  if a.valid then
    let y := satFull (applyGain (gainLevel s (1152 + k)) a.v)
    ({ a with v := y.1 }, y.2)
  else ({}, 0)

/-- The input of a lane at Fi (R203, R214): zero while an end is not running. -/
def laneInput (s : State) (j : Nat) : Int :=
  if laneEnds s (laneOf s j).src (laneOf s j).snk then Config.laneSignal (laneOf s j).src s.time.now else 0

/-- The input of a gain at this tu (R203): its source, before a trim the sink's signal, at a lane its input. -/
def gainInput (s : State) (i : Nat) : Smp :=
  let r := mixersRun s
  let get (p : Nat) : Smp :=
    if 128 ≤ i ∧ i < 1152 ∧ 192 + (i - 128) / 16 ≤ p then vget s.fab.src p else vget r.2.1 p
  if i < 1152 then targetInput s get i
  else if i < 1280 then targetSignal r.1 get (i - 1152)
  else { v := laneInput s (i - 1280), valid := true, settled := true }

/-- A tick of the fabric at Fh: the exit takes what the entry held, the entry takes the sources' samples, one sample each
(R217). -/
def fabricStep (s : State) : State :=
  let mixed := mixersRun s
  let get (p : Nat) : Smp := vget mixed.2.1 p
  let s := gainsMeet 0 128 (fun s => targetInput s get) mixed.1
  let s := gainsMeet 1152 1280 (fun s i => targetSignal s get (i - 1152)) s
  let sinks := Vector.ofFn (n := 128) (fun k => sinkSample s get k.val)
  let clipped := mixed.2.2.1
  { s with
    fab.targets := vmapi s.fab.targets (fun t x => { x with
      clip := if t < 128 then satAdd 65535 x.clip (vget sinks t).2 else x.clip
      fade := x.fade.map (fun f => { f with pos := min f.n (f.pos + 1) }) })
    fab.mixerClips := satAdd (2 ^ 32 - 1) s.fab.mixerClips clipped.length
    fab.mixClip := s.fab.mixClip ||| BitVec.ofNat 64 (maskOf ((List.range 64).map (fun m => clipped.contains m)))
    fab.snk := sinks.map (fun x => x.1)
    fab.src := Vector.ofFn (fun p => if p.val < 192 then entrySample s p.val else get p.val)
    fab.inNeg := BitVec.ofNat 1280 (negMask 128 (targetInput s get) + mixed.2.2.2
      + negMask 128 (targetSignal s get) * 2 ^ 1152)
    tdm.ports := s.tdm.ports.map (fun p => { p with broken := false })
    tdm.rx := s.tdm.rx.map (fun r => { r with again := 0 })
    gra.play := (s.gra.play.map (fun x => (x.1, x.2.drop 1))).filter (fun x => !x.2.isEmpty) }

/-! ### Landings -/

/-- Output rate of a landing (R192, R194). -/
def landOutHz (s : State) (l : Landing) : Nat :=
  let hz := if l.fall ≠ 0 then l.fallHz.2 else (landRates s l).2
  if hz = 0 then fhHz s else hz

/-- The outputs of the landings rise and fall, at their output rate; what entered before a fall leaves with it. -/
def landsStep (s : State) : State :=
  { s with
    fab.lands := s.fab.lands.map (fun l =>
      if onTick s (landOutHz s l) then
        { l with rise := if l.st = .locked then min 256 (l.rise + 1) else l.rise, fall := l.fall - 1
                 ins := if l.fall = 1 then [] else l.ins }
      else l) }

/-- At the ticks of its input rate a landing takes the samples of its points: inbound what the points give, outbound what
the fabric's exit holds. -/
def landsEnter (out : Bool) (s : State) : State :=
  { s with
    fab.lands := s.fab.lands.map (fun l =>
      if landEn l && landOut l == out && l.st != .off && l.fall == 0 && landClock s l && onTick s (landRates s l).1 then
        { l with ins := ({ at_ := s.time.now
                           smps := (landChans l).map (fun p => if out then vget s.fab.snk p else ownSample s p) } : LandIn)
            :: l.ins.take 399 }
      else l) }

/-! ### Direct lanes (R212 to R215) -/

/-- A lane at one instant at Fi: its gain meets its input, and what it adds at its sink; zero while an end is not
running. -/
def laneStep (s : State) (j : Nat) : State :=
  let x := laneInput s j
  let s := gainMeet (1280 + j) { v := x, valid := true, settled := true } s
  let y := part tuPerMs (laneLevel s j) (applyGain (gainLevel s (1280 + j)) x)
  onLane j (fun l => { l with sig := y, neg := decide (x < 0) }) s

def lanesStep (s : State) : State := (List.range 8).foldl laneStep s

/-- The interpolator of a sink that runs at Fi. -/
def sinkChain (k : Nat) : Nat := if k < 6 then 20 + k else 68 + k

/-- Where the present instant stands after the last sample of a chain, in samples of fc. -/
def sinceSample (s : State) (c : Nat) : Rat :=
  let dt := s.time.now - s.time.tickBase
  let hz := chainHz s c
  ((dt - ticksTu s hz (ticksIn s hz dt) : Nat) : Rat) * (hz : Rat) / 24576000

/-- What an interpolator gives at Fi (R163, R164, R170): its stored samples, group delay and fractional delay back from
the present instant. -/
def interpolated (s : State) (c : Nat) : Int :=
  if (chainOf s c).out.valid then
    Config.interpolated c (chainPhase s c) (chainBand s c) (chainOf s c).conv (convDelay s c - sinceSample s c)
  else 0

/-- The signal at the interpolation stage of a sink that runs at Fi: the fabric's and the lanes', saturated (R212). -/
def sinkStage (s : State) (k : Nat) : Int :=
  stepped s (satFull (interpolated s (sinkChain k)
    + ((s.fab.lanes.toList.filter (fun l => l.snk == k)).map (fun l => l.sig)).foldl (· + ·) 0)).1

end Sys2Proof.Machine
end

