-- ==== Sys2Proof/Machine/Modulator.lean ====
section
/-! DEFINITION. What a drive port does in a carrier period: the demand, the loop, the noise shaper, the legs (R286 to R294,
R300, R301, R306, R307), and what its sense paths give the models (R172, R316, R325). What the stage and the load answer is
open. -/

namespace Sys2Proof.Machine

open Sys2Proof

/-! ### Carrier and edge positions (R286, R287, R307) -/

/-- Modulator periods in a carrier period (Table 12.2). -/
def carrierN (s : State) (n : Nat) : Nat := if grpHigh s (n / 4) then 256 else 512

/-- Edge positions in a carrier period: 64 to a modulator period, whole modulator periods without the edge line, and 64 on
the crystal or the safety RC (R286, R307). -/
def edgeUnits (s : State) (n : Nat) : Nat :=
  if (hallOf s hDRV).clk = .normal then (if s.clk.edge then 64 * carrierN s n else carrierN s n) else 64

/-- `k` modulator periods in edge positions. -/
def modUnits (s : State) (n k : Nat) : Nat := cdiv (k * edgeUnits s n) (carrierN s n)

/-- Position within the running carrier period. -/
def carrierPos (s : State) (n : Nat) : Nat :=
  let u := edgeUnits s n
  if s.time.held then carrierSub s n (driveClock s) % 64
  else (ticksIn s (u * carrierNow s (n / 4)) (s.time.now - s.time.tickBase) + u - Page.get (drvOf s n).page 18 6 * u / 64) % u

/-- Fields of a drive page that the modulator reads (Table 12.11). -/
def drvBridge (s : State) (n : Nat) : Nat := Page.get (drvOf s n).page 27 2
def drvMinPulse (s : State) (n : Nat) : Nat := Page.get (drvOf s n).page 0 8
def drvDead (s : State) (n : Nat) : Nat := Page.get (drvOf s n).page 40 8
def drvBlank (s : State) (n : Nat) : Nat := Page.get (drvOf s n).page 48 8
def drvInv (s : State) (n : Nat) : Bool := Page.bit (drvOf s n).page 24
def drvSensePos (s : State) (n : Nat) : Bool := Page.bit (drvOf s n).page 25
def drvVfbRatio (s : State) (n : Nat) : Nat := Page.get (drvOf s n).page 64 16
def drvRailHk (s : State) (n : Nat) : Nat := Page.get (drvOf s n).page 104 8

/-- m_max (R288). -/
def mMax (s : State) (n : Nat) : Rat :=
  max 0 (1 - 2 * ((drvMinPulse s n + drvDead s n : Nat) : Rat) / (carrierN s n : Nat))

/-- `m` within ±m_max. -/
def limitM (s : State) (n : Nat) (m : Rat) : Rat := clampRat (mMax s n) m

/-! ### Reference (R289, R291, R306, R328) -/

/-- Part of the time to `due` that is left of a ramp of `len` tu. -/
def rampLeft (s : State) (due : Option Nat) (len : Nat) : Rat :=
  match due with
  | some d => min 1 (((d - s.time.now : Nat) : Rat) / ((max 1 len : Nat) : Rat))
  | none => 0

/-- Gain of the interpolated input in a stage (Tables 12.9, 12.10). -/
def inputGain (s : State) (n : Nat) : Rat :=
  let p := drvOf s n
  match p.st, p.stage with
  | .running, _ => 1
  | .softStart, 0x14 => 1 - rampLeft s p.due p.ramp
  | .softStop, 0x01 | .restarting, 0x01 => rampLeft s p.due p.ramp
  | _, _ => 0

/-- The factor of the supply clamp on a port (R328): 0.5, then a linear rise to 1 over 10 ms. -/
def clampFactor (s : State) (n : Nat) : Rat :=
  match limitSupply s with
  | some x =>
    if clampActs s x && x.table.mask.testBit n && (drvOf s n).st == .running then
      match x.riseFrom with
      | some t => 1 / 2 + ((min (msTu 10) (s.time.now - t) : Nat) : Rat) / ((2 * msTu 10 : Nat) : Rat)
      | none => 1 / 2
    else 1
  | none => 1

/-- The time from a sample instant at the modulator input to the begin of the carrier period that carries it: half a carrier
period plus the stated 1.2 µs, so that its centre comes one carrier period plus 1.2 µs after the instant (R289). -/
def carryTu (s : State) (n : Nat) : Nat := (12288000 / (carrierNow s (n / 4) : Rat) + 294912 / 10000).floor.toNat

/-- At the instant of the sample that a coming carrier period carries, the interpolated sample with the lanes that end at the
port is taken (R289). -/
def sampleTake (n : Nat) (s : State) : State :=
  let t := driveClock s + carryTu s n
  let k := carrierAt s n t
  if k != carrierAt s n (t - 1) then
    onDrv n (fun p => { p with pwm := { p.pwm with ahead := p.pwm.ahead.take 3 ++ [(k, sinkStage s (6 + n))] } }) s
  else s

/-- x × FS_V in V of a sample, under gain and clamp. -/
def reference (s : State) (n : Nat) (x : Int) : Rat :=
  (x : Rat) / 2 ^ 31 * inputGain s n * clampFactor s n * ((drvFsV s n : Nat) : Rat) / 100

/-- The sample that the carrier period that begins now carries; without one on its way, the sample at hand. -/
def carried (s : State) (n : Nat) : Int :=
  match (drvOf s n).pwm.ahead.find? (fun x => x.1 == carrierAt s n (driveClock s)) with
  | some x => x.2
  | none => sinkStage s (6 + n)

/-- The rail in mV: measured, or RAIL_MV; external loop takes RAIL_MV (R291). -/
def railMv (s : State) (n : Nat) : Rat :=
  match (if drvLoop s n = 2 then none else (drvOf s n).rail) with
  | some v => v
  | none => (grpRail s (n / 4) : Nat)
/-- V_rail in V: the rail, half of it in the half-bridge mode (R291). -/
def railVolts (s : State) (n : Nat) : Rat := railMv s n / 1000 / (if drvBridge s n = 2 then 2 else 1)

/-! ### The loop (R291, R294, R295) -/

/-- The loop is closed: in closed loop from 0x13 to the end of 0x02 (Tables 12.9, 12.10); never in a characterisation. -/
def loopCloses (s : State) (n : Nat) : Bool :=
  let p := drvOf s n
  drvLoop s n == 0 && p.inForce.isSome && charPort s != some n &&
    (p.st == .running || ((p.st == .softStart) && (p.stage == 0x13 || p.stage == 0x14))
      || ((p.st == .softStop || p.st == .restarting) && (p.stage == 0x01 || p.stage == 0x02)))

/-- The entry that places the loop's poles and zeros, with F_LOOP in effect (R291, R295). -/
def loopEntry (s : State) (n : Nat) : List Byte := floopEntry s n ((drvOf s n).inForce.getD [])

/-- The error at a sense sample, in V: the reference against the filtered output, scaled by VFB_RATIO (R291). -/
def loopError (s : State) (n : Nat) : Rat :=
  (drvOf s n).pwm.ref
    - senseFix (chainOf s (26 + n)) (Config.modulator (26 + n) (driveClock s)) * ((drvVfbRatio s n : Nat) : Rat) / 100

/-- The chirp of a characterisation in progress at a port, at m = 0.05 (Table 12.5). -/
def chirpM (s : State) (n : Nat) : Option Rat :=
  match s.drv.char with
  | some c =>
    if charPort s != some n then none
    else if c.step = 4 then some (clampRat 1 (Config.chirp (msTu 50 - ((c.due.getD s.time.now) - s.time.now))) / 20)
    else some 0
  | none => none

/-- The demand with a loop output, before the limit: the feed-forward term, the reference divided by the rail, plus the loop
output (R291); under INV −m (R288). -/
def demand (s : State) (n : Nat) (out : Rat) : Rat :=
  let m := (chirpM s n).getD ((drvOf s n).pwm.ref / railVolts s n + out)
  if drvInv s n then -m else m

/-- A demand exceeds ±m_max (R294). -/
def exceeds (s : State) (n : Nat) (m : Rat) : Bool := decide (limitM s n m ≠ m)

/-- The loop states after an error: the integrators stand still from the sense sample at which the clamp begins until the
demand returns, and from a limit edge to the end of its carrier period (R294, R301). -/
def loopAfter (s : State) (n : Nat) (wide : Bool) (e : Rat) : List Rat :=
  let w := (drvOf s n).pwm
  let next := Config.loopNext (loopEntry s n) (carrierNow s (n / 4)) w.loop e
  if wide || w.tripped then w.loop.take 2 ++ next.drop 2 else next

/-! ### Noise shaper and edges (R288, R290, R291, Table 12.3) -/

/-- Half of the least width and half of the greatest width of the PWMA pulse in edge positions: each leg is high and low for
MIN_PULSE, with DEAD as m_max has it (R288). -/
def halfLeast (s : State) (n : Nat) : Nat := min (edgeUnits s n / 4) (cdiv (modUnits s n (drvMinPulse s n + drvDead s n)) 2)

/-- What the shaper feeds back: at most 15.5 positions, which a 5th-order shaper with its zeros on the unit circle cannot
exceed (DEDUCED, log entry "Noise shaper"). -/
def shaped (z : List Rat) : Rat :=
  clampRat (31 / 2) (((List.finRange 5).map (fun i => Config.shaperCoef i * z.getD i.val 0)).foldl (· + ·) 0)

/-- One half of a pulse for a demand: the demand limited to ±m_max and quantised to the nearest edge position, with the
errors so far fed back; the half width and the errors after it (R290). -/
def halfPulse (s : State) (n : Nat) (z : List Rat) (m : Rat) : Nat × List Rat :=
  let u := edgeUnits s n
  let v := (1 + limitM s n m) / 4 * (u : Rat) + shaped z
  let q := (v + 1 / 2).floor
  (max (halfLeast s n) (min (u / 2 - halfLeast s n) q.toNat), (v - (q : Rat)) :: z.take 4)

/-- The errors after the leading half, and after the whole carrier period. -/
def shaperHalf (s : State) (n : Nat) (w : Pwm) : List Rat := (halfPulse s n w.shaper w.edges.aLead).2
def shaperEnd (s : State) (n : Nat) (w : Pwm) : List Rat := (halfPulse s n (shaperHalf s n w) w.edges.aTrail).2

/-- Where the four edges fall for a demand: PWMA's are centred on the middle, PWMB's in the BD mode too (Table 12.3). -/
def aLeadAt (s : State) (n : Nat) (w : Pwm) (m : Rat) : Nat := edgeUnits s n / 2 - (halfPulse s n w.shaper m).1
def aTrailAt (s : State) (n : Nat) (w : Pwm) (m : Rat) : Nat := edgeUnits s n / 2 + (halfPulse s n (shaperHalf s n w) m).1
def bLeadAt (s : State) (n : Nat) (w : Pwm) (m : Rat) : Nat := (halfPulse s n w.shaper m).1
def bTrailAt (s : State) (n : Nat) (w : Pwm) (m : Rat) : Nat := edgeUnits s n - (halfPulse s n (shaperHalf s n w) m).1

/-- The time from the end of a sense sample to the first edge that takes it, 200 ns, and the time between two sense samples,
in edge positions (R291). -/
def edgeGuard (s : State) (n : Nat) : Nat := cdiv (edgeUnits s n * carrierNow s (n / 4)) 5000000
def senseStepPos (s : State) (n : Nat) : Nat := edgeUnits s n / sensePer s n

/-- The demand of the latest sense sample that ends at least 200 ns before the edge it gives: the newest first, the first of
them ending at `x` (R291). -/
def edgePick (at_ : Rat → Nat) (guard step : Nat) : Int → List Rat → Option Rat
  | _, [] => none
  | x, m :: l => if x + guard ≤ at_ m then some m else edgePick at_ guard step (x - step) l

/-- The demand of an edge at a carrier boundary. -/
def edgeFirst (s : State) (n : Nat) (ms : List Rat) (at_ : Rat → Nat) : Rat :=
  (edgePick at_ (edgeGuard s n) (senseStepPos s n) 0 ms).getD (ms.getLastD 0)
/-- An edge at a sense sample that ends at `x`: an edge still to come takes the new demand where it gives it 200 ns. -/
def edgeLater (s : State) (n x : Nat) (m : Rat) (at_ : Rat → Nat) (old : Rat) : Rat :=
  if x < at_ old ∧ x + edgeGuard s n ≤ at_ m then m else old

/-- Interval of a leg, dropped where it is empty. -/
def span (a b : Nat) : List (Nat × Nat) := if a < b then [(a, b)] else []

/-- PWMA and PWMB in a carrier period of `u` positions for the edges of both pulses: the bridge modes of Table 12.3 with the
dead time in positions. -/
def legPulses (bridge u dead : Nat) (a : Nat × Nat) (b : Nat × Nat) : List (Nat × Nat) × List (Nat × Nat) :=
  match bridge with
  | 0 => (span a.1 a.2, span b.1 b.2)
  | 1 => (span a.1 a.2, span 0 a.1 ++ span a.2 u)
  | _ => (span a.1 a.2, span 0 (a.1 - dead) ++ span (a.2 + dead) u)

/-- The legs under the common-mode ramps. -/
def legCommon (bridge u dead : Nat) (duty : Rat) : List (Nat × Nat) × List (Nat × Nat) :=
  let h := (duty / 2 * (u : Rat)).floor.toNat
  let a := span (u / 2 - h) (u / 2 + h)
  if bridge = 2 then (a, span 0 (u / 2 - h - dead) ++ span (u / 2 + h + dead) u) else (a, a)

/-- The legs follow the edges. -/
def withEdges (s : State) (n : Nat) (w : Pwm) : Pwm :=
  let x := legPulses (drvBridge s n) (edgeUnits s n) (modUnits s n (drvDead s n))
    (aLeadAt s n w w.edges.aLead, aTrailAt s n w w.edges.aTrail) (bLeadAt s n w w.edges.bLead, bTrailAt s n w w.edges.bTrail)
  { w with a := x.1, b := x.2 }

/-- The edges at a carrier boundary, from the demands of the latest sense samples. -/
def edgesFirst (s : State) (n : Nat) (ms : List Rat) (w : Pwm) : Pwm :=
  let w := { w with edges.aLead := edgeFirst s n ms (aLeadAt s n w), edges.bLead := edgeFirst s n ms (bLeadAt s n w) }
  withEdges s n { w with
    edges.aTrail := edgeFirst s n ms (aTrailAt s n w), edges.bTrail := edgeFirst s n ms (bTrailAt s n w) }

/-- The edges after a sense sample that ends at `x`; a limit edge has ended the pulses of its carrier period. -/
def edgesLater (s : State) (n x : Nat) (m : Rat) (w : Pwm) : Pwm :=
  if w.tripped then w
  else
    let w := { w with
      edges.aLead := edgeLater s n x m (aLeadAt s n w) w.edges.aLead
      edges.bLead := edgeLater s n x m (bLeadAt s n w) w.edges.bLead }
    withEdges s n { w with
      edges.aTrail := edgeLater s n x m (aTrailAt s n w) w.edges.aTrail
      edges.bTrail := edgeLater s n x m (bTrailAt s n w) w.edges.bTrail }

/-- A sense sample ends (R291): in closed loop the loop takes its error and the edges still to come take the demand. -/
def loopStep (n : Nat) (s : State) : State :=
  let w := (drvOf s n).pwm
  if !loopCloses s n || w.legs != .pulses then s
  else
    let e := loopError s n
    let out := Config.loopOut (loopEntry s n) (carrierNow s (n / 4)) w.loop e
    let m := demand s n out
    let past := exceeds s n m
    let wide := decide (((drvFsV s n : Nat) : Rat) / 400 < absRat e) && !past
    onDrv n (fun p => { p with
      pwm := edgesLater s n (if carrierEdge s n then edgeUnits s n else carrierPos s n) m { w with
        loop := loopAfter s n past e, outs := (out :: w.outs).take 3, past := past, clip := w.clip || past
        errFrom := if wide then some (w.errFrom.getD s.time.now) else none } }) s

/-! ### A carrier boundary -/

/-- m of a quiet stop: a linear fall over its 256 carrier periods (R307). -/
def quietM (s : State) (n : Nat) : Rat :=
  let w := (drvOf s n).pwm
  w.from_ * ((256 - w.quiet : Nat) : Rat) / 256

/-- What a port's stage asks of its legs (Tables 12.9, 12.10, R307). -/
def legsOf (s : State) (n : Nat) : Legs :=
  let p := drvOf s n
  match p.st, p.stage with
  | .running, _ => .pulses
  | .softStart, 0x12 =>
    if p.waiting then .idle
    else if p.due.isNone then .pulses
    else .common ((1 - rampLeft s p.due (ssTu s n)) / 2)
  | .softStop, 0x12 => .common ((1 - rampLeft s p.due (ssTu s n)) / 2)
  | .softStart, 0x13 | .softStart, 0x14 => .pulses
  | .softStop, 0x01 | .softStop, 0x02 | .restarting, 0x01 | .restarting, 0x02 => .pulses
  | .softStop, 0x03 | .restarting, 0x03 => .common (rampLeft s p.due (ssTu s n) / 2)
  | .quietStop, _ => if p.due.isSome && decide (p.pwm.quiet < 256) then p.pwm.legs else .idle
  | _, _ => .idle

/-- Edges of a carrier period: the ends of the intervals that lie within it. -/
def edgesIn (u : Nat) (w : Pwm) : List Nat :=
  ((w.a ++ w.b).flatMap (fun x => [x.1, x.2])).filter (fun x => decide (0 < x ∧ x < u))

/-- What the blanking of a carrier period's edges leaves for the next one, in edge positions (R300). -/
def blankLeft (s : State) (n : Nat) : Nat :=
  let u := edgeUnits s n
  ((edgesIn u (drvOf s n).pwm).map (fun e => e + modUnits s n (drvBlank s n) - u)).foldl max 0

/-- What a carrier boundary begins with, whatever the legs do: CLIPS counts the period that ends (R294), ILIM and BLANK apply
(R313), a limit edge lasts no longer (R301). -/
def pwmBoundary (n : Nat) (s : State) : State :=
  let blank := blankLeft s n
  drvTake n (onDrv n (fun p => { p with
    clamped := p.pwm.clip, clips := if p.pwm.clip then satAdd 65535 p.clips 1 else p.clips
    pwm := { p.pwm with
      clip := false, tripped := false, blankTo := blank
      quiet := if p.st = .quietStop then p.pwm.quiet + 1 else p.pwm.quiet } }) s)

/-- A carrier boundary of a port (R288 to R294): the sample it carries, the demand, the shaper, the legs. -/
def pwmStep (n : Nat) (s : State) : State :=
  let legs := legsOf s n
  let s := pwmBoundary n s
  let w := (drvOf s n).pwm
  let next := if w.legs = .pulses then shaperEnd s n w else w.shaper
  match legs with
  | .idle =>
    onDrv n (fun p => { p with clamped := false, pwm := { ahead := w.ahead, quiet := w.quiet, from_ := w.from_ } }) s
  | .common d =>
    let x := legCommon (drvBridge s n) (edgeUnits s n) (modUnits s n (drvDead s n)) d
    onDrv n (fun p => { p with
      pwm := { w with legs := .common d, edges := {}, a := x.1, b := x.2, loop := List.replicate 4 0, outs := [], past := false
                      errFrom := none, ref := 0, shaper := next } }) s
  | .pulses =>
    if (drvOf s n).st = .quietStop then
      onDrv n (fun p => { p with
        pwm := edgesFirst s n [quietM s n] { w with legs := .pulses, shaper := next, outs := [], past := false } }) s
    else
      let s := onDrv n (fun p => { p with pwm := { p.pwm with ref := reference s n (carried s n), shaper := next } }) s
      let w := (drvOf s n).pwm
      let ms := (if loopCloses s n && !w.outs.isEmpty then w.outs else [0]).map (demand s n)
      let past := exceeds s n (ms.headD 0)
      onDrv n (fun p => { p with
        pwm := edgesFirst s n ms { w with
          legs := .pulses, past := past, clip := past
          loop := if loopCloses s n then w.loop else List.replicate 4 0, outs := if loopCloses s n then w.outs else []
          errFrom := if loopCloses s n then w.errFrom else none } }) s

/-! ### The limit edge (R300, R301, Table 12.6) -/

/-- High intervals cut at a position. -/
def cutAt (k : Nat) (l : List (Nat × Nat)) : List (Nat × Nat) := l.flatMap (fun x => span x.1 (min k x.2))

/-- A limit edge at position `k` ends the drive in the direction of the current for the rest of the carrier period. -/
def limitEdge (bridge u dead k : Nat) (positive : Bool) (w : Pwm) : Pwm :=
  let low (l : List (Nat × Nat)) := cutAt k l
  let high (l : List (Nat × Nat)) (from_ : Nat) := cutAt k l ++ span from_ u
  let x := match bridge, positive with
    | 0, true => (low w.a, w.b)
    | 0, false => (w.a, low w.b)
    | 1, true => (low w.a, high w.b k)
    | 1, false => (high w.a k, low w.b)
    | _, true => (low w.a, high w.b (k + dead))
    | _, false => (high w.a (k + dead), low w.b)
  { w with a := x.1, b := x.2, tripped := true }

/-- The first position from `k` on that no blanking interval covers: each edge blanks the comparator for BLANK modulator
periods (R300). -/
def blankEnd (s : State) (n k : Nat) : Nat :=
  let w := (drvOf s n).pwm
  let es := edgesIn (edgeUnits s n) w
  let b := modUnits s n (drvBlank s n)
  es.foldl (fun x _ => es.foldl (fun x e => if e ≤ x ∧ x < e + b then e + b else x) x) (max k w.blankTo)

/-- A limit edge of a port at position `k` of its running carrier period. -/
def limitAt (n : Nat) (positive : Bool) (k : Nat) (s : State) : State :=
  onDrv n (fun p => { p with
    pwm := limitEdge (drvBridge s n) (edgeUnits s n) (modUnits s n (drvDead s n)) k positive p.pwm }) s

/-! ### What the sense paths give the models (R172, R316, R325) -/

/-- Volts and amperes of a fine or fast value in full scales (R173, VFB_RATIO, ISN_SCALE). -/
def senseVolts (s : State) (n : Nat) (x : Rat) : Rat := x * ((drvVfbRatio s n : Nat) : Rat) / 100
def senseAmps (s : State) (n : Nat) (x : Rat) : Rat := x * ((drvIsnScale s n : Nat) : Rat) / 10

/-- A fast value of each sense converter: without COARSE_VALID it is ignored (R172). -/
def fastMeasure (n : Nat) (s : State) : State :=
  let v := chainOf s (26 + n)
  let i := chainOf s (50 + n)
  if v.coarseOk && i.coarseOk then
    onDrv n (fun p => { p with load_ := { p.load_ with
      fast := p.load_.fast + 1
      sumVi := p.load_.sumVi + max 0 (senseVolts s n v.coarse * senseAmps s n i.coarse) } }) s
  else s

/-- i_L of a fine sample (R316): in the inductor position less C × dv/dt, with the load entry in force. -/
def loadCurrent (s : State) (n : Nat) (v i : Rat) : Rat :=
  let p := drvOf s n
  match p.inForce with
  | some e =>
    if drvSensePos s n || !p.load_.seen then i
    else i - ((leAt e 4 4 : Nat) : Rat) / 1000000000 * (v - p.load_.v) * ((fhHz s : Nat) : Rat)
  | none => i

/-- The fine samples of a port at a tick of Fh (R173, R316). -/
def fineMeasure (n : Nat) (s : State) : State :=
  if (chainOf s (26 + n)).resetAt.isNone then
    (if (drvOf s n).load_.seen then onDrv n (fun p => { p with load_ := { p.load_ with seen := false, v := 0, iL := 0 } }) s
     else s)
  else
    let v := senseVolts s n (((chainOf s (26 + n)).out.v : Rat) / 2 ^ 31)
    let i := loadCurrent s n v (senseAmps s n (((chainOf s (50 + n)).out.v : Rat) / 2 ^ 31))
    onDrv n (fun p => { p with load_ := { p.load_ with
      v := v, iL := i, seen := true, count := p.load_.count + 1, sumI2 := p.load_.sumI2 + i * i } }) s

/-- Mean of i_L squared over the frame in A² (R319). -/
def meanI2 (s : State) (n : Nat) : Rat :=
  let l := (drvOf s n).load_
  if l.count = 0 then 0 else l.sumI2 / (l.count : Rat)

/-- A frame's sums start again. -/
def frameSums (s : State) : State :=
  { s with
    drv.ports := s.drv.ports.map (fun p => { p with load_ := { p.load_ with count := 0, sumI2 := 0, fast := 0, sumVi := 0 } })
    hk.chans := s.hk.chans.map (fun h => { h with frameN := 0, frameSum := 0 }) }

/-- Mean of a channel's results in the frame; without one the latest result. -/
def frameMean (s : State) (c : Nat) : Rat :=
  let h := hkCh s c
  if h.frameN = 0 then (h.value : Rat) else (h.frameSum : Rat) / (h.frameN : Rat)

/-- The rails that RAIL_HK measures are applied once per frame (R291). -/
def railsTake (s : State) : State :=
  { s with
    drv.ports := vmapi s.drv.ports (fun n p =>
      { p with rail := if drvRailHk s n < 24 then some (frameMean s (drvRailHk s n)) else none }) }

/-- The fine samples at a tick of Fh. -/
def fineStep (s : State) : State := (List.range 24).foldl (fun s n => fineMeasure n s) s

end Sys2Proof.Machine
end

