-- ==== Sys2Proof/Machine/TdmRows.lean ====
section
/-! DEFINITION. Meanings of the TDM and S/PDIF commands and events (chapter 09). -/

namespace Sys2Proof.Machine

open Sys2Proof

/-! ### TDM -/

/-- STATE (TDM_STATUS_GET). -/
def TdmState.code : TdmState → Nat
  | .off => 0 | .acquiring => 1 | .running => 2 | .lost => 3 | .retired => 4 | .held => 5

/-- Bindings of a port that are inactive (R224). -/
def tdmInactive (s : State) (n : Nat) : Nat :=
  let slots := ((tdmFormat s n).map (fun f => f.slots)).getD 0
  ((tdmOf s n).map.filter (fun b => decide (slots ≤ b.slot))).length

/-- TDM_STATUS_GET: SLOT_ERRS is cleared by the read. -/
def execTdmStatusGet (q : Req) (s : State) : Out :=
  .next (serve { code := 0x0C00, owner := false, report := true, len := lenIs 0 }
    (fun _ _ s =>
      ({ s with tdm.ports := s.tdm.ports.map (fun p => { p with slotErrs := 0 }) },
       ans .ok ((List.range 6).flatMap (fun n =>
         let p := tdmOf s n
         b1 (shown 8 s p.st.code) ++ b1 (p.rate.getD 0xFF) ++ b1 (Page.get p.page 0 3) ++ b1 (tdmInactive s n) ++ b2 p.slotErrs
           ++ b2 p.losses)))) q s)

/-- TDM_PORT_SET (R218, R222). -/
def execTdmPortSet (q : Req) (s : State) : Out :=
  .next (serve { code := 0x0C01, owner := true, len := lenIs 4, halls := needAUD,
                 fields := fun q s => decide (q.u8 0 < 6 ∧ q.u8 1 < 2 ∧ q.u8 2 < 2)
                   && decide (q.u8 3 < (tdmOf s (q.u8 0)).formats.length) && !(q.u8 2 == 1 && tdmIsRef s (q.u8 0)) }
    (fun _ q s =>
      let n := q.u8 0
      if (tdmOf s n).st = .retired then (s, ans .retired)
      else
        let page := putBits (putBits (putBits (tdmOf s n).page.toNat 31 1 (q.u8 1)) 30 1 (q.u8 2)) 0 3 (q.u8 3)
        (tdmSet n page s, ans .ok)) q s)

/-- TDM_FORMAT_TAKE_EFFECT (R222): a change of the entry in use restarts the port. -/
def execTdmFormatTakeEffect (n : Fin 6) (s : State) : Out :=
  .next (
    if !hallRuns s hAUD then s else
    match (tdmOf s n.val).newFormats with
    | none => s
    | some fs =>
      let old := tdmFormat s n.val
      let cid := (tdmOf s n.val).fmtCid
      let s := onTdm n.val (fun p => { p with formats := fs, newFormats := none, fmtCid := none }) s
      complete cid .ok (if tdmFormat s n.val = old then s else pathFollow (tdmStart n.val s)))

/-- TDM_SLOT_MAP_TAKE_EFFECT (R224): at the port's next FSYNC. -/
def execTdmSlotMapTakeEffect (n : Fin 6) (s : State) : Out :=
  .next (
    if !hallRuns s hAUD then s else
    match (tdmOf s n.val).newMap with
    | none => s
    | some m =>
      complete (tdmOf s n.val).mapCid .ok
        (pathFollow (onTdm n.val (fun p => { p with map := m, newMap := none, mapCid := none }) s)))

/-- Landings with a point bound to a port acquire afresh (R227). -/
def tdmLandsAfresh (n : Nat) (s : State) : State :=
  [0, 1, 2, 3].foldl (fun s k =>
    let l := landOf s k
    let hit := (landChans l).any (fun p => match tdmBinding s (landOut l) p with | some b => b.1 == n | none => false)
    if landEn l && hit then landLose k s else s) s

/-- TDM_SLAVE_ACQUIRED (R225, R227): argument 1, and 2 where the rate differs from the one before the loss. -/
def execTdmSlaveAcquired (n : Fin 6) (rate : Fin 12) (s : State) : Out :=
  .next (
    let p := tdmOf s n.val
    if (p.st == .acquiring || p.st == .lost) && !p.backoff && tdmEn s n.val && !tdmMaster s n.val
        && framesPassed s p.since rate.val 64 && hallRuns s hAUD then
      let s := raise (176 + n.val) 1 (onTdm n.val (fun p => { p with
        st := .running, rate := some rate.val, before := none, errWindow := none, startAt := s.time.now + 1, dozed := false }) s)
      match p.before with
      | some r => if r = rate.val then s else tdmLandsAfresh n.val (raise (176 + n.val) 2 s)
      | none => s
    else s)

/-- A slave port's clock is lost (R227, R228): its reference coasts, the supervisor hears of it under FAULT_EN. -/
def tdmClockLoss (n : Nat) (s : State) : State :=
  let ref := tdmIsRef s n
  let s := tdmLose n s
  let s := if ref then refLose 1 s else s
  if tdmFaultEn s n then superviseFault 3 n 1 s else s

/-- A slave port runs on its clock, in a hall that runs (R22). -/
def tdmSlaveRuns (s : State) (n : Nat) : Bool :=
  (tdmOf s n).st == .running && !tdmMaster s n && hallRuns s hAUD

/-- TDM_SLOT_ERROR (R226): the third in a window counts as a clock loss. -/
def execTdmSlotError (n : Fin 6) (s : State) : Out :=
  .next (
    if tdmSlaveRuns s n.val then
      let w := match (tdmOf s n.val).errWindow with
        | some (t, k) => if s.time.now < t + 245760 then (t, k + 1) else (s.time.now, 1)
        | none => (s.time.now, 1)
      let s := raise 187 n.val (onTdm n.val (fun p => { p with
        broken := true, slotErrs := satAdd 65535 p.slotErrs 1, errWindow := some w }) s)
      if 3 ≤ w.2 then tdmClockLoss n.val s else s
    else s)

/-- TDM_CLOCK_LOST (R227). -/
def execTdmClockLost (n : Fin 6) (s : State) : Out := .next (if tdmSlaveRuns s n.val then tdmClockLoss n.val s else s)

/-! ### S/PDIF -/

def RxState.code : RxState → Nat
  | .off => 0 | .unlocked => 1 | .pcm => 2 | .nonPcm => 3

/-- SPDIF_STATUS_GET: ERRS is cleared by the read. -/
def execSpdifStatusGet (q : Req) (s : State) : Out :=
  .next (serve { code := 0x0D00, owner := false, report := true, len := lenIs 0 }
    (fun _ _ s =>
      ({ s with tdm.rx := s.tdm.rx.map (fun r => { r with errs := 0 }) },
       ans .ok (([0, 1] : List Nat).flatMap (fun k =>
         let r := rxOf s k
         b1 (shown 8 s r.st.code) ++ b1 (r.rate.getD 0xFF) ++ b1 (b2n (passOk s k) + 2 * b2n (rxIsRef s k)) ++ b1 r.pcType
           ++ b2 r.errs ++ rz 2) ++ b1 (shown 8 s s.tdm.outState) ++ rz 3))) q s)

/-- The receiver fields of page 0x0D00. -/
def rxPut (k en coax vmode act port slot : Nat) (s : State) : State :=
  let p := Page.put s.tdm.page0D00 (8 * k) 8 (en * 128 + coax * 64 + vmode * 32 + act * 16)
  { s with tdm.page0D00 := Page.put p (16 + 16 * k) 16 (port * 256 + slot) }

/-- SPDIF_IN_SET (R230 to R234). -/
def execSpdifInSet (q : Req) (s : State) : Out :=
  .next (serve { code := 0x0D01, owner := true, len := lenIs 8, halls := needAUD,
                 fields := fun q s => decide (q.u8 0 < 2 ∧ q.u8 1 < 2 ∧ q.u8 2 < 2 ∧ q.u8 3 < 2 ∧ q.u8 4 < 2 ∧ q.u8 5 < 6
                   ∧ q.u8 6 < 31) && zeros q 7 1 && (q.u8 4 == 0 || passConds s (q.u8 0) (q.u8 5)) }
    (fun _ q s =>
      (rxEnable (q.u8 0) (rxPut (q.u8 0) (q.u8 1) (q.u8 2) (q.u8 3) (q.u8 4) (q.u8 5) (q.u8 6) s), ans .ok)) q s)

/-- SPDIF_CS_READ (R235, R237). -/
def execSpdifCsRead (q : Req) (s : State) : Out :=
  .next (serve { code := 0x0D02, owner := false, report := true, len := lenIs 4,
                 fields := fun q _ => decide (q.u8 0 < 3) && zeros q 1 3 }
    (fun _ q s =>
      if q.u8 0 = 2 then (s, ans .ok (outSent s))
      else match (rxOf s (q.u8 0)).status with
        | none => (s, ans .notReady)
        | some st => (s, ans .ok (st ++ ((rxOf s (q.u8 0)).user.getD (List.replicate 48 0))))) q s)

/-- SPDIF_OUT_SET (R236). -/
def execSpdifOutSet (q : Req) (s : State) : Out :=
  .next (serve { code := 0x0D03, owner := true, len := lenIs 4, halls := needAUD,
                 fields := fun q _ => decide (q.u8 0 < 2 ∧ q.u8 2 < 3 ∧ q.u8 3 < 2) && within 5 11 (q.u8 1) }
    (fun _ q s =>
      let was := outRate s
      (outChange was { s with
        tdm.page0D00 := Page.put s.tdm.page0D00 48 16
          (q.u8 0 * 2 ^ 15 + q.u8 3 * 2 ^ 14 + q.u8 2 * 2 ^ 12 + q.u8 1 * 2 ^ 8) }, ans .ok)) q s)

/-- SPDIF_OUT_CS_SET (R237): bytes for the next block, or kept for the start of a transmitter that is off. -/
def execSpdifOutCsSet (q : Req) (s : State) : Out :=
  .next (serve { code := 0x0D04, owner := true, len := lenIs 96, halls := needAUD,
                 fields := fun q _ => !(q.u8 0).testBit 1 && !(q.u8 24).testBit 1 }
    (fun cid q s =>
      if !outEn s then ({ s with tdm.outBytes := q.payload }, ans .notReady)
      else
        let cids := match s.tdm.outNext with | some x => x.2 | none => []
        ({ s with tdm.outNext := some (q.payload, cids ++ [cid]) }, ans .pending)) q s)

/-- Rates a receiver locks to (R230). -/
def rxRate (code : Nat) : Bool := [32000, 44100, 48000, 88200, 96000, 176400, 192000].contains (rateHz code)

/-- SPDIF_IN_LOCK (R231, R233): 64 frames have come. -/
def execSpdifInLock (k : Fin 2) (rate : Fin 12) (nonPcm : Bool) (s : State) : Out :=
  .next (
    if rxEn s k.val && (rxOf s k.val).st == .unlocked && rxRate rate.val
        && framesPassed s (rxOf s k.val).since rate.val 64 && hallRuns s hAUD then
      raise (182 + k.val) (if nonPcm then 2 else 1)
        (onRx k.val (fun r => { r with
          st := if nonPcm then .nonPcm else .pcm, rate := some rate.val, since := s.time.now, clean := false
          bits16 := false }) s)
    else s)

/-- A receiver is locked, in a hall that runs (R22). -/
def rxLocked (s : State) (k : Nat) : Bool :=
  ((rxOf s k).st == .pcm || (rxOf s k).st == .nonPcm) && hallRuns s hAUD

/-- SPDIF_IN_UNLOCK (R231): ASYN coasts where the receiver is its reference. -/
def execSpdifInUnlock (k : Fin 2) (s : State) : Out :=
  .next (if rxLocked s k.val then
      let ref := rxIsRef s k.val
      let s := rxLose k.val s
      if ref then refLose 1 s else s
    else s)

/-- SPDIF_SUBFRAME_ERROR (R232): the channel of the subframe repeats its previous sample. -/
def execSpdifSubframeError (k : Subframe) (s : State) : Out :=
  .next (if rxLocked s k.rx.val then
      onRx k.rx.val (fun r => { r with errs := satAdd 65535 r.errs 1, again := r.again ||| BitVec.ofNat 2 (2 ^ k.sub.val) }) s
    else s)

/-- SPDIF_NONPCM_DETECTED (R233): a burst preamble, with its Pc or before one has been read; the data type of a Pc seen is
kept. The non-audio bit of a block comes with SPDIF_BLOCK_END. -/
def execSpdifNonpcmDetected (k : Fin 2) (pc : Option (Fin 32)) (bits16 : Bool) (s : State) : Out :=
  .next (if rxLocked s k.val then
      let was := (rxOf s k.val).st
      let s := onRx k.val (fun r => { r with
        st := .nonPcm, bits16 := bits16, since := s.time.now, clean := false
        pcType := match pc with | some x => x.val | none => r.pcType }) s
      if was = .pcm then raise (182 + k.val) 2 s else s
    else s)

/-- SPDIF_PCM_RETURN (R233): 4,096 frames without a burst preamble, and a complete block with bit 1 at 0 among them. -/
def execSpdifPcmReturn (k : Fin 2) (s : State) : Out :=
  .next (
    let r := rxOf s k.val
    if r.st = .nonPcm ∧ hallRuns s hAUD ∧ r.clean ∧ framesPassed s r.since (r.rate.getD 0) 4096 then
      raise (182 + k.val) 1 (onRx k.val (fun r => { r with st := .pcm, bits16 := false }) s)
    else s)

/-- A complete block carries the non-audio bit, in subframe A or B. -/
def nonAudio (status : List Byte) : Bool := (leAt status 0 1).testBit 1 || (leAt status 24 1).testBit 1

/-- What the non-audio bit of a complete block does: at 1 the receiver is NON-PCM, at 0 the block counts for the return
(R233). -/
def blockKind (k : Nat) (status : List Byte) (s : State) : State :=
  if nonAudio status then
    if (rxOf s k).st = .pcm then
      raise (182 + k) 2 (onRx k (fun r => { r with st := .nonPcm, since := s.time.now, clean := false }) s)
    else s
  else onRx k (fun r => { r with clean := true }) s

/-- SPDIF_BLOCK_END (R233, R235): user bits at every complete block, channel status when a change repeats. -/
def execSpdifBlockEnd (k : Fin 2) (good : Bool) (status user : List Byte) (s : State) : Out :=
  .next (
    if !hallRuns s hAUD then s else
    if !rxLocked s k.val then s
    else
    let s := markSeen (14 + k.val) s
    if !good then onRx k.val (fun r => { r with candidate := none }) s
    else
      let s := blockKind k.val (sliceBytes status 0 48) s
      let r := rxOf s k.val
      let st := sliceBytes status 0 48
      let a (x : Option (List Byte)) : Option (List Byte) := x.map (fun b => b.take 24)
      let s := onRx k.val (fun r => { r with user := some (sliceBytes user 0 48) }) s
      if a r.status = some (st.take 24) then onRx k.val (fun r => { r with candidate := none }) s
      else if a r.candidate = some (st.take 24) then
        raise (184 + k.val) 0 (onRx k.val (fun r => { r with status := some st, candidate := none }) s)
      else onRx k.val (fun r => { r with candidate := some st }) s)

/-- SPDIF_OUT_BLOCK_START (R236, R237): the line starts with the next frame, or goes on. -/
def execSpdifOutBlockStart (_valid : Computed) (s : State) : Out :=
  .next (
    if !outEn s || !hallRuns s hAUD then s
    else
      let s := { s with
        tdm.outState := if (exitSample s 62).valid || (exitSample s 63).valid then 1
          else if s.tdm.outState = 0 then 2 else s.tdm.outState }
      match s.tdm.outNext with
      | some (b, cids) => completeAll cids .ok { s with tdm.outBytes := b, tdm.outNext := none }
      | none => s)

/-- SPDIF_OUT_UNDERRUN (R237): the frame to be sent has no VALID sample. -/
def execSpdifOutUnderrun (s : State) : Out :=
  .next (if s.tdm.outState ≠ 0 ∧ s.tdm.outValid ∧ hallRuns s hAUD ∧ !(exitSample s 62).valid ∧ !(exitSample s 63).valid then raise 186 0 { s with tdm.outState := 2, tdm.outValid := false }
    else s)

end Sys2Proof.Machine
end

