-- ==== Sys2Proof/Machine/DriveRows.lean ====
section
/-! DEFINITION. Meanings of the drive-port commands and events (chapter 12). -/

namespace Sys2Proof.Machine

open Sys2Proof

/-! ### Reports -/

/-- The loop of a port is closed (LOOP 0, from stage 0x13 to stage 2). -/
def drvClosed (s : State) (n : Nat) : Bool :=
  let p := drvOf s n
  drvLoop s n == 0 && (p.st == .running || p.stage == 0x13 || p.stage == 0x14 || p.stage == 0x01 || p.stage == 0x02)

/-- F_LOOP_CLAMPED (R295). -/
def drvClamped (s : State) (n : Nat) : Bool :=
  match presentEntry s n with
  | some e => decide (floopLimit s n < leAt e 18 2)
  | none => false

/-- G_STAGE: 0x12 while starting under its grant, 0x03 while stopping. -/
def grpStage (k : DrvGroup) : Nat :=
  match k.st with
  | .starting => if k.asked then 0 else 0x12
  | .stopping | .restarting => 0x03
  | _ => 0

/-- DRV_STATUS_GET: TRIPS and CLIPS are cleared by the read. -/
def execDrvStatusGet (q : Req) (s : State) : Out :=
  .next (serve { code := 0x1000, owner := false, report := true, len := lenIs 0 }
    (fun _ _ s =>
      ({ s with drv.ports := s.drv.ports.map (fun p => { p with trips := 0, clips := 0 }) },
       ans .ok ((List.range 24).flatMap (fun n =>
         let p := drvOf s n
         b1 (shown 0x10 s p.st.code) ++ b1 (shown 0x10 s p.stage)
           ++ b1 (maskOf [p.clamped, drvClosed s n, p.measured.isSome, p.autoStopped && p.st == .stopped, drvClamped s n,
             p.resume && p.st == .stopped, p.loadPending])
           ++ rz 1 ++ b2 p.trips ++ b2 p.clips)
         ++ (List.range 6).flatMap (fun g => b1 (shown 0x10 s (grpOf s g).st.code) ++ b1 (shown 0x10 s (grpStage (grpOf s g))))))) q s)

/-- DRV_LOAD_READ. -/
def execDrvLoadRead (q : Req) (s : State) : Out :=
  .next (report { code := 0x1004, owner := false, report := true, len := lenIs 4,
                  fields := fun q _ => decide (q.u8 0 < 24 ∧ q.u8 1 < 2) && zeros q 2 2 }
    (fun q s =>
      let e := if q.u8 1 = 0 then (drvOf s (q.u8 0)).load else (drvOf s (q.u8 0)).measured
      b1 (b2n e.isSome) ++ rz 3 ++ e.getD (rz 32)) q s)

/-- `x`, at least `least` where the part guarantees it. -/
def guaranteed (holds : Bool) (least x : Nat) : Nat := if holds then max least x else x

/-- PM, GM, CORR_1K and CORR_20K of a port's loop with a load entry, its carrier and the rail it uses, at RL: with a rail from
0.5 to 1.25 times RAIL_MV the margins are at least 45° and 10 dB, and with F_LOOP in effect at or above 900 the corrections
at least 40 dB and 26 dB (R292, R293). -/
def loopFigures (s : State) (n : Nat) (e : List Byte) : Nat × Nat × Nat × Nat :=
  let nominal : Rat := (grpRail s (n / 4) : Nat)
  let f := Config.loopFigures (floopEntry s n e) (carrierHz s (n / 4)) (railMv s n)
  let stable := decide (nominal ≤ 2 * railMv s n ∧ 4 * railMv s n ≤ 5 * nominal)
  let strong := stable && decide (900 ≤ floopOf s n e)
  (guaranteed stable 450 f.1, guaranteed stable 100 f.2.1, guaranteed strong 400 f.2.2.1, guaranteed strong 260 f.2.2.2)

/-- DRV_LOOP_READ (R292, R293, R295, R296). -/
def execDrvLoopRead (q : Req) (s : State) : Out :=
  .next (serve { code := 0x1080, owner := false, report := true, len := lenIs 4,
                 fields := fun q _ => decide (q.u8 0 < 24) && zeros q 1 3 }
    (fun _ q s =>
      let n := q.u8 0
      match presentEntry s n with
      | none => (s, ans .notReady)
      | some e =>
        if drvLoop s n ≠ 0 ∨ (loadEntry s n).isNone then (s, ans .notReady)
        else
          let f := loopFigures s n e
          (s, ans .ok (b4 (resonance (leAt e 0 4) (leAt e 4 4)) ++ b2 (floopOf s n e) ++ b2 f.1 ++ b2 f.2.1
            ++ b2 f.2.2.1 ++ b2 f.2.2.2 ++ rz 2))) q s)

/-! ### Enabling -/

/-- ASYN and the edge line are locked (NO_LOCK, R28). -/
def drvLocked (s : State) : Bool := asynRuns s && s.clk.edge

/-- The first reason that refuses a DRV_ENABLE of the ports of a mask (R315, R382). -/
def drvRefusal (mask : Nat) (on : Bool) (s : State) : Option Status :=
  let ns := maskList mask 24
  let aborts := !on && ns.any (charNames s)
  if on && !drvLocked s then some .noLock
  else if on && !ns.all (loadValid s) then some .notReady
  else if ns.any (fun n => (drvOf s n).st == .safeStop) || (s.drv.char.isSome && !aborts) || (on && s.pwr.shut) then some .busy
  else if ns.any (drvRetired s) then some .retired
  else none

/-- A port is where a command leads. -/
def drvThere (s : State) (on : Bool) (n : Nat) : Bool :=
  let p := drvOf s n
  if on then p.st == .running else p.st == .stopped && !p.again
/-- A port that is there already stays: EN and what the host asked for follow. -/
def drvStay (n : Nat) (on : Bool) (s : State) : State :=
  drvPutEn n on (onDrv n (fun p => { p with wanted := on, autoStopped := false, resume := false }) s)

/-- DRV_ENABLE (R305 to R309, R126, R127). A disable of a named port ends a characterisation (R299). -/
def execDrvEnable (q : Req) (s : State) : Out :=
  .next (serve { code := 0x1001, owner := true, len := lenIs 8, halls := needDRV,
                 fields := fun q _ => maskOk (q.u32 0) 24 && decide (q.u8 4 < 2) && zeros q 5 3 }
    (fun cid q s =>
      let on := q.u8 4 == 1
      let ns := maskList (q.u32 0) 24
      match drvRefusal (q.u32 0) on s with
      | some st => (s, ans st)
      | none =>
        let s := if ns.any (charNames s) then charAbort s else s
        if ns.all (drvThere s on) then (ns.foldl (fun s n => drvStay n on s) s, ans .ok)
        else (drvSettle (drvEnableMask (q.u32 0) on cid q.m.val (ns.foldl (fun s n => drvAskEn n on s) s)), ans .pending)) q s)

/-- The first reason that refuses a DRV_GROUP_ENABLE. -/
def grpRefusal (mask : Nat) (on : Bool) (s : State) : Option Status :=
  let gs := maskList mask 6
  let safe (g : Nat) : Bool := (grpOf s g).st == .fault && (grpPorts g).any (fun n => (drvOf s n).st == .safeStop)
  let live (g : Nat) : Bool := (grpPorts g).any (fun n => (drvOf s n).st != .stopped)
  if gs.any safe || (!on && gs.any live) || (on && s.pwr.shut) then some .busy
  else if on && !drvLocked s then some .noLock
  else if gs.any (fun g => (grpPorts g).all (drvRetired s)) then some .retired
  else none

/-- Groups of a mask are enabled or disabled in their own right (R309). -/
def grpEnableMask (mask : Nat) (on : Bool) (cid who : Nat) (s : State) : State :=
  let gs := maskList mask 6
  let again := on && gs.any (fun g => (grpOf s g).st == .stopping || (grpOf s g).st == .restarting)
  let job : DrvJob := { cid := cid, mask := 0, groups := mask, on := on, restarting := again }
  let s := { s with drv.jobs := s.drv.jobs ++ [job] }
  gs.foldl (fun s g =>
    let s := onGrp g (fun k => { k with autoStopped := false }) s
    if on then grpTakeEn g (grpStart g (some cid) who (onGrp g (fun k => { k with enWait := true }) s))
    else grpIdle g (grpPutEn g false s)) s

/-- DRV_GROUP_ENABLE (R309). -/
def execDrvGroupEnable (q : Req) (s : State) : Out :=
  .next (serve { code := 0x1002, owner := true, len := lenIs 4, halls := needDRV,
                 fields := fun q _ => maskOk (q.u8 0) 6 && decide (q.u8 1 < 2) && zeros q 2 2 }
    (fun cid q s =>
      let on := q.u8 1 == 1
      match grpRefusal (q.u8 0) on s with
      | some st => (s, ans st)
      | none =>
        if (maskList (q.u8 0) 6).all (fun g => (grpOf s g).st == (if on then .on else .off)) then
          ((maskList (q.u8 0) 6).foldl (fun s g => onGrp g (fun k => { k with autoStopped := false }) (grpPutEn g on s)) s, ans .ok)
        else (drvSettle (grpEnableMask (q.u8 0) on cid q.m.val s), ans .pending)) q s)

/-- DRV_CHARACTERISE (R298). -/
def execDrvCharacterise (q : Req) (s : State) : Out :=
  .next (serve { code := 0x1003, owner := true, len := lenIs 8, halls := needDRV,
                 fields := fun q _ => maskOk (q.u32 0) 24 && zeros q 4 4 }
    (fun cid q s =>
      let ns := maskList (q.u32 0) 24
      if !drvLocked s then (s, ans .noLock)
      else if ns.any (drvRetired s) then (s, ans .retired)
      else if s.drv.char.isSome || ns.any (fun n => (drvOf s n).st != .stopped) || s.pwr.shut then (s, ans .busy)
      else
        let c : Characterise := { mask := q.u32 0, left := ns, step := 1, due := none
                                  results := Vector.replicate 24 5, who := q.m.val, cid := some cid }
        (charNext 25 { s with drv.char := some c }, ans .pending)) q s)

/-! ### Stages -/

/-- The chirp at a port is over (Table 12.5). -/
def chirpOver (s : State) (n : Nat) : Bool :=
  charPort s == some n && (match s.drv.char with
    | some c => c.step == 4 && stageOver c.due s
    | none => false)

/-- The stage of a port, or the chirp at it, has run its time. -/
def stageRan (s : State) (n : Nat) : Bool :=
  (drvOf s n).st != .quietStop && (chirpOver s n || stageOver (drvOf s n).due s)

/-- What follows a stage of a port, or the chirp of a characterisation (R306, Table 12.5). -/
def stageNext (n : Nat) (s : State) : State :=
  if chirpOver s n then
    drvSettle (drvDown n 0x03 { s with drv.char := s.drv.char.map (fun c => { c with step := 5, due := none }) })
  else drvSettle (drvStageEnd n s)

/-- DRV_STAGE_END: a stage of a port, or the chirp of a characterisation, ends. -/
def execDrvStageEnd (n : Fin 24) (s : State) : Out :=
  .next (if hallRuns s hDRV && stageRan s n.val then stageNext n.val s else s)

/-- Stages of ports, and stage 3 of groups, whose end is the tu that begins have ended before anything else of that tu (R125).
The end of EN_SETTLE tells the level of PSGg_FLT and stays with its row. -/
def drvStagesClose (s : State) : State :=
  let s := ((List.range 24).filter (fun n => (drvOf s n).due.isSome || charPort s == some n)).foldl
    (fun s n => if stageRan s n then stageNext n s else s) s
  [0, 1, 2, 3, 4, 5].foldl (fun s g =>
    if ((grpOf s g).st == .stopping || (grpOf s g).st == .restarting) && stageOver (grpOf s g).due s then
      drvSettle (grpOff g s)
    else s) s

/-- A group fault (R304): the group stops into FAULT, every port that is not RETIRED raises its event and is supervised. -/
def grpFault (g : Nat) (s : State) : State :=
  let s := if (grpPorts g).any (charNames s) then charAbort s else s
  let s := if (grpOf s g).st = .starting then releaseGrant (.psgEnable (Fin.ofNat 6 g)) s else s
  let s := onGrp g (fun k => { k with toFault := true }) (grpStop g s)
  drvSettle ((grpPorts g).foldl (fun s n =>
    if drvRetired s n then s else drvSafe n (superviseFault 0 n 1 (raise (4 * n + 1) 1 s))) s)

/-- PSG_STAGE_END: EN_SETTLE or stage 3 of a group ends; `flt` says that PSGg_FLT is active then (R304). -/
def execPsgStageEnd (g : Fin 6) (flt : Bool) (s : State) : Out :=
  .next (
    if !hallRuns s hDRV then s else
    let k := grpOf s g.val
    if !stageOver k.due s then s
    else match k.st with
    | .starting =>
      let s := grpSeeFlt g.val flt s
      if grpFlt s g.val then grpFault g.val s else drvSettle (grpOn g.val s)
    | .stopping | .restarting => drvSettle (grpOff g.val s)
    | _ => s)

/-- PSG_FLT_ASSERT (R304): ignored while the group is OFF, in FAULT or in its EN_SETTLE. -/
def execPsgFltAssert (g : Fin 6) (s : State) : Out :=
  .next (
    if !hallRuns s hDRV then s
    else
      let s := grpSeeFlt g.val true s
      match (grpOf s g.val).st with
      | .on | .stopping | .restarting => grpFault g.val s
      | _ => s)

/-- QUIET_STOP_END (R307, R308): the port is idle; it waits for the causes to end, or is STOPPED. -/
def execQuietStopEnd (n : Fin 24) (s : State) : Out :=
  .next (
    if !hallRuns s hDRV then s else
    let p := drvOf s n.val
    let past := if s.time.held then p.due.isSome && decide (256 ≤ p.pwm.quiet) else closedO p.due s
    if p.st = .quietStop ∧ past then
      let s := onDrv n.val (fun q => { q with again := p.again, enWait := p.enWait }) (drvIdle n.val s)
      if p.again then drvQuietOver s else drvSettle (drvStopped n.val s)
    else s)

/-- A stage fault of a port (R303). -/
def portFault (n cause : Nat) (s : State) : State :=
  let s := if charNames s n then charAbort s else s
  drvSettle (superviseFault 0 n cause (raise (4 * n + 1) cause s))

/-- A port that watches for faults (R303). -/
def drvWatches (s : State) (n : Nat) : Bool :=
  let p := drvOf s n
  p.st != .stopped && p.st != .retired && p.st != .safeStop

/-- A port that switches (R300, Tables 12.9, 12.10): none in its bias stages, nor in or after a quiet stop whose legs are
idle. -/
def drvLive (s : State) (n : Nat) : Bool :=
  let p := drvOf s n
  drvWatches s n && !p.waiting && p.stage != 0x11 && p.stage != 0x04
    && !(p.st == .quietStop && (p.due.isNone || p.pwm.legs == .idle))

/-- What a fault of Table 12.7 needs to be seen: saturation a loop error beyond 25 % of FS_V for 24,576 tu with the demand
inside ±m_max, the others a sense converter that runs. -/
def faultSeen (s : State) (n : Nat) (cause : Fin 3) : Bool :=
  if cause = 0 then loopCloses s n && (match (drvOf s n).pwm.errFrom with
    | some t => decide (t + 24576 ≤ s.time.now)
    | none => false)
  else (chainOf s (26 + n)).resetAt.isSome

/-- A limit edge at position `k` of the running carrier period (R301, R302): a carrier period with one or more counts once,
and 256 in a row are loop saturation. In a characterisation it means SHORT (R298). -/
def tripAt (n : Nat) (positive : Bool) (k : Nat) (s : State) : State :=
  let p := drvOf s n
  let period := carrierAt s n (driveClock s)
  let s := limitAt n positive k s
  let s := if charPort s = some n then { s with drv.char := s.drv.char.map (fun c => { c with tripped := true }) } else s
  if 0 < p.limitRun && p.lastLimit == period then s
  else
    let run := if 0 < p.limitRun ∧ period = p.lastLimit + 1 then p.limitRun + 1 else 1
    let s := raise (4 * n) 1 (onDrv n (fun p => { p with
      trips := satAdd 65535 p.trips 1, limitRun := run, lastLimit := period }) s)
    if 256 ≤ run then portFault n 2 (onDrv n (fun p => { p with limitRun := 0 }) s) else s

/-- A threshold crossing at position `k` (R300): inside a blanking interval the limit edge falls at the interval's end, which
the next carrier period may bring. -/
def tripFrom (n : Nat) (positive : Bool) (k : Nat) (s : State) : State :=
  let e := blankEnd s n k
  if e < edgeUnits s n then tripAt n positive e s
  else onDrv n (fun p => { p with pwm := { p.pwm with crossed := some positive } }) s

/-- CURRENT_LIMIT_TRIP (R300 to R302): the current crosses the threshold, positive out of the PWMA leg, and stays beyond it
through a blanking interval that covers the crossing (DESIGN CHOICE, log entry "Blanking"). -/
def execCurrentLimitTrip (n : Fin 24) (positive : Bool) (s : State) : Out :=
  .next (if drvLive s n.val && hallRuns s hDRV then tripFrom n.val positive (carrierPos s n.val) s else s)

/-- DRV_STAGE_FAULT (Table 12.7): loop saturated, VFB out of range, sense-converter fault.  A second fault of the same
tu raises its event too, and counts with the first (R331). -/
def execDrvStageFault (n : Fin 24) (cause : Fin 3) (s : State) : Out :=
  .next (
    if !hallRuns s hDRV then s else
    let c := faultOf s 0 n.val
    if (drvWatches s n.val && faultSeen s n.val cause) || (c.stamp == some s.time.now && c.st != .normal) then portFault n.val (cause.val + 2) s else s)

/-- Result code of a measurement (R298). -/
def charCode (l c rl : Nat) (tripped : Bool) : Nat :=
  if 64000 < rl then 1 else if tripped ∨ rl < 1000 then 2 else if !resonanceOk l c then 3 else 0

/-- CHARACTERISE_PORT_DONE (Table 12.5 step 6): the entry is computed from what the part measured; whether the current limit
tripped is in the state. -/
def execCharacterisePortDone (n : Fin 24) (l c rl le dcr : Nat) (_ : Computed) (s : State) : Out :=
  .next (
    if !hallRuns s hDRV then s else
    match s.drv.char with
    | some ch =>
      if ch.left.head? = some n.val ∧ ch.step = 6 then
        let code := charCode l c rl ch.tripped
        let zf := match (drvOf s n.val).load with
          | some e => (leAt e 16 2, leAt e 18 2)
          | none => (700, 900)
        let e := b4 l ++ b4 c ++ b4 rl ++ b2 le ++ b2 dcr ++ b2 zf.1 ++ b2 zf.2 ++ b1 1 ++ rz 11
        drvSettle (charPortDone (charPut n.val code (onDrv n.val (fun p => { p with measured := some e }) s)))
      else s
    | none => s)

/-! ### One instant of the drive side -/

/-- A carrier boundary of a port: its fast values, its pulses, and a crossing that blanking has kept to it. -/
def boundaryStep (n : Nat) (s : State) : State :=
  let crossed := (drvOf s n).pwm.crossed
  let s := pwmStep n (fastMeasure n (senseStep n s))
  match crossed with
  | some positive =>
    if drvLive s n then tripFrom n positive 0 (onDrv n (fun p => { p with pwm := { p.pwm with crossed := none } }) s) else s
  | none => s

/-- A port at one instant: the sample a coming carrier period carries, a sense sample that ends, a carrier boundary. -/
def driveStep (n : Nat) (s : State) : State :=
  let s := if legsOf s n = .idle then s else sampleTake n s
  let s := if senseEdge s n then loopStep n (fastSample (50 + n) (fastSample (26 + n) s)) else s
  if carrierEdge s n then boundaryStep n s else s

end Sys2Proof.Machine
end

