-- ==== Sys2Proof/Machine/ProtRows.lean ====
section
/-! DEFINITION. Meanings of the protection, supply and fault-supervisor rows (chapter 13), but for the model steps at
a frame boundary. -/

namespace Sys2Proof.Machine

open Sys2Proof

/-! ### Fault supervisor -/

/-- The back-off of a channel ends: the channel is retried (R330, R332). -/
def backoffClose (cls i : Nat) (s : State) : State :=
  let c := faultOf s cls i
  if c.st = .backoff ∧ closedO c.backoffEnd s ∧ active s then retry cls i s else s

/-- FAULT_BACKOFF_END (R330, R332). -/
def execFaultBackoffEnd (cls : Fin 5) (i : Fin 24) (s : State) : Out := .next (backoffClose cls.val i.val s)

/-- FAULT_WINDOW_END (R330): the count is cleared. -/
def execFaultWindowEnd (cls : Fin 5) (i : Fin 24) (s : State) : Out :=
  .next (
    if closedO (faultOf s cls.val i.val).windowEnd s then
      onFault cls.val i.val (fun c => { c with windowEnd := none, count := 0 }) s
    else s)

/-- The supervisor asks again for a retry (R332). -/
def askAgain (cls i : Nat) (s : State) : State :=
  let s := onFault cls i (fun c => { c with reask := none }) s
  if cls = 0 then
    let s := grpStart (i / 4) none 4 s
    if (grpOf s (i / 4)).st = .off ∨ (grpOf s (i / 4)).st = .fault then retryRefused 0 i s else s
  else if cls = 2 then
    if galMayTrain s i then
      let s := galAsk i none 4 s
      if (galOf s i).asked ∨ grantHeld (.ringTrain (Fin.ofNat 2 i)) s then s else retryRefused 2 i s
    else retryCount 2 i s
  else s

/-- RETRY_REASK (R332). -/
def execRetryReask (cls : Fin 5) (i : Fin 24) (s : State) : Out :=
  .next (
    let c := faultOf s cls.val i.val
    if c.st = .retryWait ∧ closedO c.reask s ∧ active s then askAgain cls.val i.val s else s)

/-- REMAP_MIXER_MOVE (R334): the sink moves to its mixer at the frame boundary after the one that fed it. -/
def execRemapMixerMove (mixer : Fin 64) (s : State) : Out :=
  .next (
    if !hallRuns s hAUD then s else
    match s.prot.moves.find? (fun v => v.mixer == mixer.val) with
    | none => s
    | some v =>
      match v.fedAt with
      | none => s
      | some b =>
        if boundarySince b s then
          let s := { s with prot.moves := s.prot.moves.filter (fun x => x.mixer != mixer.val) }
          let s := remapSet v.port v.sink (some (192 + mixer.val)) 0 (some mixer.val) s
          if (targetOf s v.sink).fade.isNone then routesFollow (routeApply v.sink s)
          else onTarget v.sink (fun x => { x with wait := x.wait.map (fun w => { w with asked := b }) }) s
        else s)

/-! ### Yarrow and Tansy -/

/-- PROT_LIMIT_HOLD_END (R321). -/
def execProtLimitHoldEnd (n : Fin 24) (s : State) : Out :=
  .next (
    if !hallRuns s hCTRL then s else
    match (protOf s n.val).holdFrom with
    | some t =>
      if (protOf s n.val).limiting && closed (t + holdTu s) s then
        raise (4 * n.val + 2) 0 (onProt n.val (fun p => { p with
          limiting := false, toldCause := 0, holdFrom := none }) s)
      else s
    | none => s)

/-- TANSY_LIMIT_HOLD_END (R326). -/
def execTansyLimitHoldEnd (s : State) : Out :=
  .next (
    if !hallRuns s hDSP then s else
    match limitSupply s with
    | none => s
    | some x =>
      match x.holdFrom with
      | some t =>
        if x.told.isSome && closed (t + holdTu s) s then
          raise 231 0 (onSupply x.id (fun y => { y with told := none, holdFrom := none }) s)
        else s
      | none => s)

/-- Two mean squares lie more than 6 dB apart: their quotient is above 10^0.6. -/
def apart6 (a b : Rat) : Bool := decide (1000 * b ^ 5 < a ^ 5 ∨ 1000 * a ^ 5 < b ^ 5)

/-- The RMS of the model's current and of i_L differed by more than 6 dB over the window (R320). -/
def modelDiffers (p : PortProt) : Bool :=
  apart6 (p.rmsModel / (max 1 p.rmsModelN : Nat)) (p.rmsSense / (max 1 p.rmsSenseN : Nat))

/-- MISMATCH_WINDOW_END (R320). -/
def execMismatchWindowEnd (n : Fin 24) (_ : Computed) (s : State) : Out :=
  .next (
    if !hallRuns s hDSP then s else
    match modelEntry s n.val with
    | some e =>
      if e.excursion && graphRuns s && (protOf s n.val).modelled && closed ((protOf s n.val).rmsFrom + 24576000) s then
        onProt n.val (fun p => { p with
          mismatch := modelDiffers p, rmsFrom := s.time.now, rmsModel := 0, rmsModelN := 0, rmsSense := 0, rmsSenseN := 0 }) s
      else s
    | none => s)

/-- SUPPLY_CLAMP_RELEASE (R328): the factor rises to 1 over 10 ms; at the end of the rise the clamp is over. -/
def execSupplyClampRelease (s : State) : Out :=
  .next (
    if !hallRuns s hDSP then s else
    match limitSupply s with
    | none => s
    | some x =>
      if !x.clamp then s
      else match x.riseFrom, x.clearFrom with
      | some r, _ =>
        if closed (r + msTu 10) s then
          onSupply x.id (fun y => { y with clamp := false, riseFrom := none, clearFrom := none }) s
        else s
      | none, some t =>
        if closed (t + 245760) s then onSupply x.id (fun y => { y with riseFrom := some s.time.now }) s else s
      | none, none => s)

/-! ### Commands -/

/-- A rational in tenths as a 16-bit signed answer; the rounding of an exact half is open. -/
def tenths (x : Rat) (s : State) : List Byte := i2 (roundNear (10 * x) s).1

/-- One entry of PROT_STATUS_GET. -/
def protEntry (s : State) (n : Nat) : List Byte :=
  let p := protOf s n
  tenths (if p.modelled then p.tAmb + p.dM + p.dVc else 0) s ++ tenths (p.tAmb + p.dM) s
    ++ b1 (min 255 p.exc) ++ b1 p.red ++ b1 p.cause
    ++ b1 (maskOf [(modelOf s n).isSome, p.mismatch, p.lanesMuted, p.restored, p.noTime, p.incomplete])

/-- PROT_STATUS_GET (R321). -/
def execProtStatusGet (q : Req) (s : State) : Out :=
  .next (report { code := 0x1100, owner := false, report := true, len := lenIs 0 }
    (fun _ s => (List.range 24).flatMap (protEntry s)) q s)

/-- A figure in mV or mA, to the nearest; the rounding of an exact half is open. -/
def figure (x : Rat) (s : State) : Nat := (roundNear x s).1.toNat

/-- The 20 bytes of PROT_SUPPLY_GET. -/
def supplyBytes (s : State) (x : Supply) : List Byte :=
  let mine := match limitSupply s with | some y => y.id == x.id | none => false
  b2 (sat 16 (figure x.vs s)) ++ b2 (sat 16 (figure x.voc s)) ++ b4 (figure x.budget s) ++ b4 (figure x.meas s)
    ++ b4 (figure x.peak s) ++ b1 (stepsDown x.gs2)
    ++ b1 (maskOf [x.told.isSome, clampActs s x, supplyDead s x.table, x.short, !mine]) ++ b1 x.clamps
    ++ b1 (x.clamps / 256)

/-- PROT_SUPPLY_GET (R325): CLAMPS is cleared by the read. BUDGET is unsigned: a negative I_B shows as 0 (log entry "Figures of
PROT_SUPPLY_GET"). -/
def execProtSupplyGet (q : Req) (s : State) : Out :=
  .next (serve { code := 0x1101, owner := false, report := true, len := lenIs 4,
                 fields := fun q s => s.prot.supplies.any (fun x => x.id == q.u16 0) && zeros q 2 2 }
    (fun _ q s =>
      match s.prot.supplies.find? (fun x => x.id == q.u16 0) with
      | some x => (onSupply x.id (fun y => { y with clamps := 0 }) s, ans .ok (supplyBytes s x))
      | none => (s, ans .badParam)) q s)

/-- STATE of a fault channel (PROT_FAULT_GET). -/
def FaultState.code : FaultState → Nat
  | .normal => 0 | .backoff => 1 | .retryWait => 2 | .retired => 3

/-- PROT_FAULT_GET (R330). -/
def execProtFaultGet (q : Req) (s : State) : Out :=
  .next (report { code := 0x1102, owner := false, report := true, len := lenIs 4,
                  fields := fun q _ => decide (q.u8 0 < 5) && zeros q 1 3 }
    (fun q s =>
      let n := classSize (q.u8 0)
      b1 (q.u8 0) ++ b1 n ++ rz 2 ++ (List.range n).flatMap (fun i =>
        let c := faultOf s (q.u8 0) i
        b1 c.st.code ++ b1 (if closedO c.windowEnd s then 0 else c.count) ++ b1 c.cause ++ rz 1
          ++ b2 (match c.windowEnd with | some e => msLeft e s | none => 0) ++ b2 c.retries)) q s)

/-- Route targets whose changes still wait or fade. -/
def targetsBusy (s : State) (l : List Nat) : List Nat :=
  l.filter (fun t => (targetOf s t).wait.isSome || (targetOf s t).fade.isSome)

/-- PROT_RESTORE (R335): the channels named leave their fault states; the routes go back. -/
def execProtRestore (q : Req) (s : State) : Out :=
  .next (serve { code := 0x1103, owner := true, len := lenIs 8,
                 fields := fun q _ => decide (q.u8 0 < 5 ∧ q.u32 4 < 2 ^ classSize (q.u8 0)) && zeros q 1 3 }
    (fun cid q s =>
      let r := (maskList (q.u32 4) 24).foldl (fun (a : State × List Nat) i =>
        let x := restore (q.u8 0) i a.1
        (x.1, a.2 ++ x.2)) (s, [])
      if r.2 = [] then (r.1, ans .ok)
      else ({ r.1 with prot.restores := r.1.prot.restores ++ [(cid, targetsBusy r.1 r.2)] }, ans .pending)) q s)

/-- PROT_TEMP_SET (R319): the states apply at the next frame boundary. A newer command for the port replaces the waiting one,
which ends with SUPERSEDED (log entry "Protection commands"). -/
def execProtTempSet (q : Req) (s : State) : Out :=
  .next (serve { code := 0x1180, owner := true, len := lenIs 8, halls := needDSP,
                 fields := fun q _ => decide (q.u8 0 < 24) && withinI 0 2000 (q.i16 2) && withinI 0 2000 (q.i16 4)
                   && zeros q 1 1 && zeros q 6 2 }
    (fun cid q s =>
      let n := q.u8 0
      if (modelEntry s n).isNone || !graphRuns s then (s, ans .notReady)
      else
        let old := (protOf s n).set
        let s := onProt n (fun p => { p with
          set := some ((q.i16 2 : Rat) / 10, (q.i16 4 : Rat) / 10, cid) }) s
        let s := match old with | some o => completeWith o.2.2 .superseded 0 [] s | none => s
        (s, ans .pending)) q s)

end Sys2Proof.Machine
end

