-- ==== Sys2Proof/Machine/Power.lean ====
section
/-! DEFINITION. Performance levels, the thermal policy, and what begins or ends with a grant (chapter 16). -/

namespace Sys2Proof.Machine

open Sys2Proof

/-! ### Fields of page 0x1400 (Table 16.10) -/

def plAuto (s : State) : Bool := Page.bit s.pwr.page1400 31
def plFloor (s : State) : Nat := Page.get s.pwr.page1400 28 3
def plCeil (s : State) : Nat := Page.get s.pwr.page1400 25 3
def thermCap (s : State) : Nat := Page.get s.pwr.page1400 22 3
def idleEn (s : State) : Bool := Page.bit s.pwr.page1400 21
def idleTarget (s : State) : Nat := Page.get s.pwr.page1400 19 2
def offCount (s : State) : Bool := Page.bit s.pwr.page1400 15
def offGpioWake (s : State) : Bool := Page.bit s.pwr.page1400 14
def offGpioPol (s : State) : Bool := Page.bit s.pwr.page1400 13
def anaAuto (s : State) : Nat := Page.get s.pwr.page1400 0 6
def idleTu (s : State) : Nat := 2457600 * Page.get s.pwr.page1400 48 16
def settleTu (s : State) : Nat := usTu (Page.get s.pwr.page1400 40 8)
def grantSlots (s : State) : Nat := Page.get s.pwr.page1400 32 2
def keepMask (s : State) : Nat := Page.get s.pwr.page1400 64 32
def coreBudget (s : State) : Nat := Page.get s.pwr.page1400 112 16
def thermWarn (s : State) : Nat := Page.get s.pwr.page1400 104 8
def thermShut (s : State) : Nat := Page.get s.pwr.page1400 96 8
def drainTu (s : State) : Nat := msTu (Page.get s.pwr.page1400 128 16)

/-! ### Levels (R379 to R381) -/

/-- MIN_PL of the graph in force (R381). -/
def minPl (s : State) : Nat := match s.gra.image with | some im => min 4 (minLevel (fhHz s) im) | none => 0

/-- The thermal cap in force; 4 where there is none (R382). -/
def levelCap (s : State) : Nat := if s.pwr.warn && thermCap s != 7 then max (thermCap s) (minPl s) else 4

/-- The graph in force does not fit a level (R380, R254). -/
def levelUnfit (level : Nat) (s : State) : Bool :=
  match s.gra.image with
  | some im => (budgetFail level (fhHz s) im).isSome
  | none => false

/-- REASON of a request that R380 refuses; 0 where it is taken. -/
def levelReason (level : Nat) (host : Bool) (s : State) : Nat :=
  if levelUnfit level s then 1
  else if plCeil s < level ∨ levelCap s < level then 2
  else if host && plAuto s then 3
  else 0

/-- The status of a REASON (R380). -/
def reasonStatus (reason : Nat) : Status := if reason = 1 then .badParam else if reason = 0 then .ok else .busy

/-- A wait for DVDD_OK of at most 2 ms begins with a new VSEL code (R378). -/
def levelWait (code : Nat) (step : LevelStep) (s : State) : State :=
  { s with
    pwr.vsel := code
    pwr.change := s.pwr.change.map (fun c => { c with step := step, due := s.time.now + msTu 2 }) }

/-- The grant of a change. -/
def changeGrant (c : LevelChange) : GrantFor := if c.source < c.target then .plRaise else .plLower

/-- A change begins with the request for its grant (Tables 16.2, 16.3 step 1). -/
def levelBegin (level : Nat) (cid : Option Nat) (who : Nat) (s : State) : State :=
  let c : LevelChange := { source := s.pwr.level, vsel := s.pwr.vsel, target := level, step := .grant, cid := cid }
  let cost := if s.pwr.level < level then levelMw level - levelMw s.pwr.level else 0
  let r := askGrant (changeGrant c) cid who cost 0 0 { s with pwr.change := some c }
  if r.2 = .refused then completeP cid .noGrant 0 (rz 4) { r.1 with pwr.change := none } else r.1

/-- A request that waited for the end of a change runs from step 1 (R380). -/
def levelNext (s : State) : State :=
  match s.pwr.next with
  | none => s
  | some (l, cid) =>
    let s := { s with pwr.next := none }
    let reason := levelReason l cid.isSome s
    if reason ≠ 0 then completeP cid (reasonStatus reason) 0 (b1 reason ++ rz 3) s
    else if l = s.pwr.level then completeP cid .ok 0 (rz 4) s
    else levelBegin l cid 4 s

/-- A change ends: the grant is released, the command completes, a waiting request runs. -/
def levelEnd (st : Status) (s : State) : State :=
  match s.pwr.change with
  | none => s
  | some c =>
    let s := releaseGrant (changeGrant c) { s with pwr.change := none, pwr.lastActivity := s.time.now }
    levelNext (completeP c.cid st 0 (rz 4) s)

/-- A request that passed the checks of R380. -/
def levelRequest (level : Nat) (cid : Option Nat) (who : Nat) (s : State) : State :=
  match s.pwr.change with
  | none => if level = s.pwr.level then completeP cid .ok 0 (rz 4) s else levelBegin level cid who s
  | some c =>
    if c.step = .grant then
      let s := completeP c.cid .superseded 0 (rz 4) (releaseGrant (changeGrant c) { s with pwr.change := none })
      if level = s.pwr.level then completeP cid .ok 0 (rz 4) s else levelBegin level cid who s
    else
      let old := s.pwr.next
      let s := { s with pwr.next := some (level, cid) }
      match old with | some o => completeP o.2 .superseded 0 (rz 4) s | none => s

/-- The grant of a change is given: VSEL takes the new code, or the change waits for the next frame boundary. -/
def levelGranted (s : State) : State :=
  match s.pwr.change with
  | none => s
  | some c =>
    if c.source < c.target then levelWait c.target .settleUp s
    else { s with pwr.change := some { c with step := .frame, due := s.time.now } }

/-- A frame boundary of a change: CSYN retargets (Table 4.7). -/
def levelFrame (s : State) : State :=
  match s.pwr.change with
  | some c =>
    if c.step = .frame then csynRetarget c.target { s with pwr.change := some { c with step := .lock } } else s
  | none => s

/-- CSYN has locked for a change (Table 16.2 step 5, Table 16.3 step 3). -/
def levelLocked (s : State) : State :=
  match s.pwr.change with
  | some c =>
    if c.step = .lock then
      let s := { s with pwr.level := c.target }
      if c.source < c.target then levelEnd .ok (raise 227 c.target s)
      else levelWait c.target .settleDown (releaseGrant .plLower s)
    else s
  | none => s

/-- CSYN fell back to the PL0 settings (R108): the level in force is PL0.  A change whose retarget failed ends with
TIMEOUT, and VSEL then takes PL0's code with the wait of Table 16.3 step 4. -/
def levelFell (s : State) : State :=
  let s := raise 227 0 { s with pwr.level := 0 }
  match s.pwr.change with
  | some c =>
    if c.step = .lock then
      let s := releaseGrant (changeGrant c) (completeP c.cid .timeout 0 (rz 4) s)
      let s := { s with pwr.change := some { c with cid := none, source := 0, target := 0, vsel := s.pwr.vsel } }
      if s.pwr.vsel = 0 then levelEnd .timeout s else levelWait 0 .settleDown s
    else s
  | none => s

/-- DVDD_OK and its settling time have passed in a change. -/
def levelSettled (s : State) : State :=
  match s.pwr.change with
  | some c =>
    if c.step = .settleUp then { s with pwr.change := some { c with step := .frame, due := s.time.now } }
    else if c.step = .settleDown then
      levelEnd .ok (if s.clk.csynFell ∧ c.target = 0 then s else raise 227 c.target s)
    else s
  | none => s

/-- The wait for DVDD_OK has failed in a change: VSEL returns to the old code (R379). -/
def levelUnsettled (s : State) : State :=
  match s.pwr.change with
  | some c =>
    if c.step = .settleUp ∨ c.step = .settleDown then levelEnd .timeout { s with pwr.vsel := c.vsel } else s
  | none => s

/-- A crystal failure abandons a change (R468): VSEL returns at once, the command ends with NO_LOCK. -/
def levelAbandon (s : State) : State :=
  let next := s.pwr.next
  let s := { s with pwr.next := none }
  let s := match next with | some o => completeP o.2 .noLock 0 (rz 4) s | none => s
  match s.pwr.change with
  | some c =>
    let s := { s with pwr.vsel := if c.step = .grant then s.pwr.vsel else c.vsel, pwr.level := c.source }
    levelEnd .noLock s
  | none => s

/-- The level that AUTO holds (R381). -/
def autoLevel (s : State) : Nat := min (max (plFloor s) (minPl s)) (min (plCeil s) (levelCap s))

/-- The part itself changes the level (AUTO, thermal policy). -/
def ownLevel (level : Nat) (s : State) : State :=
  if s.clk.xtalFailed || s.pwr.entry.isSome || s.pwr.asleep.isSome || s.pwr.shut then s
  else if levelReason level false s ≠ 0 then s
  else if s.pwr.change.isNone && level == s.pwr.level then s
  else levelRequest level none 4 s

/-- AUTO holds the level at max(PL_FLOOR, MIN_PL). -/
def autoHold (s : State) : State := if plAuto s then ownLevel (autoLevel s) s else s

/-- At a lock of CSYN after which no change runs, AUTO raises a level below max(PL_FLOOR, MIN_PL), as after a wake at PL0
(R381, R397); not after the fall of R108 and not while the part is re-based (log entry "AUTO at a lock"). -/
def autoRaise (s : State) : State :=
  if s.clk.csynFell || s.clk.rebased.isSome || s.pwr.change.isSome then s
  else if s.pwr.level < autoLevel s then autoHold s else s

/-! ### Thermal policy (R382) -/

/-- T: the higher of the latest results of channels 16 and 17, in 0.1 °C. -/
def dieT (s : State) : Int := max (hkCh s 16).value (hkCh s 17).value

/-- E235 with T + 64. -/
def thermTell (s : State) : State :=
  let t := roundNear ((dieT s : Rat) / 10) s
  raise 235 (t.1 + 64).toNat t.2

/-- Every drive port, group and analog output shuts down as though disabled. -/
def thermDown (s : State) : State := drvAllDown (anaAllDown s)

/-- The highest of the level in force and those that changes under way or waiting lead to. -/
def levelComing (s : State) : Nat :=
  max (max s.pwr.level (match s.pwr.change with | some c => c.target | none => 0)) (match s.pwr.next with | some x => x.1 | none => 0)

/-- The policy acts on a new result of channel 16 or 17. A raise above the cap that is under way is lowered again after it, and
one that still waits for its grant is replaced (log entry "Cap over a raise"). -/
def thermStep (s : State) : State :=
  let t := dieT s
  let s :=
    if s.pwr.warn && decide (t < 10 * ((thermWarn s : Int) - 5)) then { s with pwr.warn := false, pwr.shut := false }
    else if !s.pwr.warn && decide (10 * (thermWarn s : Int) ≤ t) then
      let s := thermTell { s with pwr.warn := true }
      if thermCap s ≠ 7 ∧ levelCap s < levelComing s then
        ownLevel (match s.pwr.change with
          | some c => if c.step = .grant then min s.pwr.level (levelCap s) else levelCap s
          | none => levelCap s) s
      else s
    else s
  if !s.pwr.shut && decide (10 * (thermShut s : Int) ≤ t) then thermDown (thermTell { s with pwr.shut := true })
  else s

/-! ### Firmware verification (Table 18.5) -/

/-- A flash access is running (R424). -/
def flashBusy (s : State) : Bool :=
  (match s.boot.install with | some i => i.step == 3 | none => false) || !s.boot.confirm.isEmpty

/-- A flash access has ended: an APPLY of page 0x1600 that waited is carried out (Table 18.6). -/
def flashFree (s : State) : State :=
  match s.boot.waiting1600 with
  | some (v, cid) =>
    if flashBusy s then s
    else complete cid .ok { s with boot.page1600 := BitVec.ofNat 32 v, boot.waiting1600 := none }
  | none => s

/-- The installation ends: the buffer takes writes again. -/
def installEnd (st : Status) (flags : Nat) (resp : List Byte) (s : State) : State :=
  match s.boot.install with
  | none => s
  | some i =>
    let s := { s with
      boot.install := none
      own.mbxLock := (s.own.mbxLock && i.source != 0) || s.ring.send.isSome
      ring.recvLock := s.ring.recvLock && i.source != 1 }
    completeP i.cid st flags resp (flashFree s)

/-! ### What a grant lets begin, and what its refusal ends (R385) -/

/-- The charge pump begins its start-up (Table 5.4). -/
def pumpGranted (s : State) : State :=
  if (fnOf s 6).waiting then upFrom 6 0x11 s else { releaseGrant .cpStart s with ana.cpAsked := false }

/-- The operation begins. -/
def beginWork (w : GrantFor) (s : State) : State :=
  match w with
  | .plRaise | .plLower => levelGranted s
  | .relockAsyn | .relockCsyn => s
  | .cpStart => pumpGranted s
  | .psgEnable g => retryGroup g.val (grpGranted g.val s)
  | .loadChar n => charBegin n.val s
  | .sorrel c => sorrelGranted c.val s
  | .bankPower => releaseGrant .bankPower (commitPrepare s)
  | .ringTrain p =>
    galTrain p.val (if (faultOf s 2 p.val).st = .retryWait then retryCount 2 p.val s else s)
  | .fwVerify => { s with boot.install := s.boot.install.map (fun i => { i with step := 2 }) }

/-- The request is refused: the work ends with NO_GRANT. -/
def refuseWork (w : GrantFor) (s : State) : State :=
  match w with
  | .plRaise | .plLower => levelEnd .noGrant s
  | .relockAsyn | .relockCsyn => s
  | .cpStart => pumpRefused s
  | .psgEnable g => grpRefusedAll g.val s
  | .loadChar n => charRefused n.val s
  | .sorrel c => sorrelRefused c.val s
  | .bankPower => commitEnd .noGrant s
  | .ringTrain p => retryRefused 2 p.val (galRefused p.val s)
  | .fwVerify => installEnd .noGrant 0 (rz 12) s

/-- A waiting request ends with NO_GRANT: E230 (R385). -/
def refuseGrant (g : Grant) (s : State) : State :=
  refuseWork g.work (raise 230 g.op { s with
    pwr.queue := dropFirst (fun x => x == g) s.pwr.queue, pwr.lastActivity := s.time.now })

/-- Every waiting request ends with NO_GRANT (R386). -/
def refuseAll : Nat → State → State
  | 0, s => s
  | f + 1, s =>
    match s.pwr.queue with
    | [] => s
    | g :: _ => refuseAll f (refuseGrant g s)

/-! ### Evaluation of the queue (R384) -/

/-- New grants are withheld (R386). -/
def withheld (s : State) : Bool := s.pwr.entry.isSome || s.pwr.asleep.isSome

/-- Total the request would need, in mW. -/
def coreNeed (s : State) (g : Grant) : Nat := coreEst s + g.core

/-- The supply budget lets the operation begin: a supply with a budget that feeds a port it concerns (R327). -/
def bulkOk (s : State) (g : Grant) : Bool :=
  match limitSupply s with
  | some x =>
    if x.table.mask &&& g.ports = 0 then true
    else decide ((if supplyDead s x.table then 0 else x.meas) + (g.bulk : Rat) ≤ x.budget)
  | none => true

/-- A grant is given: E229, the operation begins. -/
def giveGrant (g : Grant) (s : State) : State :=
  beginWork g.work (raise 229 g.op { s with
    pwr.queue := dropFirst (fun x => x == g) s.pwr.queue
    pwr.held := s.pwr.held ++ [{ g with begun := true }]
    pwr.lastActivity := s.time.now })

/-- The operations of priority-7 grants begin in the tu they were made. -/
def beginHeld : Nat → State → State
  | 0, s => s
  | f + 1, s =>
    match s.pwr.held.find? (fun g => !g.begun) with
    | none => s
    | some g =>
      let held := s.pwr.held.map (fun x => if x == g then { x with begun := true } else x)
      beginHeld f (beginWork g.work { s with pwr.held := held })

/-- The head of the queue is granted while the conditions hold; E233 once where the core budget alone holds it. -/
def grantHeads : Nat → State → State
  | 0, s => s
  | f + 1, s =>
    match s.pwr.queue with
    | [] => s
    | g :: rest =>
      if withheld s || grantSlots s ≤ s.pwr.held.length then s
      else if coreBudget s < coreNeed s g then
        if !g.warned && bulkOk s g then
          raise 233 (min 65535 (coreNeed s g)) { s with pwr.queue := { g with warned := true } :: rest }
        else s
      else if bulkOk s g then grantHeads f (beginHeld 32 (giveGrant g s))
      else s

/-- The queue is evaluated. -/
def evaluateGrants (s : State) : State :=
  grantHeads 64 (beginHeld 32 { s with pwr.evalPoint := false })

/-- An evaluation point stands (R384). -/
def evalDue (s : State) : Bool :=
  s.pwr.evalPoint || (if s.time.held then s.time.heldTicks % 24576 == 0 else devTime s % 24576 == 0)

/-- STATE of an entry of PWR_GRANT_GET. -/
def grantState (s : State) (g : Grant) (head : Bool) : Nat :=
  if !head then 5
  else if withheld s then 6
  else if grantSlots s ≤ s.pwr.held.length then 2
  else if coreBudget s < coreNeed s g then 3
  else if !bulkOk s g then 4
  else 7

end Sys2Proof.Machine
end

