-- ==== Sys2Proof/Machine/Sleep.lean ====
section
/-! DEFINITION. Crystal failure (Table 4.12), sleep entry and its abort (Table 16.7), the wake (Table 16.8), and what
each block keeps or loses (Table 16.6). -/

namespace Sys2Proof.Machine

open Sys2Proof

/-! ### Crystal failure (Table 4.12 steps 1 to 4, R80, R111, R468) -/

/-- The crystal monitor declares the failure: every hall on the safety RC, device time held, E152; the commands that
wait for a lock end with NO_LOCK. -/
def xtalFail (s : State) : State :=
  let s := onHalls 0x7F (fun h => { h with clk := .rc }) { s with
    clk.xtal := false, clk.xtalFailed := true, clk.rebased := none, clk.csynBack := false, clk.waitCsyn := false
    clk.famCheck := none, clk.stepAt := none }
  let s := raise 152 0x7F (timeHolds s)
  let s := releaseGrant .relockCsyn (releaseGrant .relockAsyn s)
  let s := clkDone .noLock { s with clk.familyChange := false }
  let s := match s.fab.fhChange with
    | some f => complete f.cid .noLock (pauseClear causeFh { s with fab.fhChange := none })
    | none => s
  let s := levelAbandon s
  asynStop { s with
    clk.asyn := .off, clk.csyn := .off, clk.csynLost := false, clk.csynFell := false, clk.csynAttempts := 0
    clk.attempts := 0, clk.rejoinRef := none, clk.lost := false, clk.returning := false }

/-! ### Sleep entry (R393 to R396) -/

/-- The entry in progress is changed. -/
def onEntry (f : SleepEntry → SleepEntry) (s : State) : State := { s with pwr.entry := s.pwr.entry.map f }

/-- The next step of Table 16.7 begins. -/
def entryStep (k : Nat) (s : State) : State := onEntry (fun e => { e with step := k, began := s.time.now }) s

/-- Ports, groups and analog functions that an abort starts again: those started, starting, or to start again. -/
def portsOn (s : State) : Nat :=
  maskOf ((List.range 24).map (fun n => let st := (drvOf s n).st
    st == .running || st == .softStart || st == .restarting || ((st == .quietStop || st == .stopped) && (drvOf s n).again)))
def groupsOn (s : State) : Nat :=
  maskOf ((List.range 6).map (fun g => grpOwn s g && ((grpOf s g).st == .on || (grpOf s g).st == .starting)))
def fnsOn (s : State) : Nat :=
  maskOf ((List.range 9).map (fun i => let f := fnOf s i
    (f.st == .on || (f.st == .starting && !f.probe) || f.st == .restarting
      || ((f.st == .held || f.toHeld) && f.heldCmd != some false)) && (i != 6 || f.ownRight)))

/-- Step 2: everything that makes sound shuts down, direct lanes stop, the ring announces the departure. -/
def entryShut (s : State) : State :=
  match s.pwr.entry with
  | none => s
  | some e =>
    let s := entryStep 2 (onEntry (fun e => { e with
      ports := portsOn s, groups := groupsOn s, outs := fnsOn s, ringLeft := ringLinkUp s }) s)
    let s := if e.target = 1 then
        let s := { s with drv.groups := vmapi s.drv.groups (fun g k =>
          if grpOwn s g && (k.st == .on || k.st == .starting) && !grpDozeKeep s g then { k with resume := true } else k) }
        let s := drvSettle (grpsIdle (drvDoze s))
        anaHold (msTu (rampMs s)) s
      else anaAllDown (drvAllDown s)
    let s := (List.range 8).foldl (fun s j => if laneLive (laneOf s j) then laneStop j false s else s) s
    ringGo (if e.target = 1 then 1 else 2) s

/-- A running installation (Table 18.5 step 3) holds the entry at step 1 (R424). -/
def installing (s : State) : Bool := match s.boot.install with | some i => i.step == 3 | none => false

/-- A sleep entry begins (step 1): grants are withheld. -/
def entryStart (target : Nat) (cid : Option Nat) (wakeAfter : Nat) (s : State) : State :=
  let e : SleepEntry := { target := target, step := 1, cid := cid, began := s.time.now, wakeAfter := wakeAfter }
  let s := { s with pwr.entry := some e, pwr.abortBy := none, pwr.offLevelTicks := 0 }
  if installing s then s else entryShut s

/-- Step 2 has ended: ports, groups, outputs and lanes are at rest, and the announced departure has come (R354). -/
def shutDone (target : Nat) (s : State) : Bool :=
  (List.range 24).all (fun n => let p := drvOf s n
    p.st == .stopped || p.st == .safeStop || p.st == .retired || (p.st == .quietStop && p.due.isNone))
  && (List.range 6).all (fun g => let k := grpOf s g
    k.st == .off || k.st == .fault || (k.st == .on && target == 1 && grpDozeKeep s g))
  && (List.range (if target = 1 then 6 else 9)).all (fun i => let f := fnOf s i
    f.st == .off || f.st == .fault || (target == 1 && (f.st == .held || (f.st == .starting && (f.waiting || f.probe)))))
  && (List.range 8).all (fun j => (laneOf s j).ramp.isNone) && s.ring.leaveAt.isNone

/-- Commands still PENDING end with NOT_READY, but for the PWR_SLEEP of this entry (Table 16.7 step 5). -/
def endPending (keep : Option Nat) (s : State) : State :=
  let cids := ([0, 1, 2, 3] : List (Fin 4)).flatMap (fun m => ((portOf s m).pend.map (fun e => e.cid)))
  let s := completeAll (cids.filter (fun c => keep != some c)) .notReady s
  { s with
    flt.chains := s.flt.chains.map (fun k => { k with late := none })
    own.handover := none, mic.late0700 := none, mic.late0800 := none, ring.late := none, sch.late := none, prot.waiting1100 := none
    pwr.waiting1400 := none }

/-- The crossings of the halls that stop: all but those of HALL_AO. -/
abbrev sleepHalls : Nat := 0x7E

/-- Channels of the full-rate microphone path stop with their chains (Table 16.7 step 4), or start again. -/
def fullPath (on : Bool) (s : State) : State :=
  (List.range 16).foldl (fun s m =>
    if (micOf s m).st = .running then (if on then chainStart (4 + m) s else chainStop (4 + m) s) else s) s

/-- d_vc and d_m are saved into always-on memory (R323). -/
def thermalKeep (s : State) : State :=
  { s with
    prot.ports := s.prot.ports.map (fun p => { p with
      saved := if thermalSave s then some (p.dVc, p.dM, devTime s, s.time.epoch) else none }) }

/-- Step 6 begins: the crossings of the halls that stop drain; before DOZE the converter takes no further trigger. -/
def entryClose (s : State) : State :=
  entryStep 6 (onHalls sleepHalls (fun h => { h with cross := .draining }) (if dozing s then hkDoze s else s))

/-- The commit point (step 7): waiting grant requests end (R386), E225, PWR_SLEEP completes, the halls' crossings are
closed, heartbeat supervision is suspended. -/
def entryCommit (s : State) : State :=
  match s.pwr.entry with
  | none => s
  | some e =>
    let deep := e.target != 1
    let s := if deep then thermalKeep (refuseAll 32 (outsStop s)) else s
    let s := raise 225 e.target { s with pwr.entry := none }
    let s := completeP e.cid .ok 0 (rz 4 ++ b8 (devTime s)) s
    let keeps := e.target == 2 || e.target == 3
    { s with
      pwr.asleep := some { target := e.target, commit := s.time.now, settled := !deep
                           wakeDue := if e.wakeAfter = 0 then none else some (s.time.now + msTu e.wakeAfter)
                           rcFrom := if s.clk.xt32 then none else some 0 }
      pwr.abortBy := none
      pwr.sleeps := satAdd 65535 s.pwr.sleeps 1
      pwr.lastState := e.target, pwr.lastEntry := 0
      pwr.kept := if keeps then (maskList (keepMask s) 32).length else 0
      pwr.keptImage := if keeps then s.gra.image.map (fun i => (i.id, i.crc, keepMask s)) else none
      gra.keptNodes := if keeps then s.gra.nodes else []
      gra.keptMeters := if keeps then s.gra.meters else []
      pwr.offLevelTicks := 0
      boot.ready := false }

/-- Step 8: the regulator step. Halls off, VSEL 0b111, the crystal stops (RETAIN, OFF), the history is erased (RETAIN,
OFF), clock outputs and HIRQ balls go inactive. -/
def sleepSettle (s : State) : State :=
  match s.pwr.asleep with
  | none => s
  | some sl =>
    if sl.settled then s
    else
      let s := { s with
        pwr.asleep := some { sl with settled := true }
        pwr.vsel := 7
        clk.asyn := .off, clk.csyn := .off, clk.edge := false
        clk.xtal := s.clk.xtal && sl.target == 2
        ev.hirqPulse := Vector.replicate 2 none }
      let s := onHalls sleepHalls (fun h => { h with powered := false, cross := .closed }) (countStop s)
      if sl.target = 2 then s
      else histCleared (histErase none (onHalls (2 ^ hAO) (fun h => { h with clk := .slow }) { s with mic.clk0 := 0 }))

/-- The entry is undone, in reverse (R395, R396): crossings reopen, the clock rises again, the graph resumes, outputs
and ports that were on start again, the ring rejoins. -/
def entryUndo (s : State) : State :=
  match s.pwr.entry with
  | none => s
  | some e =>
    let s := { s with pwr.entry := none, pwr.abortBy := none, pwr.lastActivity := s.time.now }
    let s := if 6 ≤ e.step then chainSyncFed (onHalls sleepHalls (fun h => { h with cross := .opened, gated := false }) s)
      else s
    let s := if 6 ≤ e.step ∧ e.target = 1 then hkWake s else s
    let s := if 5 ≤ e.step ∧ e.target = 2 then fullPath true s else s
    let s := if 3 ≤ e.step then drainOver s else s
    if e.step < 2 then s
    else
      let s := if e.ringLeft then ringRejoin s else s
      if e.target = 1 then
        let s := [0, 1, 2, 3, 4, 5].foldl (fun s g =>
          if (grpOf s g).resume then grpStart g none 4 (onGrp g (fun k => { k with resume := false }) s) else s) s
        anaUnhold (drvResume s)
      else
        let s := (maskList e.groups 6).foldl (fun s g =>
          grpTakeEn g (grpStart g none 4 (onGrp g (fun k => { k with enWait := true }) s))) s
        let s := drvSettle ((maskList e.ports 24).foldl (fun s n => (drvEnable n none 4 (drvAskEn n true s)).1) s)
        (enableSet (maskList e.outs 9) none 4 s).1

/-- A wake source aborts the entry (R395): E224, PWR_SLEEP ends with BUSY. -/
def entryAbort (src : Nat) (s : State) : State :=
  match s.pwr.entry with
  | none => s
  | some e =>
    let s := entryUndo s
    let s := raise 224 src { s with pwr.lastEntry := 1, pwr.aborts := satAdd 65535 s.pwr.aborts 1 }
    completeP e.cid .busy 0 (b2 src ++ rz 10) s

/-- A drain that does not complete in time abandons the entry (R396). -/
def entryTimeout (s : State) : State :=
  match s.pwr.entry with
  | none => s
  | some e => completeP e.cid .timeout 0 (rz 12) { entryUndo s with pwr.lastEntry := 2 }

/-- A wake source noted during the entry takes effect. -/
def entryCheck (s : State) : State := match s.pwr.abortBy with | some src => entryAbort src s | none => s

/-- A step of the entry ends and the next begins. -/
def entryNext (s : State) : State :=
  match s.pwr.entry with
  | none => s
  | some e =>
    match e.step with
    | 1 => if installing s then s else entryShut s
    | 2 => if shutDone e.target s then drainAsk (sorrelAbort (entryStep 3 s)) else s
    | 3 =>
      if !s.sch.drained then s
      else if e.target = 1 then entryClose s
      else entryStep (if e.target = 2 then 4 else 5) s
    | 4 =>
      if !swRuns s ∨ (s.time.now - s.mic.frameStart) % 1536 = 0 then
        let s := entryStep 5 s
        clk0Change (fullPath false (onEntry (fun e => { e with clkFell := g0Rise s }) s))
      else s
    | 5 => entryClose (endPending e.cid s)
    | 6 =>
      if e.target = 1 ∧ s.hk.run.isSome then s
      else
        let s := if e.target = 1 then tdmGate s else s
        entryStep 7 (onHalls sleepHalls (fun h => { h with cross := .closed, gated := e.target == 1 }) s)
    | _ => entryCommit s

/-! ### Wake (R397, R398) -/

/-- VSEL takes PL0's code; the 2 ms wait for DVDD_OK begins (Table 16.8 step 2). -/
def wakeRegulator (s : State) : State :=
  { s with
    pwr.vsel := 0
    pwr.wake := s.pwr.wake.map (fun w => { w with step := 2, due := clockNow s + msTu 2, retryAt := none }) }

/-- A wake source starts the wake, from whatever point step 8 has reached (R395); later sources are kept. -/
def wakeStart (src : Nat) (s : State) : State :=
  match s.pwr.asleep with
  | none => s
  | some sl =>
    if s.pwr.wake.isSome then s
    else
      let s := sleepSettle s
      let w : Wake := { step := if sl.target = 1 then 5 else 2, source := src, leaving := sl.target }
      let s := { s with pwr.wake := some w, pwr.lastWake := src, pwr.dvddRetries := 0 }
      if sl.target = 1 then s else wakeRegulator s

/-- The events that HALL_AO raises while the part sleeps (R73). -/
def aoEvent (ev : Nat) : Bool := ev == 112 || ev == 116 || ev == 117 || decide (248 ≤ ev)

/-- An event with WAKE in its route word has occurred: it wakes the part, or aborts a sleep entry (R73, R395). -/
def wakeEvent (ev : Nat) (s : State) : State :=
  match s.pwr.asleep with
  | some sl => if sl.target < 4 ∧ (routeOf s ev).testBit 2 ∧ aoEvent ev then wakeStart ev s else s
  | none => entryCheck s

/-- Ticks counted while the crystal stood still become device time (R79, Table 3.14); device time that is held since a
crystal failure stays held (R80). -/
def ticksToTime (s : State) : State :=
  match s.pwr.asleep with
  | none => s
  | some sl =>
    if sl.target < 3 then s
    else
      let s' := { s with
        time.now := s.time.now + tuPerTick * sl.ticks
        time.start := if s.time.held then s.time.start + tuPerTick * sl.ticks else s.time.start
        pwr.asleep := some { sl with ticks := 0, rcFrom := none } }
      if s.time.held then s'
      else if sl.target = 4 ∧ !offCount s then newEpoch s'
      else
        let add := match sl.rcFrom with
          | none => 750
          | some k => (if k = 0 then 0 else 750) + cdiv (tuPerTick * (sl.ticks - k) * 5) 1000
        { s' with
          time.uncert := satAdd (2 ^ 32 - 1) s.time.uncert add
          time.quality := max s.time.quality (if sl.rcFrom.isSome then 2 else 1) }

/-- Blocks that lose their contents in LISTEN and RETAIN (Table 16.6). -/
def wakeReset (s : State) : State :=
  let s := ringLost (tdmReset (drvReset (fltReset (graphLost s))))
  let s := { s with
    sch.page0F00 := page0F00Reset
    clk := { ({} : Clk) with
      xtal := s.clk.xtal, xtalFailed := s.clk.xtalFailed, xt32Fit := s.clk.xt32Fit, xt32 := s.clk.xt32
      xt32Failed := s.clk.xt32Failed }
    fab := {}
    ana := { ({} : Ana) with jacks := s.ana.jacks.map (fun (j : Jack) => ({ level := j.level } : Jack)) }
    prot.curves := [], prot.newCurves := [], prot.drivers := [], prot.newDrivers := [], prot.supplies := []
    prot.ports := s.prot.ports.map (fun (p : PortProt) => ({ saved := p.saved } : PortProt))
    prot.remaps := [], prot.moves := [], prot.restores := []
    prot.redo := (List.range 24).any (fun n => (faultOf s 0 n).st == FaultState.retired)
    svc.user := none, svc.select := none, svc.state := 0, svc.timerEnd := none, svc.timer := false
    svc.source := 8, svc.gEff := none, svc.gHp := none, svc.cap := none, svc.waits := []
    svc.auxPresent := false, svc.hpInUse := false
    pwr.level := 0, pwr.change := none, pwr.next := none, pwr.held := [], pwr.queue := [] }
  let s := { s with svc.restart := srcEn s }
  hkReset s

/-- Step 5: halls are ungated or switched on and their crossings open; chains they feed are reset (R20, R166). -/
def wakeHalls (s : State) : State :=
  match s.pwr.wake with
  | none => s
  | some w =>
    if w.leaving = 1 then chainSyncFed (onHalls sleepHalls (fun h => { h with gated := false, cross := .opened }) s)
    else
      onHalls sleepHalls (fun h => { h with
        powered := true, gated := false, cross := .opened, clk := safetyClk s }) s

/-- Heartbeat supervision restarts with a fresh window (R397). -/
def heartbeatFresh (s : State) : State :=
  if s.own.hbPeriod = 0 then s else { s with own.hbDue := s.time.now + msTu s.own.hbPeriod }

/-- Microphones after LISTEN and RETAIN: group 1 starts again, and after RETAIN group 0 and Speedwell too. -/
def micWake (listened : Bool) (s : State) : State :=
  let s := clk0Update s
  let s := (List.range 16).foldl (fun s m =>
    if !maskBit (micEn s) m then s
    else if listened && m < 4 then
      (if (micOf s m).st = .running then chainStart (4 + m) s else s)
    else micStart m s) s
  if !listened && swEn s && !s.mic.mute then swStart s else s

/-- After the wake from DOZE everything goes on where it stood (Table 16.8 step 7). -/
def dozeOver (s : State) : State :=
  let s := { s with fab.lands := s.fab.lands.map (fun l => { l with ins := [] }) }
  let s := drainOver (tdmReacquire (hkWake (silenceWake (micClockCame s))))
  let s := jackRestart 1 (jackRestart 0 s)
  let s := [0, 1, 2, 3, 4, 5].foldl (fun s g =>
    if (grpOf s g).resume then grpStart g none 4 (onGrp g (fun k => { k with resume := false }) s) else s) s
  anaUnhold (drvResume (ringRejoin s))

/-- After the wake from LISTEN and RETAIN CSYN locks at PL0 and ASYN locks (Table 16.8 step 7). -/
def deepOver (listened : Bool) (s : State) : State :=
  let s := jackRestart 1 (jackRestart 0 (micWake listened (silenceWake s)))
  if s.clk.xtal then asynSequence .first 0 false { s with clk.csyn := .search, clk.csynLevel := 0 } else s

/-- Frame boundaries that passed in the sleep are not taken. -/
def boundariesPast (s : State) : State :=
  if boundaryTu s < s.time.now then { s with gra.lastBoundary := some (boundaryTu s) } else s

/-- The part is awake: READY rises, what HALL_AO held is delivered, E226 (Table 16.8 step 6, R69). -/
def wokenTell (s : State) : State :=
  match s.pwr.wake, s.pwr.asleep with
  | some w, some sl =>
    let held := s.ev.aoHeld
    let s := heartbeatFresh { s with
      pwr.asleep := none, pwr.wake := none, pwr.lastActivity := s.time.now
      pwr.dvddRetries := w.retries
      pwr.sleptMs := min (2 ^ 32 - 1) ((s.time.now - sl.commit) / tuPerMs)
      ev.aoHeld := [], boot.ready := s.boot.life == .firmware }
    let s := held.foldl (fun s r => deliver r s) s
    let s := raise 226 w.source s
    if s.clk.xt32Failed then raise 157 0 { s with clk.xt32Failed := false } else s
  | _, _ => s

/-- The wake from DOZE, LISTEN or RETAIN ends; without a confirmed crystal the part stands as after a crystal failure
(R85). -/
def woken (s : State) : State :=
  match s.pwr.wake with
  | none => s
  | some w =>
    let s := boundariesPast (wokenTell s)
    let s := if w.leaving = 1 then dozeOver s else deepOver (w.leaving == 2) s
    if w.noXtal then xtalFail s else s

/-- The crystal is confirmed at step 3 of the wake, or found missing: device time then holds the value it has there, until
the crystal returns or the part is re-based (R79, R80, R85). On the wake from OFF the pages show TIME_DISC for the
discontinuities of this wake alone, the pages of before are lost. -/
def wakeXtal (ok : Bool) (s : State) : State :=
  match s.pwr.wake with
  | none => s
  | some w =>
    let s := ticksToTime (if w.leaving = 4 then onPorts (fun p => { p with timeDisc := false }) s else s)
    let s := if ok then s else timeHolds s
    let back := ok && s.clk.xtalFailed
    let s := { onHalls (2 ^ hAO) (fun h => { h with clk := if ok then .xtal else .rc }) s with
      clk.xtal := ok, clk.xtalFailed := if ok then false else s.clk.xtalFailed
      pwr.wake := some { w with step := if w.leaving = 4 then 5 else 4, noXtal := !ok } }
    if back then raise 153 0 (if s.time.held then newEpoch s else s) else s

end Sys2Proof.Machine
end

