-- ==== Sys2Proof/Machine/ClkRows.lean ====
section
/-! DEFINITION. Meanings of the clock rows (chapter 04) and of the change of Fh (R216). -/

namespace Sys2Proof.Machine

open Sys2Proof

/-! ### Status (CLK_STATUS_GET, R104) -/

/-- ASYN_STATE; a search reports its band search or its fine lock, which no row of the table parts: open. -/
def asynCode (s : State) : Nat :=
  match s.clk.asyn with
  | .off => 0 | .measuring => 1
  | .search => if Config.fineLock s.free s.time.now then 3 else 2
  | .locked => 4 | .coasting => 5 | .rejoining => 6

/-- CSYN_STATE. -/
def csynCode (s : State) : Nat :=
  match s.clk.csyn with
  | .off => 0
  | .search => if Config.fineLock s.free s.time.now then 3 else 2
  | .locked => 4

/-- FLAGS of CLK_STATUS_GET. -/
def clkFlags (s : State) : Nat :=
  maskOf [s.clk.edge, s.clk.xtal, s.clk.xt32, s.clk.rebased.isSome, s.halls.toList.any (fun h => h.clk == .rc)]

/-- The loop LOCKDET_SEL names is not in lock (R104). -/
def loopOpen (sel : Nat) (s : State) : Bool :=
  let a := asynCode s < 3
  let c := csynCode s < 3
  match sel with
  | 0 => a
  | 1 => c
  | 2 => !s.clk.edge
  | _ => a || c || !s.clk.edge

/-- The LOCKDET ball is driven high continuously (R104). -/
def lockdetHigh (s : State) : Bool :=
  s.boot.life == .resetLow || (match s.pwr.asleep with | some sl => sl.target != 1 | none => false)
    || loopOpen (Page.get s.clk.page 32 2) s

/-- CLK_STATUS_GET. -/
def execClkStatusGet (q : Req) (s : State) : Out :=
  .next (report { code := 0x0400, owner := false, report := true, len := lenIs 0 }
    (fun _ s =>
      b1 (asynCode s) ++ b1 (csynCode s) ++ b1 s.clk.ref ++ b1 (clkFlags s)
        ++ b1 s.clk.asynBand.val ++ b1 s.clk.csynBand.val
        ++ b1 (if s.clk.csyn == .locked then s.clk.csynLevel else 0xFF) ++ b1 (fallbackMask s)
        ++ b4 (if s.clk.ref = 0 then 24576000 else s.clk.refFreq)
        ++ i4 (if s.clk.ref = 0 then 0 else s.clk.refErr)
        ++ i4 (phaseLeft s) ++ rz 4) q s)

/-- CLK_REF_SELECT (R93, R110, R112). -/
def execClkRefSelect (q : Req) (s : State) : Out :=
  .next (serve { code := 0x0401, owner := true, len := lenIs 4,
                 fields := fun q _ => within 0 16 (q.u8 0) && within 0 2 (q.u8 1) && zeros q 2 2 }
    (fun cid q s =>
      let step := q.u8 1 == 2 || (q.u8 1 == 0 && Page.bit s.clk.page 15)
      let r := clkSelect (q.u8 0) step cid none s
      (r.1, ans r.2 (if r.2 = .ok ∨ r.2 = .pending then rz 8 else []))) q s)

/-- The CLKOUT word of a CLK_OUT_SET (Table 4.13). -/
def outWordReq (q : Req) : Nat :=
  q.u8 1 * 2 ^ 31 + (q.u16 2 - 1) * 2 ^ 18 + q.u16 4 * 2 ^ 6 + q.u8 6

/-- CLK_OUT_SET (R101, R102). -/
def execClkOutSet (q : Req) (s : State) : Out :=
  .next (serve { code := 0x0402, owner := true, len := lenIs 8, halls := needDRV,
                 fields := fun q _ => within 0 3 (q.u8 0) && within 0 1 (q.u8 1) && within 1 4096 (q.u16 2)
                   && within 0 4095 (q.u16 4) && within 0 63 (q.u8 6) && zeros q 7 1 }
    (fun cid q s =>
      let r := outAsk (q.u8 0) (outWordReq q) cid s
      (r.1, ans r.2)) q s)

/-! ### ASYN -/

/-- The measurement of an external reference ends (Table 4.4 step 2, R93). -/
def refMeasured (freq : Nat) (ok : Bool) (errPpb : Int) (s : State) : State :=
  let fam := match s.clk.newWord with | some w => w.testBit 12 | none => famOf s
  let s := { s with clk.refFreq := freq, clk.refErr := errPpb }
  if ok && refMeets fam freq errPpb then { s with clk.asyn := .search }
  else
    let why := if s.clk.why = .first then .first else .relock
    asynSequence why s.clk.ref false (clkDone .noLock { s with clk.familyChange := false, clk.waitCsyn := false })

/-- The measurement before a change of family ends (R90): the stop begins, or the change is refused with NO_LOCK. -/
def famChecked (ref freq : Nat) (ok : Bool) (errPpb : Int) (s : State) : State :=
  let fam := match s.clk.newWord with | some w => w.testBit 12 | none => famOf s
  if ok && refMeets fam freq errPpb then familyBegin ref s else clkDone .noLock { s with clk.famCheck := none }

/-- REF_MEASURED: `ok` is whether edges came, the frequency and its error from the nominal ratio. -/
def execRefMeasured (freq : Nat) (ok : Bool) (errPpb : Int) (s : State) : Out :=
  .next (match s.clk.famCheck with
    | some (ref, due) => if closed due s then famChecked ref freq ok errPpb s else s
    | none => if s.clk.asyn == .measuring && closed s.clk.measureDue s then refMeasured freq ok errPpb s else s)

/-- ASYN_LOCKED (Table 4.4 steps 5 to 7): the band found is the loop's. -/
def execAsynLocked (band : Fin 64) (s : State) : Out :=
  .next (if s.clk.asyn == .search && hallRuns s hCTRL then wakeEvent 146 (asynLock band s) else s)

/-- A lock attempt of ASYN misses its bound (R107). After the third, ASYN locks to the crystal and E149 is raised: the spec
does not say whether before that lock or with it; here at the third failure (DESIGN CHOICE, log entry "Lock
attempts"). -/
def asynMiss (s : State) : State :=
  if s.clk.target = 0 then s
  else if s.clk.attempts + 1 < 3 then { s with clk.attempts := s.clk.attempts + 1 }
  else
    raise 149 (s.clk.target * 256 + 2) { s with
      clk.attempts := 0, clk.rejoinRef := some s.clk.target, clk.target := 0, clk.lostFrom := s.time.now }

/-- ASYN_LOCK_ATTEMPT_FAIL (R107). -/
def execAsynLockAttemptFail (s : State) : Out := .next (if s.clk.asyn == .search && hallRuns s hCTRL then asynMiss s else s)

/-- REF_LOST (R91): cause 1 no edge, 2 frequency error. -/
def execRefLost (cause : Fin 2) (s : State) : Out :=
  .next (if hallRuns s hCTRL then wakeEvent 149 (refLose (cause.val + 1) s) else s)

/-- A lost or newly selected reference has met R87 for 24,576 tu (R92, R93). -/
def refReturned (freq : Nat) (errPpb : Int) (s : State) : State :=
  raise 150 s.clk.ref { s with
    clk.lost := false, clk.returning := true, clk.refFreq := freq, clk.refErr := errPpb
    clk.measureDue := s.time.now + (if s.clk.ref = 0 then 8 else cdiv (8 * 24576000) freq)
    clk.stepMode := if s.clk.cid.isSome then s.clk.stepMode else Page.bit s.clk.page 15 }

/-- A reference returns while ASYN is unlocked: no rejoin, Table 4.4 runs on it (R93). -/
def refRelock (ref : Nat) (s : State) : State :=
  asynSequence s.clk.why ref true (raise 150 ref s)

/-- The lost reference whose return is looked for while ASYN is unlocked (R93): the one three attempts failed on, or the one
in use that was lost before the lock was. -/
def unlockedLost (s : State) : Option Nat :=
  if s.clk.asyn == .search || s.clk.asyn == .measuring then
    s.clk.rejoinRef.or (if s.clk.lost && s.clk.ref != 0 then some s.clk.ref else none)
  else none

/-- REF_RETURNED (R92, R93): a reference has met R87 for 24,576 tu; the frequency measured and its error. -/
def execRefReturned (freq : Nat) (errPpb : Int) (s : State) : Out :=
  .next (if !hallRuns s hCTRL then s
    else if s.clk.asyn == .coasting && s.clk.lost && closed (s.clk.lostFrom + 24576) s
        && (s.clk.ref == 0 || refMeets (famOf s) freq errPpb) then
      wakeEvent 150 (refReturned freq errPpb s)
    else match unlockedLost s with
      | some r =>
        if closed (s.clk.lostFrom + 24576) s && refMeets (famOf s) freq errPpb then wakeEvent 150 (refRelock r s) else s
      | none => s)

/-- REF_PHASE_JUMP (R92): the returned marker's time less the time at which it was expected, in 1/16 tu, as measured over 8
reference periods. -/
def execRefPhaseJump (jump : Int) (s : State) : Out :=
  .next (if s.clk.asyn == .coasting && s.clk.returning && closed s.clk.measureDue s && hallRuns s hCTRL then
      wakeEvent 148 (phaseJump jump s)
    else s)

/-- PHASE_ALIGNED (Table 4.5). -/
def execPhaseAligned (s : State) : Out :=
  .next (if s.clk.asyn == .rejoining && closed s.clk.alignDue s && hallRuns s hCTRL then wakeEvent 151 (phaseAlign s) else s)

/-- ASYN_LOCK_LOST (Table 4.10). -/
def execAsynLockLost (s : State) : Out := .next (if asynRuns s && hallRuns s hCTRL then wakeEvent 144 (asynLose s) else s)

/-! ### CSYN -/

/-- CSYN is retargeting for a level change (Table 4.7). -/
def csynForLevel (s : State) : Bool := match s.pwr.change with | some c => c.step == .lock | none => false

/-- CSYN loses lock, or a retarget is disturbed (Table 4.11, R111). -/
def csynLose (s : State) : State :=
  let level := match s.pwr.change with
    | some c => if c.step = .lock then c.target else s.pwr.level
    | none => s.pwr.level
  relockGrant .relockCsyn (csynRetarget level (raise 145 6 { s with clk.csynLost := true }))

/-- CSYN_LOCK_LOST (R106, R111). -/
def execCsynLockLost (s : State) : Out :=
  .next (if hallRuns s hCTRL && (s.clk.csyn == .locked || (s.clk.csyn == .search && csynForLevel s && !s.clk.csynLost)) then
      wakeEvent 145 (csynLose s)
    else s)

/-- On a re-based part CSYN has returned to the crystal: by PWR_LEVEL_SET or by CLK_REF_SELECT (R110). -/
def csynReturns (s : State) : Bool :=
  s.clk.rebased.isSome && !s.clk.xtalFailed
    && (s.clk.waitCsyn || (match s.pwr.change with | some c => c.step == .lock && c.cid.isSome | none => false))

/-- The CLK_REF_SELECT of a re-based part that waited for both locks (R110). -/
def csynWaited (s : State) : State :=
  if s.clk.waitCsyn then
    let s := { s with clk.waitCsyn := false }
    if asynRuns s && s.clk.why == .unbase then
      clkDone .ok { s with clk.rebased := none, clk.csynBack := false }
    else s
  else s

/-- CSYN locks (Table 4.7 step 4, Table 4.11 step 4): E147, the halls change to CSYN, and AUTO looks at the level. -/
def csynLock (band : Fin 64) (s : State) : State :=
  let back := csynReturns s
  let s := hallsNormal 6 { s with
    clk.csyn := .locked, clk.csynBand := band, clk.csynAttempts := 0, clk.csynLost := false
    clk.csynBack := s.clk.csynBack || back }
  let s := releaseGrant .relockCsyn (raise 147 band.val s)
  autoRaise (csynWaited (if s.clk.csynFell then s else levelLocked s))

/-- CSYN_LOCKED. -/
def execCsynLocked (band : Fin 64) (s : State) : Out :=
  .next (if s.clk.csyn == .search && hallRuns s hCTRL then wakeEvent 147 (csynLock band s) else s)

/-- A CSYN attempt misses its bound (R108). -/
def csynMiss (s : State) : State :=
  if s.clk.csynFell then s
  else if s.clk.csynAttempts + 1 < 3 then { s with clk.csynAttempts := s.clk.csynAttempts + 1 }
  else levelFell { s with clk.csynAttempts := 0, clk.csynFell := true, clk.csynLevel := 0 }

/-- CSYN_LOCK_ATTEMPT_FAIL (R108). -/
def execCsynLockAttemptFail (s : State) : Out := .next (if s.clk.csyn == .search && hallRuns s hCTRL then csynMiss s else s)

/-! ### Edge line and outputs -/

/-- The edge line loses lock while ASYN stays locked (R98). -/
def edgeLose (s : State) : State :=
  let s := raise 156 0 { s with clk.edge := false }
  let s := { s with clk.outs := vmapi s.clk.outs (fun k o =>
    if o.on && outWordOf s k % 64 != 0 then { o with held := true } else o) }
  drvQuietAll s

/-- EDGE_LINE_LOST (R98). -/
def execEdgeLineLost (s : State) : Out :=
  .next (if asynRuns s && s.clk.edge && hallRuns s hCTRL then wakeEvent 156 (edgeLose s) else s)

/-- EDGE_LINE_LOCKED (R98): the line relocks after a loss of its own. -/
def execEdgeLineLocked (s : State) : Out :=
  .next (if asynRuns s && !s.clk.edge && hallRuns s hCTRL then
      wakeEvent 155 (drvQuietOver (outsRestart (raise 155 0 { s with clk.edge := true })))
    else s)

/-- A disable has taken effect: the ball is low; a reprogrammed output starts at the next base tick (R102). -/
def outStopped (k : Nat) (s : State) : State :=
  let o := outOf s k
  let s := raise 158 (k * 256) (onOut k (fun o => { o with
    on := false, stopping := false, held := false, due := (outTick s).1 }) s)
  match o.start, o.word with
  | none, some w => completeAll o.cids .ok (onOut k (fun o => { o with word := none, cids := [] }) (outPut k w s))
  | _, _ => s

/-- An enable has taken effect, counted from the base tick it waited for (R101, R102). -/
def outStarted (k w : Nat) (s : State) : State :=
  let cids := (outOf s k).cids
  let s := raise 158 (k * 256 + 1) (outPut k w (onOut k (fun o => { o with
    on := true, held := false, start := none, word := none, cids := [], tick := some o.due
    count := s.time.baseNo + ticksIn s (baseHz s) (o.due - s.time.tickBase) }) s))
  completeAll cids .ok s

/-- CLKOUT_STATE (R102): the disable of the output takes effect, or its enable. -/
def execClkoutState (k : Fin 4) (s : State) : Out :=
  let o := outOf s k.val
  .next (if !hallRuns s hCTRL then s
    else if o.stopping then wakeEvent 158 (outStopped k.val s)
    else match o.start with
      | some w => if asynRuns s && closed o.due s && (s.clk.edge || w % 64 == 0) then wakeEvent 158 (outStarted k.val w s) else s
      | none => s)

/-! ### Crystal (Table 4.12) -/

/-- The firmware runs, so that the monitor watches the crystal (R85, R469): in RETAIN and OFF again from the moment step 3
of the wake confirms it. -/
def xtalWatched (s : State) : Bool :=
  (s.boot.life == .firmware || s.boot.life == .restarting)
    && (match s.pwr.asleep with
      | some sl => decide (sl.target < 3) || !sl.settled
          || (match s.pwr.wake with | some w => decide (4 ≤ w.step) && !w.noXtal | none => false)
      | none => true)

/-- XTAL_FAIL (R85). -/
def execXtalFail (s : State) : Out :=
  .next (if s.clk.xtal && xtalWatched s then wakeEvent 152 (xtalFail s) else s)

/-- The part is re-based: a new epoch, CSYN at the PL0 settings, ASYN on the source (Table 4.12 step 6, R109). -/
def rebase (source : Fin 2) (freq : Nat) (errPpb : Int) (band csynBand : Fin 64) (s : State) : State :=
  let s := hallsNormal 6 { newEpoch s with
    clk.refFreq := freq, clk.refErr := errPpb
    clk.csyn := .locked, clk.csynBand := csynBand, clk.csynLevel := 0, clk.csynLost := false
    clk.csynFell := true, clk.csynAttempts := 0, pwr.level := 0 }
  let s := raise 147 csynBand.val s
  let s := asynLock band { s with
    clk.asyn := .search, clk.why := .rebase, clk.rejoinRef := none, clk.returning := false
    clk.target := if source = 0 then 1 else 16, clk.rebased := some (source.val + 1), clk.csynBack := false }
  raise 154 (source.val + 1) s

/-- The check of a re-base source (Table 4.12 step 5): MCLK_IN at 24.576 or 22.5792 MHz within 1,000 ppm. -/
def rebaseMeets (source : Fin 2) (freq : Nat) : Bool :=
  source.val == 1 || within 24551424 24600576 freq || within 22556621 22601779 freq

/-- CLOCK_REBASED (R109): source 0 MCLK_IN, 1 the ring's recovered clock, with its frequency as measured and the
frequency's error. -/
def execClockRebased (source : Fin 2) (freq : Nat) (errPpb : Int) (band csynBand : Fin 64) (s : State) : Out :=
  .next (if s.clk.xtalFailed && !s.clk.xtal && s.clk.rebased.isNone && s.time.held && active s && xtalWatched s
      && rebaseMeets source freq then
      rebase source freq errPpb band csynBand s
    else s)

/-- The crystal is back (R110): a part that was not re-based begins a new epoch and locks again. -/
def xtalBack (s : State) : State :=
  let held := s.time.held
  let s := if s.clk.rebased.isNone && held then newEpoch s else s
  let s := onHalls 0x7F (fun h => if h.clk = .rc then { h with clk := .xtal } else h) (raise 153 0 { s with
    clk.xtal := true, clk.xtalFailed := false })
  if s.clk.rebased.isNone && (match s.pwr.asleep with | some sl => sl.target == 1 | none => true) && xtalWatched s then
    let s := relockGrant .relockCsyn (csynRetarget s.pwr.level { s with clk.csynLost := false })
    relockGrant .relockAsyn (asynSequence .first s.clk.ref true s)
  else s

/-- XTAL_RESTORED (R110). A boot that found no crystal sees its return too: a ring load waits for it (R469). -/
def execXtalRestored (s : State) : Out :=
  .next (if s.clk.xtalFailed && !s.clk.xtal && (xtalWatched s || s.boot.life == .rom) then wakeEvent 153 (xtalBack s) else s)

/-! ### Change of Fh (Table 8.8) -/

/-- A change of Fh is asked for (ROUTE_DOMAIN_SET, APPLY of FH). -/
def fhAsk (code : Nat) (cid : Nat) (s : State) : State × Status :=
  if code % 2 = b2n (famOf s) then (s, .badParam)
  else if famBusy s || s.clk.xtalFailed || s.fab.fhChange.isSome then (s, .busy)
  else if code = fhCode s then (s, .ok)
  else if !asynRuns s then (s, .noLock)
  else (fhStart code (some cid) s, .pending)

/-- ROUTE_DOMAIN_SET (R216). -/
def execRouteDomainSet (q : Req) (s : State) : Out :=
  .next (serve { code := 0x0A02, owner := true, len := lenIs 4, halls := needAUD,
                 fields := fun q s => within 0 3 (q.u8 0) && zeros q 1 3 && q.u8 0 % 2 != b2n (famOf s) }
    (fun cid q s =>
      let r := fhAsk (q.u8 0) cid s
      (r.1, ans r.2)) q s)

/-- Outputs leave HELD, drive ports soft-start, and the graph resumes at the next frame boundary, with which the change
completes; at once where no graph resumes (Table 8.8 step 4, R246). -/
def fhComplete (f : FhChange) (s : State) : State :=
  let s := drvQuietOver (anaUnhold (fhGraph { s with fab.fhChange := none }))
  if s.gra.paused && s.gra.pause == 0 then { s with fab.fhChange := some { f with step := 4 } }
  else complete f.cid .ok s

/-- FH_CHANGE_COMPLETE (R216). -/
def execFhChangeComplete (s : State) : Out :=
  .next (match s.fab.fhChange with
    | some f => if f.step = 3 && asynRuns s then fhComplete f s else s
    | none => s)

end Sys2Proof.Machine
end

