-- ==== Sys2Proof/Machine/Boot.lean ====
section
/-! DEFINITION. Resets, the boot ROM's choice of an image, firmware image checks and slot records as shared operations
(chapter 18, R43, R389, R437). -/

namespace Sys2Proof.Machine

open Sys2Proof

/-! ### Firmware images (R418, Table 18.4) -/

/-- FW_VERSION of an image header, 24 bits. -/
def fwVersionOf (im : List Byte) : Nat := leAt im 12 3
/-- ROLLBACK of an image header. -/
def fwLevelOf (im : List Byte) : Nat := leAt im 16 1

/-- Reasons 1 to 4: the header, with the number of bytes staged. -/
def fwHeaderReason (im : List Byte) (staged : Nat) : Nat :=
  if leAt im 0 4 ≠ 0x57464C42 ∨ leAt im 4 2 ≠ 1 then 1
  else if leAt im 8 4 < 128 ∨ 262144 < leAt im 8 4 ∨ leAt im 8 4 % 4 ≠ 0 ∨ leAt im 8 4 ≠ staged then 2
  else if leAt im 17 1 ≠ 0xB1 then 3
  else if leAt im 6 2 ≠ 0 ∨ leAt im 15 1 ≠ 0 ∨ !((im.drop 18).take 46).all (· == 0) then 4
  else 0

/-- ROLLBACK below the counter or above 64 (reason 6). -/
def fwLevelBad (level : Nat) (im : List Byte) : Bool := decide (fwLevelOf im < level ∨ 64 < fwLevelOf im)

/-- REASON of a whole check (R418, R419). -/
def fwReason (im : List Byte) (staged level : Nat) : Nat :=
  if fwHeaderReason im staged ≠ 0 then fwHeaderReason im staged
  else if !Config.imageSigned im then 5
  else if fwLevelBad level im then 6
  else 0

/-- The status of a REASON (Table 18.4). -/
def fwStatus (reason : Nat) : Status :=
  if reason = 0 then .ok else if reason = 5 ∨ reason = 6 then .authFail else if reason = 8 then .notReady else .badParam

/-! ### Flash slots (R420, R421) -/

/-- First byte of a slot. -/
def slotBase (k : Nat) : Nat := k * 0x80000
/-- First byte of a slot record. -/
def slotRecAt (k : Nat) : Nat := slotBase k + 0x7FFF0
/-- Bytes of the flash. -/
def flashAt (s : State) (a n : Nat) : List Byte := memReadList s.boot.flash a n
/-- SEQ of a slot record. -/
def slotSeq (s : State) (k : Nat) : Nat := leNat (flashAt s (slotRecAt k) 4)
/-- STATE of a slot record: 0 invalid, 1 NEW, 2 TRIED, 3 CONFIRMED. -/
def slotMark (s : State) (k : Nat) : Nat :=
  let w := leNat (flashAt s (slotRecAt k + 4) 4)
  if w = 0xFFFFFFFF then 1 else if w = 0x0000FFFF then 2 else if w = 0 then 3 else 0
/-- The image in a slot, as long as its header says. -/
def slotImage (s : State) (k : Nat) : List Byte :=
  let size := leNat (flashAt s (slotBase k + 8) 4)
  flashAt s (slotBase k) (if size ≤ 262144 then size else 64)
/-- A slot with a valid record and a header that passes reasons 1 to 4 and 6. -/
def slotCand (s : State) (k : Nat) : Bool :=
  let im := slotImage s k
  slotMark s k != 0 && fwHeaderReason im im.length == 0 && !fwLevelBad s.boot.otpLevel im
/-- A candidate whose signature verifies. -/
def slotValid (s : State) (k : Nat) : Bool := slotCand s k && Config.imageSigned (slotImage s k)

/-- A slot takes part in the choice (R421): a TRIED one only while the other is not CONFIRMED. -/
def slotInChoice (s : State) (k : Nat) : Bool :=
  slotCand s k && !(slotCand s (1 - k) && slotMark s k == 2 && slotMark s (1 - k) == 3)

/-- The slot picked first (R421): the higher SEQ, slot A where both are equal. -/
def slotFirst (s : State) : Option Nat :=
  if slotInChoice s 0 && slotInChoice s 1 then some (if slotSeq s 0 < slotSeq s 1 then 1 else 0)
  else if slotInChoice s 0 then some 0
  else if slotInChoice s 1 then some 1
  else none

/-- The slot the boot ROM starts (R421): the one picked first, or the other where its signature does not verify. -/
def slotPick (s : State) : Option Nat :=
  match slotFirst s with
  | none => none
  | some k =>
    if Config.imageSigned (slotImage s k) then some k
    else if slotInChoice s (1 - k) && Config.imageSigned (slotImage s (1 - k)) then some (1 - k)
    else none

/-- Bytes written to the flash. -/
def flashPut (a : Nat) (bs : List Byte) (s : State) : State := { s with boot.flash := memWriteList s.boot.flash a bs }

/-- The STATE of a slot record is written. -/
def slotPutMark (k w : Nat) (s : State) : State := flashPut (slotRecAt k + 4) (leBytes 4 w) s

/-- The running image came from a slot. -/
def fromFlash (s : State) : Bool := decide (s.boot.source ≤ 1)

/-! ### Resets -/

/-- The ring as the boot ROM leaves it: a ring load enables both ports with HEAD_PRIO 0 (R417). -/
def romRingPage (bootsel : Nat) : Ring :=
  if bootsel = 3 then
    { page := page1200Reset ||| 0xC0000000, role := .alone, ports := Vector.replicate 2 { st := .noSignal } }
  else {}

/-- The machine after a reset of every hall and register: what the outside world drives, the flash and the OTP stay; the
boot ROM runs (R43, R413, R437, R449). -/
def resetWith (life : Life) (cause : Nat) (s : State) : State :=
  let b := s.boot.bootselPins
  let sampled : Boot := {
    life := life, bootselPins := b, bootsel := b, addrPins := s.boot.addrPins
    phase := if b = 0 ∨ b = 4 then 1 else if b ≤ 3 then 0 else 2
    reason := if 4 < b then 10 else 0
    source := if b = 2 then 3 else if b = 3 then 4 else if b = 1 then 2 else 0
    otpLevel := s.boot.otpLevel, flash := s.boot.flash }
  { State.reset with
    boot := sampled
    ev.gpioIn := s.ev.gpioIn
    clk.xt32Fit := s.clk.xt32Fit, clk.xt32 := s.clk.xt32Fit
    mic.mute := s.mic.mute, mic.muteBall := s.mic.muteBall
    mic.muteRelease := if s.mic.mute && !s.mic.muteBall then some 245760 else none
    mic.voidFrom := if s.mic.mute then some 0 else none
    ana.jacks := s.ana.jacks.map (fun (j : Jack) => ({ level := j.level } : Jack))
    ring := romRingPage b
    pwr.dvddOk := s.pwr.dvddOk, pwr.resetCause := cause, pwr.ioH := s.pwr.ioH, pwr.ioD := s.pwr.ioD
    own.nextCid := s.own.nextCid
    free := s.free
    pending := s.pending }

/-- A full reset; the boot ROM starts at once. -/
def fullReset (cause : Nat) (s : State) : State := resetWith .rom cause s

/-- Channels that back off or are retired are so after OFF too (R335): the supervisor's state is kept. `s` is the state
before the reset. -/
def faultsKeep (s t : State) : State :=
  { t with
    prot.drvCh := s.prot.drvCh, prot.micCh := s.prot.micCh, prot.ringCh := s.prot.ringCh, prot.tdmCh := s.prot.tdmCh
    prot.hkCh := s.prot.hkCh
    prot.redo := (List.range 24).any (fun n => (faultOf s 0 n).st == FaultState.retired)
    drv.ports := vmapi t.drv.ports (fun n p =>
      if (drvOf s n).st = .retired ∨ (drvOf s n).st = .safeStop then { p with st := (drvOf s n).st } else p)
    mic.chans := vmapi t.mic.chans (fun m c =>
      if (micOf s m).st = .retired ∨ (micOf s m).st = .retrying then { c with st := (micOf s m).st } else c)
    tdm.ports := vmapi t.tdm.ports (fun n p =>
      if (tdmOf s n).st = .retired then { p with st := .retired } else { p with backoff := (tdmOf s n).backoff })
    flt.chains := vmapi t.flt.chains (fun c k => { k with retired := (chainOf s c).retired }) }

/-- Step 5 of the wake from OFF: everything but the always-on memory and the power pages is reset, and the part boots
(R389, R413). The epochs that the wake began are shown on every page (R77). -/
def offReset (s : State) : State :=
  let t := faultsKeep s (resetWith .rom 4 s)
  { t with
    time := s.time, boot.began := s.time.now
    mic.mute := s.mic.muteBall, mic.muteRelease := none, mic.voidFrom := if s.mic.muteBall then some 0 else none
    ports := vmapi t.ports (fun m p => { p with timeDisc := (vget s.ports m).timeDisc })
    ev.aoHeld := s.ev.aoHeld
    clk.xtal := s.clk.xtal, clk.xtalFailed := s.clk.xtalFailed, clk.xt32 := s.clk.xt32, clk.xt32Failed := s.clk.xt32Failed
    halls := if s.clk.xtal then t.halls else t.halls.map (fun h => { h with clk := .rc })
    pwr := { t.pwr with
      page1400 := s.pwr.page1400, page1401 := s.pwr.page1401, lastWake := s.pwr.lastWake, lastState := s.pwr.lastState
      lastEntry := s.pwr.lastEntry, sleeps := s.pwr.sleeps, aborts := s.pwr.aborts, kept := s.pwr.kept
      asleep := s.pwr.asleep, wake := s.pwr.wake }
    prot := { t.prot with
      map := s.prot.map
      ports := s.prot.ports.map (fun (p : PortProt) => ({ saved := p.saved } : PortProt)) }
    ring.ports := s.ring.ports.map (fun (k : RingPort) =>
      ({ uid := k.uid, addr := k.addr, backoff := k.backoff
         st := if k.st = .retired then .retired else if t.boot.bootsel = 3 then .noSignal else .disabled } : RingPort)) }

/-- A mailbox reset of one page (R43). -/
def mbxClear (p : Port) : Port :=
  { p with
    reqSlot := Vector.replicate 64 0, rspSlot := Vector.replicate 64 0, reqBusy := false, rspReady := false
    heldRsp := none, pend := [], ptrSlot := false, ptrWord := 0, resetWait := false }

/-- A firmware restart (R43, R415). -/
def fwRestart (s : State) : State :=
  let s := onPorts (fun p => { mbxClear p with claim := false, prio := 0, shadow := none, staging := [] }) s
  let s := ([0, 1, 2, 3] : List (Fin 4)).foldl (fun s m => dropHeld m s) s
  let s := ([(0, 24), (1, 16), (2, 2), (3, 6), (4, 24)] : List (Nat × Nat)).foldl (fun s c =>
    (List.range c.2).foldl (fun s i =>
      if (faultOf s c.1 i).st = .retired then (restore c.1 i s).1
      else onFault c.1 i (fun f => { f with count := 0, windowEnd := none, stamp := none }) s) s) s
  { s with
    own := { s.own with
      owner := none, elections := if s.own.owner.isSome then s.own.elections + 1 else s.own.elections
      hbPeriod := 0, hbDue := 0, handover := none, expired := none, claimEnd := none, inbox := []
      mbxStage := if mbxCommits s then s.own.mbxStage else [] }
    boot.ready := false, boot.booted := false, boot.life := .restarting }

/-- READY rises after a reset or a restart: E245, the claim window opens (R61). -/
def readyRises (s : State) : State :=
  raise 245 0 { s with
    boot.ready := true, boot.booted := true, boot.life := .firmware, own.claimEnd := some (s.time.now + 245760) }

/-! ### Boot (Table 18.2, R463, R469) -/

/-- The image the boot ROM starts: a loaded one, or the slot it chooses. -/
def bootImage (s : State) : Option (List Byte × Nat) :=
  match s.boot.loaded with
  | some im => some (im, s.boot.source)
  | none =>
    if s.boot.phase = 1 ∧ (s.boot.bootsel = 0 ∨ s.boot.bootsel = 4) then (slotPick s).map (fun k => (slotImage s k, k))
    else none

/-- No slot passed: PHASE 2, or a host load is waited for (R421, Table 18.1). -/
def bootFails (s : State) : State :=
  if s.boot.bootsel = 4 then { s with boot.phase := 0, boot.source := 2, boot.reason := 9 }
  else { s with boot.phase := 2, boot.reason := 9 }

/-- Every hall runs; the synthesizers lock to the crystal at PL0 in the 48 kHz family (R463). -/
def bootClocks (band csynBand : Fin 64) (s : State) : State :=
  let s := onHalls 0x7E (fun h => { h with powered := true, gated := false, clk := .normal, cross := .opened }) s
  let s := { s with
    clk.xtal := true, clk.asyn := .locked, clk.asynBand := band, clk.csyn := .locked, clk.csynBand := csynBand, clk.edge := true }
  raise 147 csynBand.val (raise 146 band.val (raise 155 0 (countGo s)))

/-- Without a crystal the halls run on the safety RC and no synthesizer locks (R469). -/
def bootNoXtal (s : State) : State :=
  onHalls 0x7E (fun h => { h with powered := true, gated := false, clk := .rc, cross := .opened }) s

/-- The firmware starts (Table 18.2 step 6). After OFF the wake ends here (Table 16.8 step 6). REASON keeps the last check
failure: 5 where the slot picked first did not verify. -/
def bootStart (im : List Byte) (source : Nat) (octal : Bool) (band csynBand : Fin 64) (s : State) : State :=
  let flash := decide (source ≤ 1)
  let reason := if flash && slotFirst s != some source then 5 else s.boot.reason
  let s := if flash && slotMark s source == 1 then slotPutMark source 0x0000FFFF s else s
  let s := { s with
    boot.phase := 3, boot.source := source, boot.loaded := none, boot.reason := reason
    boot.imgLevel := fwLevelOf im, boot.fwVersion := fwVersionOf im
    boot.page1600 := BitVec.ofNat 32 (b2n flash * 2 ^ 31 + b2n (flash && octal) * 2 ^ 30 + 12) }
  let noXtal := s.clk.xtalFailed
  let s := if noXtal then bootNoXtal s else bootClocks band csynBand s
  let s := jackRestart 1 (jackRestart 0 (hkReset s))
  let off := s.pwr.wake.isSome
  let s := readyRises { s with pwr.lastActivity := s.time.now, pwr.evalPoint := true }
  let s := if off then wokenTell s else s
  let s := raise 247 s.boot.bootsel s
  if noXtal then xtalFail s else s

end Sys2Proof.Machine
end

