-- ==== Sys2Proof/Machine/PowerRows.lean ====
section
/-! DEFINITION. Meanings of the power rows (chapter 16): grants, level changes, the regulator, the idle timer, sleep and
wake, and the PWR commands. -/

namespace Sys2Proof.Machine

open Sys2Proof

/-! ### Grants -/

/-- The timeout window of the first request in the queue whose window ends closes (R385). -/
def refuseFirst (s : State) : State :=
  if !active s then s
  else match s.pwr.queue.find? (fun g => closedO g.due s) with
    | some g => refuseGrant g s
    | none => s

/-- Every timeout window that ends now closes (R82, R385). -/
def refuseDue (s : State) : State := (List.range s.pwr.queue.length).foldl (fun s _ => refuseFirst s) s

/-- GRANT_EVALUATION (R384). A request whose window ends at this tu is refused first (R82). -/
def execGrantEvaluation (s : State) : Out :=
  .next (if !hallRuns s hCTRL then s else if evalDue s then evaluateGrants (refuseDue s) else s)

/-- GRANT_REFUSED (R385): the timeout window of the first such request in the queue closes. -/
def execGrantRefused (s : State) : Out := .next (refuseFirst s)

/-! ### The regulator (R378) -/

/-- A wait for DVDD_OK runs: its end. -/
def dvddWait (s : State) : Option Nat :=
  match s.pwr.wake with
  | some w => if w.step = 2 ∧ w.retryAt = none then some w.due else none
  | none =>
    match s.pwr.change with
    | some c => if c.step = .settleUp ∨ c.step = .settleDown then some c.due else none
    | none => none

/-- DVDD_OK has been high for DVDD_SETTLE_US, at least 10 µs after VSEL changed. -/
def execDvddSettled (s : State) : Out :=
  .next (match dvddWait s with
    | none => s
    | some due =>
      if due + usTu 10 + settleTu s ≤ clockNow s + msTu 2 then
        let s := { s with pwr.dvddOk := true }
        match s.pwr.wake with
        | some w => senseD { s with pwr.wake := some { w with step := 3, due := clockNow s + msTu 5 } }
        | none => levelSettled s
      else s)

/-- DVDD_WAIT_TIMEOUT (R378, R379, R398). -/
def execDvddWaitTimeout (s : State) : Out :=
  .next (match dvddWait s with
    | none => s
    | some due =>
      if due ≤ clockNow s then
        let s := { s with pwr.dvddOk := false }
        match s.pwr.wake with
        | some w => { s with pwr.vsel := 7, pwr.wake := some { w with retryAt := some (clockNow s + msTu 1) } }
        | none => levelUnsettled s
      else s)

/-- WAKE_REGULATOR_RETRY (R398). -/
def execWakeRegulatorRetry (s : State) : Out :=
  .next (match s.pwr.wake with
    | some w =>
      match w.retryAt with
      | some t =>
        if t ≤ clockNow s then wakeRegulator { s with pwr.wake := some { w with retries := w.retries + 1 } } else s
      | none => s
    | none => s)

/-- A supply fault (R378, R440): every hall but HALL_AO is switched off, the drive balls take their reset state. -/
def supplyFail (s : State) : State :=
  let s := if active s then raise 234 0 { s with pwr.dvddOk := false } else { s with pwr.dvddOk := false }
  let s := onHalls 0x7E (fun h => { h with powered := false, cross := .closed }) (drvReset s)
  { s with pwr.supplyFault := true, boot.ready := false, boot.booted := false }

/-- The part is out of power-on reset and its firmware or boot ROM can run. -/
def powered (s : State) : Bool := s.boot.life != .off && s.boot.life != .rising && s.boot.life != .resetLow

/-- DVDD_OK_LOST (R378). -/
def execDvddOkLost (s : State) : Out :=
  .next (if powered s && s.pwr.vsel != 7 && (dvddWait s).isNone && !s.pwr.supplyFault then supplyFail s else s)

/-- SUPPLY_FAULT_RESET (R378). -/
def execSupplyFaultReset (s : State) : Out :=
  .next (if s.pwr.supplyFault then fullReset 3 (senseD { s with pwr.dvddOk := true }) else s)

/-! ### Activity and the idle timer (R391) -/

/-- A lasting activity stands now. -/
def lastingActivity (s : State) : Bool :=
  s.mic.hist == .opened || !s.pwr.held.isEmpty || !s.pwr.queue.isEmpty || s.pwr.change.isSome || s.gra.commit.isSome
    || s.clk.familyChange || s.fab.fhChange.isSome || s.fab.silence.toList.any (fun d => d.idle && !d.silent)

/-- The idle timer runs. -/
def idleRuns (s : State) : Bool := idleEn s && active s && s.pwr.entry.isNone && s.boot.life == .firmware

/-- The state the idle timer asks for: LISTEN while Speedwell is disabled gives RETAIN. -/
def idleState (s : State) : Nat := if idleTarget s = 1 ∧ !swEn s then 3 else idleTarget s + 1

/-- The idle window closes (R391). -/
def idleExpire (s : State) : State :=
  if !idleRuns s then s
  else if lastingActivity s then { s with pwr.lastActivity := s.time.now }
  else if closed (s.pwr.lastActivity + idleTu s) s then entryStart (idleState s) none 0 (raise 228 (idleState s) s)
  else s

/-- IDLE_EXPIRED (R391). -/
def execIdleExpired (s : State) : Out := .next (idleExpire s)

/-! ### Sleep and wake -/

/-- SLEEP_STEP_END (Table 16.7): a step of the entry ends, or the regulator step after the commit point. -/
def execSleepStepEnd (s : State) : Out :=
  .next (if s.pwr.entry.isSome then (if s.pwr.abortBy.isSome then entryCheck s else entryNext s)
    else if s.pwr.wake.isNone then sleepSettle s else s)

/-- SLEEP_DRAIN_TIMEOUT (R396). -/
def execSleepDrainTimeout (s : State) : Out :=
  .next (match s.pwr.entry with
    | some e => if e.step = 3 ∧ !s.sch.drained ∧ closed (e.began + drainTu s) s then entryTimeout s else s
    | none => s)

/-- HOST_ACTIVITY_WAKE (R388, R395). -/
def execHostActivityWake (m : Fin 3) (s : State) : Out :=
  .next (match s.pwr.asleep with
    | some sl => if sl.target < 4 ∧ hostWakes s (Fin.castLE (by decide) m) then wakeStart (0x100 + m.val) s else s
    | none => entryCheck s)

/-- TIMED_WAKE (R397). -/
def execTimedWake (s : State) : Out :=
  .next (match s.pwr.asleep with
    | some sl =>
      match sl.wakeDue with
      | some d => if d ≤ clockNow s then wakeStart 0x200 s else s
      | none => s
    | none => s)

/-- OFF_GPIO_WAKE (R387): the level has held for two ticks, in OFF or in an entry into it. -/
def execOffGpioWake (s : State) : Out :=
  .next (if !offGpioWake s || s.pwr.offLevelTicks < 2 then s
    else match s.pwr.asleep, s.pwr.entry with
      | some sl, _ => if sl.target = 4 then wakeStart 0x201 s else s
      | none, some e => if e.target = 4 then entryAbort 0x201 s else s
      | none, none => s)

/-- XT32_STOP_DETECTED (R79). -/
def execXt32StopDetected (s : State) : Out :=
  .next (match s.pwr.asleep with
    | some sl =>
      if 3 ≤ sl.target ∧ s.clk.xt32 then
        { s with clk.xt32 := false, clk.xt32Failed := true, pwr.asleep := some { sl with rcFrom := some (sl.ticks - 2) } }
      else s
    | none => s)

/-- Step 5 of the wake: what the state lost takes its reset contents, the halls run. -/
def wakeLogic (w : Wake) (s : State) : State :=
  if w.leaving = 4 then onWake6 (offReset s)
  else
    let s := if w.leaving = 1 then s else wakeReset s
    onWake6 (wakeHalls s)
where
  /-- Step 6 begins. -/
  onWake6 (s : State) : State := { s with pwr.wake := s.pwr.wake.map (fun w => { w with step := 6 }) }

/-- WAKE_STEP_END (Table 16.8): the wake from OFF ends at BOOT_COMPLETE. -/
def execWakeStepEnd (s : State) : Out :=
  .next (match s.pwr.wake with
    | none => s
    | some w =>
      match w.step with
      | 3 => wakeXtal true s
      | 4 => { s with pwr.wake := some { w with step := 5 } }
      | 5 => wakeLogic w s
      | 6 => if w.leaving = 4 then s else woken s
      | _ => s)

/-- WAKE_XTAL_TIMEOUT (R85). -/
def execWakeXtalTimeout (s : State) : Out :=
  .next (match s.pwr.wake with
    | some w => if w.step = 3 ∧ w.due ≤ clockNow s then wakeXtal false { s with clk.xtalFailed := true } else s
    | none => s)

/-! ### Load windows (R281, R381) -/

/-- AUTO after a load window: one level up where a core is overloaded, one down after 60 light windows. -/
def autoLoad (above : Bool) (s : State) : State :=
  if !plAuto s then s
  else if above then
    if s.pwr.level < min (plCeil s) 4 then ownLevel (s.pwr.level + 1) s else s
  else if 60 ≤ s.pwr.lightWindows then
    let s := { s with pwr.lightWindows := 0 }
    if max (plFloor s) (minPl s) < s.pwr.level then ownLevel (s.pwr.level - 1) s else s
  else s

/-- The load of a core over the window that ends lies above a number of 0.1 % (R281). -/
def loadAbove (s : State) (milli k : Nat) : Bool := decide (milli * s.sch.cycles < 1000 * vget s.sch.busy k)

/-- LOAD of a core in 0.1 % (SCHED_STATUS_GET); how it is rounded is open. -/
def loadOf (s : State) (k : Nat) : Nat :=
  if s.sch.cycles = 0 then 0 else (roundDiv s.sch.cycles (1000 * vget s.sch.busy k : Nat)).toNat

/-- CORE_LOAD_WINDOW (R281): a window ends. -/
def execCoreLoadWindow (_ _ _ _ _ _ _ _ : Computed) (s : State) : Out :=
  .next (if !hallRuns s hDSP then s else if !closed s.sch.windowEnd s then s
    else
      let above95 := (List.range 8).filter (loadAbove s 950)
      let light := (List.range 8).all (fun k => decide (2 * vget s.sch.busy k < s.sch.cycles))
      let s := { s with
        sch.windowEnd := s.time.start + (devTime s / 24576000 + 1) * 24576000
        sch.load := Vector.ofFn (fun k => loadOf s k.val)
        sch.busy := Vector.replicate 8 0, sch.cycles := 0
        pwr.lightWindows := if light then s.pwr.lightWindows + 1 else 0 }
      autoLoad (!above95.isEmpty) (above95.foldl (fun s k => raise 219 k s) s))

/-! ### Commands -/

/-- FLAGS of PWR_STATUS_GET. -/
def pwrFlags (s : State) : Nat :=
  maskOf [s.pwr.dvddOk, s.pwr.change.isSome, s.pwr.warn, s.pwr.warn && thermCap s != 7, s.pwr.shut, plAuto s, idleRuns s]

/-- PWR_STATUS_GET (R377). -/
def execPwrStatusGet (q : Req) (s : State) : Out :=
  .next (report { code := 0x1400, owner := false, report := true, len := lenIs 0 }
    (fun _ s =>
      let p := s.pwr
      b1 p.level ++ b1 (match p.change with | some c => c.target | none => p.level) ++ b1 p.vsel ++ b1 (pwrFlags s)
        ++ b4 (if !idleRuns s then 0xFFFFFFFF
               else if lastingActivity s then idleTu s / tuPerMs else msLeft (p.lastActivity + idleTu s) s)
        ++ b2 p.lastWake ++ b1 p.lastState ++ b1 p.lastEntry ++ b2 p.sleeps ++ b2 p.aborts ++ b2 p.dvddRetries
        ++ b1 p.resetCause ++ b1 p.kept ++ b2 (sat 16 (coreEst s)) ++ rz 2 ++ b4 p.sleptMs) q s)

/-- The response of PWR_LEVEL_SET. -/
def levelResp (reason : Nat) : List Byte := b1 reason ++ rz 3

/-- PWR_LEVEL_SET (R379, R380, R110). On a re-based part it retargets CSYN even at the level in force. -/
def execPwrLevelSet (q : Req) (s : State) : Out :=
  .next (serve { code := 0x1401, owner := true, len := lenIs 4,
                 fields := fun q _ => within 0 4 (q.u8 0) && zeros q 1 3 }
    (fun cid q s =>
      let level := q.u8 0
      let reason := levelReason level true s
      if s.clk.xtalFailed then (s, ans .notReady (levelResp 0))
      else if s.pwr.entry.isSome || s.pwr.shut then (s, ans .busy (levelResp 0))
      else if s.pwr.change.isNone && level == s.pwr.level && !(s.clk.rebased.isSome && !s.clk.csynBack) then
        (s, ans .ok (levelResp 0))
      else if reason ≠ 0 then (s, ans (reasonStatus reason) (levelResp reason))
      else if s.pwr.change.isNone && level == s.pwr.level then (levelBegin level (some cid) q.m.val s, ans .pending (levelResp 0))
      else if level == s.pwr.level && (s.pwr.change.map (fun c => c.step == .grant)).getD false && s.clk.rebased.isNone then
        (levelRequest level none q.m.val s, ans .ok (levelResp 0))
      else (levelRequest level (some cid) q.m.val s, ans .pending (levelResp 0))) q s)

/-- R393 refuses a sleep entry. -/
def sleepRefused (s : State) : Bool :=
  s.mic.hist == .opened || !s.pwr.held.isEmpty || s.pwr.change.isSome || s.gra.commit.isSome || s.drv.char.isSome
    || s.clk.familyChange || s.fab.fhChange.isSome || s.pwr.shut || s.pwr.entry.isSome

/-- PWR_SLEEP (R393). -/
def execPwrSleep (q : Req) (s : State) : Out :=
  .next (serve { code := 0x1402, owner := true, len := lenIs 8,
                 fields := fun q s => within 1 4 (q.u8 0) && zeros q 1 3
                   && !(q.u8 0 == 4 && q.u32 4 != 0 && !offCount s) }
    (fun cid q s =>
      if sleepRefused s then (s, ans .busy)
      else if q.u8 0 = 2 ∧ !swEn s then (s, ans .notReady)
      else (entryStart (q.u8 0) (some cid) (q.u32 4) s, ans .pending (rz 12))) q s)

/-- An entry of PWR_GRANT_GET. -/
def grantEntry (s : State) (st : Nat) (g : Grant) : List Byte :=
  b1 g.op ++ b1 g.prio ++ b1 st ++ b1 g.requester ++ b4 (sat 32 ((s.time.now - g.asked) / tuPerMs))

/-- PWR_GRANT_GET (R384). -/
def execPwrGrantGet (q : Req) (s : State) : Out :=
  .next (report { code := 0x1403, owner := false, report := true, len := lenIs 0 }
    (fun _ s =>
      let held := s.pwr.held.map (grantEntry s 1)
      let waiting := match s.pwr.queue with
        | [] => []
        | g :: rest => grantEntry s (grantState s g true) g :: rest.map (fun x => grantEntry s (grantState s x false) x)
      let all := (held ++ waiting).take 30
      b1 all.length ++ b1 s.pwr.held.length ++ rz 2 ++ all.flatten) q s)

end Sys2Proof.Machine
end

