-- ==== Sys2Proof/Machine/BootRows.lean ====
section
/-! DEFINITION. Meanings of the reset, boot, firmware and identity rows (chapters 18 and 19, R43, R449). -/

namespace Sys2Proof.Machine

open Sys2Proof

/-! ### Resets -/

/-- POWER_ON_RESET (R437): everything is cleared, always-on memory included, and the part is held. -/
def execPowerOnReset (s : State) : Out :=
  .next (resetWith .off 0 { s with pwr.dvddOk := false })

/-- POWER_ON_THRESHOLD_PASSED (R437, Table 19.9 step 2): IOVDD_H is sensed (R432), VSEL 0b000, the 1 ms
release timer begins. -/
def execPowerOnThresholdPassed (s : State) : Out :=
  .next (if s.boot.life == .off then senseH { s with boot.life := .rising, time := {}, pwr.vsel := 0 } else s)

/-- The balls sampled at the release of a reset (R32, R413). -/
def samplePins (bootsel : Fin 8) (addr : Fin 4) (s : State) : State :=
  { s with boot.bootselPins := bootsel.val, boot.addrPins := addr.val }

/-- POWER_ON_RESET_RELEASE (R437, R449): rails, DVDD_OK and RESET_N allow the release; a full boot starts on the levels
of BOOTSEL0-2 and ADDR0-1 sampled here. -/
def execPowerOnResetRelease (bootsel : Fin 8) (addr : Fin 4) (s : State) : Out :=
  .next (
    if s.boot.life == .resetLow || (s.boot.life == .rising && closed tuPerMs s) then
      let s := if s.boot.life == .rising then senseD s else s
      fullReset s.pwr.resetCause { samplePins bootsel addr s with pwr.dvddOk := true }
    else s)

/-- RESET_N_LOW (R449): the pulse resets the part; the boot follows when RESET_N rises. In power-on reset it only holds
the release. -/
def execResetNLow (s : State) : Out :=
  .next (if s.boot.life == .off || s.boot.life == .rising then s else resetWith .resetLow 1 s)

/-! ### Boot -/

/-- BOOT_XTAL_TIMEOUT (R469): 5 ms of a boot have passed without the crystal; a wake from OFF has its own (R85). No crystal
period has been counted since the reset, so device time holds at 0 (R76, R80). The crystal's return begins epoch 1, after
which this timeout is over. -/
def execBootXtalTimeout (s : State) : Out :=
  .next (if s.boot.life == .rom && !s.clk.xtalFailed && s.pwr.wake.isNone && s.time.epoch == 0
        && closed (s.boot.began + msTu 5) s then
      timeHolds (onHalls 0x7F (fun h => { h with clk := .rc }) { s with
        clk.xtal := false, clk.xtalFailed := true, time.start := s.time.now })
    else s)

/-- BOOT_COMPLETE (Table 18.2 step 6): the firmware of the image loaded or chosen starts; with no image the boot has
failed (R421). `octal` is what SFDP says; the bands are those the loops found. A ring load waits for the crystal. -/
def execBootComplete (octal : Bool) (asynBand csynBand : Fin 64) (s : State) : Out :=
  .next (
    if s.boot.life != .rom || (s.boot.bootsel == 3 && s.clk.xtalFailed) then s
    else match bootImage s with
      | some b => bootStart b.1 b.2 octal asynBand csynBand s
      | none => if s.boot.phase = 1 then bootFails s else s)

/-- FIRMWARE_RESTART_READY (R415); a part that fell asleep meanwhile comes to it after its wake. -/
def execFirmwareRestartReady (s : State) : Out :=
  .next (if s.boot.life == .restarting && s.pwr.asleep.isNone then readyRises s else s)

/-! ### Commands under the firmware and under the boot ROM (R416) -/

/-- The loading master while the boot ROM waits for a load. -/
def romMaster (s : State) : Option (Fin 4) :=
  if s.boot.life != .rom || s.boot.phase != 0 || s.boot.loaded.isSome then none
  else match s.boot.bootsel with
    | 1 => some 0
    | 2 => some 1
    | 3 => some 3
    | 4 => some 0
    | _ => none

/-- The boot ROM takes a request of the loading master: no ownership check, every command completes at once. -/
def serveRom (f : Facts) (body : Req → State → State × Answer) (q : Req) (s : State) : State :=
  match firstFailure { f with owner := false, halls := fun _ => 0 } q s with
  | some st => respond f.code q { status := st } s
  | none =>
    let r := body q s
    respond f.code q r.2 r.1

/-- A command that both serve. -/
def serveBoth (f : Facts) (rom : Req → State → State × Answer) (fw : Nat → Req → State → State × Answer) (q : Req)
    (s : State) : State :=
  if romMaster s = some q.m then serveRom f rom q s else serve f fw q s

/-- A report that both serve. -/
def reportBoth (f : Facts) (payload : Req → State → List Byte) (q : Req) (s : State) : State :=
  serveBoth f (fun q s => (s, ans .ok (payload q s))) (fun _ q s => (s, ans .ok (payload q s))) q s

/-- Flash is configured (R424). -/
def memPort (s : State) : Bool := Page.bit s.boot.page1600 31

/-- STATE of a slot as BOOT_STATUS_GET gives it: 0 where the record or the header is not valid. -/
def slotState (s : State) (k : Nat) : Nat := if slotCand s k then slotMark s k else 0

/-- PROGRESS; during step 3 of an installation the count reached is open. -/
def progressOf (s : State) : Nat :=
  match s.boot.install with
  | some i => if i.step = 3 then Config.progress s.free s.time.now % (i.total + 1) else s.boot.progress
  | none => s.boot.progress

/-- BOOT_STATUS_GET (R413). -/
def execBootStatusGet (q : Req) (s : State) : Out :=
  .next (reportBoth { code := 0x1600, owner := false, report := true, len := lenIs 0 }
    (fun _ s =>
      let b := s.boot
      let f (x : Nat) : Nat := if memPort s then x else 0
      b1 b.phase ++ b1 b.bootsel ++ b1 b.source ++ b1 b.reason ++ b4 (f (slotSeq s 0)) ++ b4 (f (slotSeq s 1))
        ++ b1 (f (slotState s 0)) ++ b1 (f (slotState s 1)) ++ b1 b.otpLevel ++ b1 b.imgLevel ++ b4 b.fwVersion
        ++ b4 (progressOf s)) q s)

/-- BOOT_IMAGE_WRITE (R416, R422): under the firmware and under the boot ROM alike. -/
def execBootImageWrite (q : Req) (s : State) : Out :=
  let body (q : Req) (s : State) : State × Answer :=
    if s.own.mbxLock then (s, ans .busy)
    else match stagePiece s.own.mbxStage (q.u32 0) (q.payload.drop 8) with
      | some b => ({ s with own.mbxStage := b }, ans .ok)
      | none => (s, ans .badParam)
  .next (serveBoth { code := 0x1680, owner := true, len := fun k => within 9 248 k, fields := fun q _ => zeros q 4 4 }
    body (fun _ q s => body q s) q s)

/-- Response of BOOT_IMAGE_COMMIT: REASON, SLOT, and FW_VERSION and ROLLBACK of the header. -/
def installResp (reason slot : Nat) (im : List Byte) : List Byte :=
  b1 reason ++ b1 slot ++ rz 2 ++ b4 (fwVersionOf im) ++ b1 (fwLevelOf im) ++ rz 3

/-- Bytes staged, as REASON 2 counts them: TOTAL must be their number. -/
def stagedBytes (im : List Byte) (total : Nat) : Nat := if im.length = total then total else 0

/-- The check of an image loaded into the boot ROM; a pass is started (R416, R417). -/
def romCommit (im : List Byte) (total : Nat) (s : State) : State × Nat :=
  let reason := fwReason im (stagedBytes im total) s.boot.otpLevel
  if reason = 0 then ({ s with boot.loaded := some im, boot.phase := 1 }, 0)
  else ({ s with boot.reason := reason }, reason)

/-- The image a commit names. -/
def fwBytes (s : State) (source addr total : Nat) : List Byte :=
  match source with
  | 0 => s.own.mbxStage
  | 1 => s.gra.ringStage
  | _ => flashAt s addr (min total 262145)

/-- BOOT_IMAGE_COMMIT (R416, R422, R424). -/
def execBootImageCommit (q : Req) (s : State) : Out :=
  .next (serveBoth
    { code := 0x1681, owner := true, len := lenIs 12,
      fields := fun q s => within 0 2 (q.u8 0) && within 0 1 (q.u8 1) && zeros q 2 2
        && (if q.u8 0 = 2 then decide (0x100000 ≤ q.u32 4) else q.u32 4 == 0)
        && ((romMaster s).isNone || (q.u8 0 == 0 && q.u8 1 == 0)) }
    (fun q s =>
      let im := s.own.mbxStage
      let r := romCommit im (q.u32 8) s
      (r.1, ans (fwStatus r.2) (installResp r.2 0xFF im)))
    (fun cid q s =>
      if s.boot.install.isSome then (s, ans .busy)
      else if (q.u8 0 = 2 ∨ q.u8 1 = 1) ∧ !memPort s then (s, ans .notReady (b1 8 ++ b1 0xFF ++ rz 10))
      else
        let im := fwBytes s (q.u8 0) (q.u32 4) (q.u32 8)
        let i : Install := { step := 1, cid := some cid, action := q.u8 1, source := q.u8 0, image := im, total := q.u32 8 }
        let s := { s with
          boot.install := some i
          own.mbxLock := s.own.mbxLock || q.u8 0 == 0
          ring.recvLock := s.ring.recvLock || q.u8 0 == 1 }
        let r := askGrant .fwVerify (some cid) q.m.val 20 0 0 s
        if r.2 = .refused then (installEnd .noGrant 0 (rz 12) r.1, ans .noGrant) else (r.1, ans .pending (rz 12))) q s)

/-- The slot an installation writes (R422, R423). -/
def installSlot (s : State) : Nat :=
  if fromFlash s then 1 - s.boot.source
  else if slotValid s 0 && (!slotValid s 1 || decide (slotSeq s 1 < slotSeq s 0)) then 1 else 0

/-- SEQ of the new record. -/
def installSeq (s : State) : Nat :=
  if fromFlash s then slotSeq s s.boot.source + 1
  else max (if slotValid s 0 then slotSeq s 0 else 0) (if slotValid s 1 then slotSeq s 1 else 0) + 1

/-- The check of Table 18.5 step 2 ends. Step 3 leaves the slot without a valid record from its start on (R423); its bytes
until step 4 read erased (DESIGN CHOICE, log entry "Flash during an installation"). -/
def verifyDone (i : Install) (s : State) : State :=
  let s := releaseGrant .fwVerify s
  let reason := fwReason i.image (stagedBytes i.image i.total) s.boot.otpLevel
  if reason ≠ 0 then installEnd (fwStatus reason) 0 (installResp reason 0xFF i.image) { s with boot.reason := reason }
  else if i.action = 0 then installEnd .ok 0 (installResp 0 0xFF i.image) s
  else
    let k := installSlot s
    { s with
      boot.install := some { i with step := 3, slot := k }, boot.progress := 0
      boot.flash := memErase s.boot.flash (slotBase k) 0x80000 }

/-- FW_VERIFY_DONE (R422). -/
def execFwVerifyDone (s : State) : Out :=
  .next (if !hallRuns s hCTRL then s else match s.boot.install with
    | some i => if i.step = 2 then verifyDone i s else s
    | none => s)

/-- Erase, programming and read-back end (Table 18.5 steps 3 and 4). After a failure the bytes of the slot are open and
its record is erased. -/
def installDone (i : Install) (ok : Bool) (s : State) : State :=
  let seq := installSeq s
  let blank := { s with boot.flash := memErase s.boot.flash (slotBase i.slot) 0x80000 }
  if ok then
    let s := flashPut (slotRecAt i.slot) (leBytes 4 seq ++ leBytes 4 0xFFFFFFFF ++ rz 8)
      (flashPut (slotBase i.slot) i.image { blank with boot.progress := i.image.length })
    installEnd .ok 0 (installResp 0 i.slot i.image) s
  else
    let s := flashPut (slotBase i.slot) ((Config.freeBytes s.free 0x7FFF0).take 0x7FFF0)
      { blank with free := s.free + 1, boot.reason := 7 }
    installEnd .badParam 0 (installResp 7 i.slot i.image) s

/-- FLASH_INSTALL_DONE (R422). -/
def execFlashInstallDone (ok : Bool) (s : State) : Out :=
  .next (if !hallRuns s hCTRL then s else match s.boot.install with
    | some i => if i.step = 3 then installDone i ok s else s
    | none => s)

/-- BOOT_CONFIRM (R421). -/
def execBootConfirm (q : Req) (s : State) : Out :=
  .next (serve { code := 0x1601, owner := true, len := lenIs 0 }
    (fun cid _ s =>
      if !fromFlash s then (s, ans .notReady)
      else if slotMark s s.boot.source = 3 then (s, ans .ok)
      else ({ s with boot.confirm := s.boot.confirm ++ [cid] }, ans .pending)) q s)

/-- CONFIRM_RECORD_WRITTEN (R420): REASON 7 in FLAGS where the write failed. -/
def execConfirmRecordWritten (ok : Bool) (s : State) : Out :=
  .next (
    let cids := s.boot.confirm
    if cids = [] ∨ hallRuns s hCTRL = false then s
    else
      let s := flashFree { s with boot.confirm := [] }
      if ok then completeAll cids .ok (slotPutMark s.boot.source 0 s)
      else cids.foldl (fun s c => completeWith c .badParam 7 [] s) { s with boot.reason := 7 })

/-- BOOT_ROLLBACK_ADVANCE (R419). -/
def execBootRollbackAdvance (q : Req) (s : State) : Out :=
  .next (serve { code := 0x1682, owner := true, len := lenIs 0 }
    (fun cid _ s =>
      if s.boot.imgLevel ≤ s.boot.otpLevel then (s, ans .ok (b1 s.boot.otpLevel ++ rz 3))
      else if fromFlash s && slotMark s s.boot.source != 3 then (s, ans .busy)
      else ({ s with boot.advance := s.boot.advance ++ [cid] }, ans .pending (b1 s.boot.otpLevel ++ rz 3))) q s)

/-- OTP_BITS_BLOWN (R419): the counter never falls. -/
def execOtpBitsBlown (s : State) : Out :=
  .next (
    let cids := s.boot.advance
    if cids = [] ∨ hallRuns s hCTRL = false then s
    else
      let level := max s.boot.otpLevel s.boot.imgLevel
      cids.foldl (fun s c => completeWith c .ok 0 (b1 level ++ rz 3) s)
        { s with boot.advance := [], boot.otpLevel := level })

/-! ### Identity -/

/-- PP_REV (Table 2.6): the firmware fields read zero until BOOTED rises. -/
def ppRev (s : State) : Nat := 0xB1 * 2 ^ 24 + (if s.boot.booted then s.boot.fwVersion % 2 ^ 24 else 0)

/-- ID_GET (R425). -/
def execIdGet (q : Req) (s : State) : Out :=
  .next (reportBoth { code := 0x1700, owner := false, report := true, len := lenIs 0 }
    (fun _ _ => leBytes 16 Config.uid.toNat ++ b2 Config.cert.length ++ rz 2) q s)

/-- ID_CERT_READ (R425). -/
def execIdCertRead (q : Req) (s : State) : Out :=
  .next (reportBoth { code := 0x1701, owner := false, report := true, len := lenIs 8,
                      fields := fun q _ => within 1 240 (q.u16 2) && zeros q 4 4
                        && decide (q.u16 0 + q.u16 2 ≤ Config.cert.length) }
    (fun q _ => q.payload ++ sliceBytes Config.cert (q.u16 0) (q.u16 2)) q s)

/-- ID_ATTEST (R427). -/
def execIdAttest (q : Req) (s : State) : Out :=
  .next (serve { code := 0x1702, owner := true, len := lenIs 32 }
    (fun cid q s =>
      if s.boot.attest.isSome then (s, ans .busy)
      else ({ s with boot.attest := some (cid, q.payload) }, ans .pending (rz 68))) q s)

/-- The message of Table 18.7. -/
def attestMessage (s : State) (challenge : List Byte) (count : Nat) : List Byte :=
  [0x42, 0x4C, 0x41, 0x54] ++ challenge ++ leBytes 16 Config.uid.toNat ++ b4 (ppRev s) ++ b4 count

/-- ATTESTATION_SIGNED (R427): COUNT counts this attestation too. -/
def execAttestationSigned (s : State) : Out :=
  .next (if !hallRuns s hCTRL then s else match s.boot.attest with
    | none => s
    | some (cid, challenge) =>
      let count := (s.boot.attestCount + 1) % 2 ^ 32
      let sig := Config.attestSign (attestMessage s challenge count)
      completeWith cid .ok 0 (b4 count ++ leBytes 32 sig.1.toNat ++ leBytes 32 sig.2.toNat)
        { s with boot.attest := none, boot.attestCount := count })

end Sys2Proof.Machine
end

