-- ==== Sys2Proof/Machine/EventRows.lean ====
section
/-! DEFINITION. Meanings of the event, GPIO and device-time rows (chapter 03). -/

namespace Sys2Proof.Machine

open Sys2Proof

/-! ### Record queues (R68 to R71) -/

/-- A record enters the queue of one master: it merges, or takes its place in the order of R69, and a full queue drops its
oldest (R70, R71). -/
def enqueue (r : Record) (p : Port) : Port :=
  if mergeable r.ev && p.queue.any (fun x => x.ev == r.ev) then
    { p with
      queue := p.queue.map (fun x => if x.ev = r.ev then
        { x with arg := satAdd 65535 (if x.merged then x.arg else 1) 1, merged := true } else x) }
  else if p.queue.length < 64 then { p with queue := insertRecord r p.queue }
  else { p with queue := insertRecord r p.queue.tail, evqOvf := true, dropped := satAdd 65535 p.dropped 1 }

/-- A debounce window that opened at or before a record's stamp is still open (R69). -/
def windowOpen (s : State) (r : Record) : Bool :=
  s.ev.slots.toList.any (fun x => match x.window with
    | some w => epochAfter r.epoch w.epoch || decide (w.epoch = r.epoch ∧ w.start ≤ r.time)
    | none => false)

/-- No record with an earlier stamp can still come, 64 tu have passed since the occurrence, in whatever epoch (R69). While
device time is held the periods of the HALL_CTRL clock stand for tu. -/
def releasable (s : State) (r : Record) : Bool :=
  !windowOpen s r
    && (decide (r.born + 64 ≤ clockNow s)
      || (s.time.held && decide ((if r.held then r.heldAt else 0) + 64 ≤ s.time.heldTicks)))

/-- The oldest record of the router's hold is released (R69). -/
def recordRelease (s : State) : State :=
  match s.ev.held with
  | [] => s
  | r :: rest =>
    if releasable s r then
      let s := { s with ev.held := rest }
      let put (m : Fin 4) (s : State) : State := if maskBit r.masters m.val then onPort m (enqueue r) s else s
      put 3 (put 2 (put 1 (put 0 s)))
    else s

/-- RECORD_RELEASE (R69). -/
def execRecordRelease (s : State) : Out := .next (if active s then recordRelease s else s)

/-! ### Balls -/

/-- A HIRQ ball is active (R42, Table 16.7 step 8). -/
def hirqActive (s : State) (b : Nat) : Bool :=
  irqBit s b 0 && (match s.pwr.asleep with | some sl => sl.target == 1 || !sl.settled | none => true)
    && (if irqBit s b 1 then (vget s.ev.hirqPulse b).isSome
        else
          let p := vget s.ports (irqMaster s b)
          (List.range 256).any (fun e => p.evsum.getLsbD e && p.evmask.getLsbD e && (routeOf s e).testBit b))

/-- HIRQ_PULSE_END (R42). -/
def execHirqPulseEnd (ball : Fin 2) (s : State) : Out :=
  .next (if stageOver (vget s.ev.hirqPulse ball.val) s then
      { s with ev.hirqPulse := vset s.ev.hirqPulse ball.val none }
    else s)

/-- ROUTE_GPIO_PULSE_END (R75). -/
def execRouteGpioPulseEnd (g : Fin 24) (s : State) : Out :=
  .next (if stageOver (vget s.ev.gpioPulse g.val) s then
      { s with
        ev.gpioPulse := vset s.ev.gpioPulse g.val none
        ev.gpioOut := s.ev.gpioOut &&& ~~~(BitVec.ofNat 24 (2 ^ g.val)) }
    else s)

/-- A slot sees a level change: an open window is abandoned and the change starts a new one (EVT_SLOT_SET). -/
def slotChange (g : Fin 24) (level : Bool) (s : State) (x : Slot) : Slot :=
  if x.gpio = some g then
    { x with window := some { start := stampNow s, epoch := s.time.epoch, held := s.time.held, born := clockNow s
                              heldAt := s.time.heldTicks, due := clockNow s + tuPerTick * x.debounce
                              level := level } }
  else x

/-- The event slots run: in every state but OFF. -/
def slotsRun (s : State) : Bool :=
  powered s && (match s.pwr.asleep with | some sl => sl.target != 4 | none => true)

/-- Instant of the last history sample written at or before a count of tu (R147). -/
def instantBefore (s : State) (t : Nat) : Nat :=
  if s.mic.frameStart ≤ t then s.mic.nextIndex + (t - s.mic.frameStart) / 1536 - 1
  else s.mic.nextIndex - cdiv (s.mic.frameStart - t) 1536 - 1

/-- A push-to-talk slot: each accepted edge is a detection with its stamp (R147). -/
def pttDetect (slot : Fin 8) (stamp : Nat) (s : State) : State :=
  if swPtt s = slot.val ∧ swRuns s then
    let r := detect stamp (instantBefore s (atDev s stamp)) 0 s
    if r.2 then wakeEvent 112 r.1 else r.1
  else s

/-- An accepted edge of a slot raises its event with the epoch, stamp and TIME_HELD of the edge, and may wake the part. As a
detection an edge of an earlier epoch counts at the beginning of this one (DESIGN CHOICE, log entry "Event slots"). -/
def slotAccept (slot : Fin 8) (g : Fin 24) (w : SlotWindow) (s : State) : State :=
  let s := raiseRec { ev := 248 + slot.val, arg := g.val * 256 + (if w.level then 1 else 2), epoch := w.epoch
                      held := w.held, time := w.start, born := w.born, heldAt := w.heldAt } s
  wakeEvent (248 + slot.val) (pttDetect slot (if w.epoch = s.time.epoch then w.start else 0) s)

/-- The debounce window of a slot closes with the level held throughout; while device time is held the wait is the
environment's (R80). -/
def slotSettle (slot : Fin 8) (s : State) : State :=
  let x := vget s.ev.slots slot.val
  match x.gpio, x.window with
  | some g, some w =>
    if slotsRun s && (decide (w.due ≤ clockNow s) || s.time.held) then
      let s := { s with ev.slots := vset s.ev.slots slot.val { x with window := none } }
      if maskBit x.edge (if w.level then 0 else 1) then slotAccept slot g w s else s
    else s
  | _, _ => s

/-- Every debounce window that has closed, before what else happens at this tu (R82). -/
def slotsSettle (s : State) : State :=
  if s.time.held then s else ([0, 1, 2, 3, 4, 5, 6, 7] : List (Fin 8)).foldl (fun s k => slotSettle k s) s

/-- GPIO_EVENT: the debounce window of a slot closes with the level held throughout. -/
def execGpioEvent (slot : Fin 8) (s : State) : Out := .next (slotSettle slot s)

/-- GPIO_EDGE_OBSERVED: the level of a ball changes. A debounce window that closes at this tu is closed first (R82). -/
def execGpioEdgeObserved (g : Fin 24) (level : Bool) (s : State) : Out :=
  .next (
    if s.ev.gpioIn.getLsbD g.val = level then s
    else
      let s := slotsSettle s
      let s := { s with ev.gpioIn := BitVec.ofNat 24 (putBits s.ev.gpioIn.toNat g.val 1 (b2n level)), pwr.offLevelTicks := 0 }
      let s := if syncGpio s = g.val ∧ level then markSeen 1 s else s
      if slotsRun s then { s with ev.slots := s.ev.slots.map (slotChange g level s) } else s)

/-! ### GPIO use (R467) -/

/-- A GPIO is in output use: a route word with GPIO at 1 selects it. -/
def gpioOutUse (s : State) (g : Nat) : Bool :=
  s.ev.route.toList.any (fun w => w.getLsbD 4 && bitsAt w.toNat 19 5 == g)


/-- A GPIO is in input use. -/
def gpioInUse (s : State) (g : Nat) : Bool :=
  s.ev.slots.toList.any (fun x => match x.gpio with | some k => k.val == g | none => false)
    || syncGpio s == g
    || (hkEn s && hkTrig s == 2 && Page.get s.hk.page1300 8 8 == g)
    || (List.range 4).any (fun k => slotEn s k && slotTrig s k == 2 && Page.get s.hk.page1301 (32 * k + 16) 8 == g)
    || (g == 0 && offGpioWake s)

/-! ### Commands -/

/-- EVT_RECORD_READ (R68, R71). -/
def execEvtRecordRead (q : Req) (s : State) : Out :=
  .next (serve { code := 0x0300, owner := false, report := true, len := lenIs 4,
                 fields := fun q _ => within 1 15 (q.u8 0) && zeros q 1 3 }
    (fun _ q s =>
      let p := portOf s q.m
      let got := p.queue.take (q.u8 0)
      let left := p.queue.drop (q.u8 0)
      (onPort q.m (fun p => { p with queue := left, dropped := 0 }) s,
       ans .ok (b1 got.length ++ b1 left.length ++ b2 p.dropped ++ rz 4 ++ got.flatMap recordBytes))) q s)

/-- FIRST and COUNT of the route commands. -/
def routeSpan (q : Req) : Bool :=
  within 0 255 (q.u16 0) && within 1 60 (q.u8 2) && decide (q.u16 0 + q.u8 2 ≤ 256) && zeros q 3 1

/-- EVT_ROUTE_GET (R72). -/
def execEvtRouteGet (q : Req) (s : State) : Out :=
  .next (report { code := 0x0301, owner := false, report := true, len := lenIs 4, fields := fun q _ => routeSpan q }
    (fun q s => q.payload ++ (List.range (q.u8 2)).flatMap (fun k => b4 (routeOf s (q.u16 0 + k)))) q s)

/-- A route word may be written (R5, R72, R75). -/
def routeWordOk (s : State) (w : Nat) : Bool :=
  bitsAt w 24 8 == 0 && bitsAt w 13 4 == 0 && bitsAt w 6 2 == 0 && decide (bitsAt w 17 2 < 2)
    && (!w.testBit 4 || (decide (bitsAt w 19 5 < 24) && !gpioInUse s (bitsAt w 19 5)))

/-- EVT_ROUTE_SET (R72, R75): all words are checked before any is written. -/
def execEvtRouteSet (q : Req) (s : State) : Out :=
  .next (serve { code := 0x0380, owner := true, len := fun k => within 8 244 k, lenQ := fun q => q.len == 4 + 4 * q.u8 2,
                 fields := fun q s => routeSpan q && (List.range (q.u8 2)).all (fun k => routeWordOk s (q.u32 (4 + 4 * k))) }
    (fun _ q s =>
      ({ s with ev.route := vmapi s.ev.route (fun e w =>
          if q.u16 0 ≤ e ∧ e < q.u16 0 + q.u8 2 then BitVec.ofNat 32 (q.u32 (4 + 4 * (e - q.u16 0))) else w) },
       ans .ok)) q s)

/-- EVT_SLOT_SET (R467): an edge still in debounce is dropped. -/
def execEvtSlotSet (q : Req) (s : State) : Out :=
  .next (serve { code := 0x0303, owner := true, len := lenIs 4,
                 fields := fun q _ => within 0 7 (q.u8 0)
                   && (q.u8 1 == 0xFF || (within 0 23 (q.u8 1) && within 1 3 (q.u8 2))) }
    (fun _ q s =>
      let put (x : Slot) : State := { s with ev.slots := vset s.ev.slots (q.u8 0) x }
      if h : q.u8 1 < 24 then
        if gpioOutUse s (q.u8 1) then (s, ans .busy)
        else (put { gpio := some ⟨q.u8 1, h⟩, edge := q.u8 2, debounce := q.u8 3 }, ans .ok)
      else (put {}, ans .ok)) q s)

/-- TIME_Q (Table 3.13). -/
def timeQ (s : State) : Nat := if s.time.held then 3 else s.time.quality

/-- EVT_TIME_GET (R76). -/
def execEvtTimeGet (q : Req) (s : State) : Out :=
  .next (report { code := 0x0302, owner := false, report := true, len := lenIs 0 }
    (fun _ s => b8 (devTime s) ++ b2 s.time.epoch ++ b1 (timeQ s) ++ rz 1 ++ b4 s.time.uncert) q s)

end Sys2Proof.Machine
end

