-- ==== Sys2Proof/Machine/FltRows.lean ====
section
/-! DEFINITION. Meanings of the filter-chain rows (chapter 07). -/

namespace Sys2Proof.Machine

open Sys2Proof

/-- Halls a FLT command on chain `c` needs (Table 2.24). -/
def fltHalls (q : Req) : Nat := if 26 ≤ q.u8 0 then 0x18 else 8

/-- A chain with a trim filter (R186). -/
def trimChain (c : Nat) : Bool := decide (c < 98) && !isSense c

def bankCode : BankState → Nat
  | .active => 0 | .ready => 1 | .loading => 2 | .invalid => 3

def swapCode (k : Chain) : Nat :=
  match k.fade with
  | some f => if f.forward then 2 else 3
  | none => if k.wait.isSome then 1 else 0

def fltStatus (s : State) (c : Nat) : List Byte :=
  let k := chainOf s c
  let pos := match k.fade with | some f => fadePos f | none => 0
  b1 c ++ b1 (shown (if 26 ≤ c then 0x18 else 8) s (chainRun s c)) ++ b1 (b2n k.active) ++ b1 (bankCode k.bankA.st) ++ b1 (bankCode k.bankB.st)
    ++ b1 (swapCode k) ++ b1 (b2n (firTrunc s c) + 2 * b2n (chainPhase s c) + k.lastFlags) ++ rz 1
    ++ b2 pos ++ b2 ((k.fade.map (fun f => f.n)).getD 0)
    ++ b4 (sat 32 k.count)
    ++ b2 k.clip ++ b2 (64 * chainDelayInt s c + chainDelayFrac s c)

/-- FLT_STATUS_GET (R179, R175): reading clears CLIP. -/
def execFltStatusGet (q : Req) (s : State) : Out :=
  .next (serve { code := 0x0900, owner := false, report := true, len := lenIs 4,
                 fields := fun q _ => decide (q.u8 0 < 98) && zeros q 1 3 }
    (fun _ q s => (onChain (q.u8 0) (fun k => { k with clip := 0 }) s, ans .ok (fltStatus s (q.u8 0)))) q s)

/-- The active image with one section replaced and NBQ raised (FLT_TRIM_SET steps 1 to 3). -/
def trimImage (img : List Byte) (sec : Nat) (coef : List Byte) : List Byte :=
  let nbq := max (imgNbq img) (sec + 1)
  let pass : List Byte := leBytes 4 (2 ^ 30) ++ List.replicate 16 0
  let secs := (List.range nbq).flatMap (fun i =>
    if i = sec then coef else if i < imgNbq img then sliceBytes img (16 + 20 * i) 20 else pass)
  let head := b1 nbq ++ rz 1 ++ b2 (imgNfir img) ++ b2 (imgSettle img) ++ rz 6
  let taps := sliceBytes img (16 + 20 * imgNbq img) (4 * imgNfir img)
  head ++ leBytes 4 (crc32 (head ++ secs ++ taps)).toNat ++ secs ++ taps

/-- The coefficients of the new section: pass-through for TYPE 0, else the design, if it fits Q2.30. -/
def trimCoef (q : Req) (hz : Nat) : Option (List Byte) :=
  if q.u8 2 = 0 then some (leBytes 4 (2 ^ 30) ++ List.replicate 16 0)
  else (Config.trimSection (q.u8 2) (q.u32 4) (q.i16 8) (q.u16 10) hz).map (fun v => leBytes 20 v.toNat)

/-- FLT_TRIM_SET: a section is designed into the inactive bank and faded to over 1,024 samples (R175, R183). -/
def execFltTrimSet (q : Req) (s : State) : Out :=
  .next (serve { code := 0x0901, owner := true, len := lenIs 12, halls := fltHalls,
                 fields := fun q s => trimChain (q.u8 0) && within 0 7 (q.u8 1) && within 0 6 (q.u8 2) && zeros q 3 1
                   && decide (100 ≤ q.u32 4 ∧ q.u32 4 < 49 * chainHz s (q.u8 0))
                   && withinI (-240) 240 (q.i16 8) && within 100 20000 (q.u16 10) }
    (fun cid q s =>
      let c := q.u8 0
      let k := chainOf s c
      if k.retired then (s, ans .retired)
      else if k.wait.isSome || k.fade.isSome || (idleBank k).st == .loading then (s, ans .busy)
      else match trimCoef q (chainHz s c) with
        | none => (s, ans .badParam)
        | some coef =>
          let bank : Bank := { st := .ready, image := trimImage (activeBank k).image (q.u8 1) coef }
          let s := onChain c (setIdleBank bank) s
          let w : SwapWait := { n := 1024, at_ := 0, late := false, cid := some cid, isSwap := false }
          if k.resetAt.isNone then (swapNow c { w with cid := none } s, ans .ok)
          else (swapNow c w s, ans .pending)) q s)

/-- FLT_DELAY_SET (R170, R171). -/
def execFltDelaySet (q : Req) (s : State) : Out :=
  .next (serve { code := 0x0902, owner := true, len := lenIs 4, halls := fltHalls,
                 fields := fun q _ => trimChain (q.u8 0) && zeros q 1 1 && within 0 16383 (q.u16 2) }
    (fun cid q s =>
      let c := q.u8 0
      let k := chainOf s c
      if k.retired then (s, ans .retired)
      else if k.delayFade.isSome then
        let s := onChain c (fun k => { k with delayHeld := some (q.u16 2, some cid) }) s
        (match k.delayHeld with | some (_, old) => complete old .superseded s | none => s, ans .pending)
      else
        let r := delayBegin c (q.u16 2) (some cid) s
        (r.1, ans r.2)) q s)

/-- The first check of a sealed image that fails: REASON of FLT_BANK_LOAD, 0 if none. An image too short for its header has
no CRC to check: REASON 4 (the order of R180 does not say: DESIGN CHOICE, log entry "Images shorter than their
header"). -/
def bankReason (s : State) (c : Nat) (img : List Byte) : Nat :=
  if img.length < 16 then 4
  else if leAt img 12 4 ≠ (crc32 (img.take 12 ++ img.drop 16)).toNat then 1
  else if 8 < imgNbq img then 2
  else if (if 96000 < chainHz s c then 128 else 256) < imgNfir img then 3
  else if img.length ≠ 16 + 20 * imgNbq img + 4 * imgNfir img then 4
  else if leAt img 1 1 ≠ 0 ∨ leAt img 6 6 ≠ 0 then 5
  else if 4095 < imgSettle img then 6
  else 0

/-- FLT_BANK_LOAD (R180, R183). -/
def execFltBankLoad (q : Req) (s : State) : Out :=
  .next (serve { code := 0x0980, owner := true, len := fun n => within 9 248 n, halls := fltHalls,
                 fields := fun q _ => trimChain (q.u8 0) && within 0 1 (q.u8 1) && within 0 1199 (q.u16 2)
                   && zeros q 4 4 && decide (q.u16 2 + (q.len - 8) ≤ 1200) }
    (fun _ q s =>
      let c := q.u8 0
      let k := chainOf s c
      let off := q.u16 2
      let b := idleBank k
      if k.retired then (s, ans .retired)
      else if k.wait.isSome || k.fade.isSome then (s, ans .busy)
      else if off ≠ 0 ∧ (b.st ≠ .loading ∨ off ≠ b.image.length) then (s, ans .badParam)
      else
        let img := (if off = 0 then [] else b.image) ++ q.payload.drop 8
        if q.u8 1 = 0 then (onChain c (setIdleBank { b with st := .loading, image := img }) s, ans .ok)
        else
          let r := bankReason s c img
          let s := onChain c (setIdleBank { st := if r = 0 then .ready else .invalid, image := img }) s
          (s, ans (if r = 0 then .ok else .badParam) (b1 (b2n (!k.active)) ++ b1 r ++ rz 2))) q s)

/-- A boundary of a chain at or after a device time has passed (R81): an output instant, on a stopped chain that time. -/
def chainLate (s : State) (c t : Nat) : Bool :=
  if (chainOf s c).resetAt.isNone then decide (t < devTime s)
  else if 4 ≤ c ∧ c < 8 then decide (0 < devTime s ∧ t ≤ (devTime s - 1) / 512 * 512)
  else tickPassed s (chainHz s c) (atDev s t)

/-- FLT_BANK_SWAP (R181 to R183). -/
def execFltBankSwap (q : Req) (s : State) : Out :=
  .next (serve { code := 0x0981, owner := true, len := lenIs 12, halls := fltHalls,
                 fields := fun q s => trimChain (q.u8 0) && within 0 1 (q.u8 1)
                   && (if q.u8 1 = 0 then q.u16 2 == 0 else within 64 8192 (q.u16 2))
                   && decide (q.u64 4 ≤ devTime s + 1474560000) }
    (fun cid q s =>
      let c := q.u8 0
      let k := chainOf s c
      let late := q.u64 4 != 0 && chainLate s c (q.u64 4)
      if k.retired then (s, ans .retired)
      else if k.wait.isSome then (s, ans .busy)
      else match k.fade with
      | some _ =>
        let s := swapReverse c s
        (s, { status := .ok, flags := 1,
              payload := swapPayload (((chainOf s c).fade.map heading).getD (!k.active)) (swapSample c s) })
      | none =>
        if (idleBank k).st ≠ .ready then (s, ans .notReady)
        else
          let w : SwapWait := { n := q.u16 2, at_ := whenNamed (q.u64 4) s, late := late, cid := some cid,
                                isSwap := true }
          if k.resetAt.isNone ∧ w.at_ ≤ s.time.now then
            let s := swapNow c { w with cid := none } s
            (s, { status := .ok, flags := (if late then 128 else 0) + ((chainOf s c).lastFlags / 8 % 2) * 2,
                  payload := swapPayload (!k.active) (devTime s) })
          else (onChain c (fun k => { k with wait := some w }) s,
            { status := .pending, payload := swapPayload (!k.active) 0 })) q s)

/-- Chains named by the mask of FLT_CHAIN_SYNC. -/
def syncMask (q : Req) : Nat := leAt q.payload 0 16

/-- FLT_CHAIN_SYNC (R166, R81). -/
def execFltChainSync (q : Req) (s : State) : Out :=
  .next (serve { code := 0x0982, owner := true, len := lenIs 24,
                 halls := fun q => if syncMask q / 2 ^ 26 = 0 then 8 else 0x18,
                 fields := fun q _ => maskOk (syncMask q) 98 }
    (fun cid q s =>
      let named := maskList (syncMask q) 98
      if named.any (fun c => (chainOf s c).retired) then (s, ans .retired)
      else
        let live := named.filter (fun c => (chainOf s c).resetAt.isSome)
        let late := q.u64 16 != 0 && live.any (fun c => chainLate s c (q.u64 16))
        if live = [] then (s, { status := .ok, flags := b2n late * 128 })
        else ({ s with flt.syncs := s.flt.syncs ++ [{ mask := (live.map (fun c => 2 ^ c)).foldl (· + ·) 0,
                                                      at_ := whenNamed (q.u64 16) s, late := late, cid := cid }] },
              ans .pending)) q s)

/-- FLT_BANK_READ (R178). -/
def execFltBankRead (q : Req) (s : State) : Out :=
  .next (report { code := 0x0983, owner := false, report := true, len := lenIs 8, halls := fltHalls,
                  fields := fun q s =>
                    let k := chainOf s (q.u8 0)
                    let img := (if q.u8 1 = 0 then k.bankA else k.bankB).image
                    trimChain (q.u8 0) && within 0 1 (q.u8 1) && within 1 240 (q.u16 4) && zeros q 6 2
                      && decide (q.u16 2 + q.u16 4 ≤ img.length) }
    (fun q s =>
      let k := chainOf s (q.u8 0)
      q.payload.take 8 ++ sliceBytes (if q.u8 1 = 0 then k.bankA else k.bankB).image (q.u16 2) (q.u16 4)) q s)

/-- FILTER_SETTLED (R167): sample D' + S' raises SETTLED and E199. -/
def execFilterSettled (c : Fin 98) (s : State) : Out := .next (settleDue c.val s)

/-- BANK_SWAP_TAKE_EFFECT (R181): the swap sample of a waiting swap. -/
def execBankSwapTakeEffect (c : Fin 98) (s : State) : Out := .next (swapDue c.val s)

/-- BANK_SWAP_DONE (R181, R182): a fade or a reversal reaches its bank. -/
def execBankSwapDone (c : Fin 98) (s : State) : Out := .next (fadeDue c.val s)

/-- DELAY_FADE_END (R171): the 64-sample fade ends, and a held request is carried out. -/
def execDelayFadeEnd (c : Fin 98) (s : State) : Out := .next (delayDue c.val s)

/-- CHAIN_SYNC_DUE (R166): a named running chain is reset at its first output instant at or after WHEN. -/
def execChainSyncDue (c : Fin 98) (s : State) : Out := .next (syncDue c.val s)

end Sys2Proof.Machine
end

