-- ==== Sys2Proof/Machine/Yarrow.lean ====
section
/-! DEFINITION. Yarrow and Tansy as functions of one frame (R319 to R321, R325, R326): the thermal model and the gains of a
SPEAKER_MODEL port, the budget and the shared gain of a SUPPLY_LIMIT node. -/

namespace Sys2Proof.Machine

open Sys2Proof

/-! ### Yarrow (R319 to R321) -/

/-- A gain between a floor and 1. -/
def gainIn (lo g : Rat) : Rat := max lo (min 1 g)

/-- t_amb of a port in °C: the AMB_HK reading averaged over the frame, or T_AMB where it is not used (R319). -/
def ambient (s : State) (e : Driver) : Rat :=
  if e.ambHk = 0xFF ∨ (faultOf s 4 e.ambHk).st = FaultState.retired then (e.tAmb : Rat) / 10
  else if e.ambHk = 16 ∨ e.ambHk = 17 then frameMean s e.ambHk / 10
  else Config.ambient e.ambHk (frameMean s e.ambHk)

/-- re of a coil at a temperature, in Ω. -/
def coilRe (e : Driver) (t : Rat) : Rat := (e.re : Rat) / 1000 * (1 + (e.alpha : Rat) / 1000000 * (t - 25))

/-- The thermal model of one port over one frame (R319). -/
def thermalStep (s : State) (e : Driver) (n : Nat) (p : PortProt) : PortProt :=
  let amb := ambient s e
  let vc := (if p.modelled then p.tAmb else amb) + p.dM + p.dVc
  let w := meanI2 s n * coilRe e vc
  let f : Rat := (frameSize s : Rat) / (fhHz s : Rat)
  { p with
    tAmb := amb
    dVc := p.dVc + (w * ((e.rthVc : Rat) / 100) - p.dVc) * f / ((e.tauVc : Rat) / 100)
    dM := p.dM + (w * ((e.rthM : Rat) / 100) - p.dM) * f / (e.tauM : Rat)
    modelled := true }

/-- t_vc of a port. -/
def coilTemp (p : PortProt) : Rat := p.tAmb + p.dM + p.dVc

/-- Length of a frame in seconds. -/
def frameSec (s : State) : Rat := (frameSize s : Rat) / (fhHz s : Rat)

/-- A gain that recovers exponentially towards 1 with a time constant in ms, over one frame (R320, R326). -/
def recovered (s : State) (ms : Nat) (g : Rat) : Rat := 1 - (1 - g) * expDecay (frameSec s) ((ms : Rat) / 1000)

/-- g_t after one frame (R319): towards min(1, √(p_allow / p_ahead)) while the coil is hot and towards 1 below, no faster
than 20 dB/s down and 2 dB/s up, never below −40 dB. Where p_allow is zero or less the goal is −40 dB. How fast it goes
within its bounds is open, but for the rise below the threshold; `k` numbers the choice. -/
def thermalGain (s : State) (e : Driver) (p : PortProt) (ahead : Rat) (k : Nat) : Rat :=
  let up := min 1 (p.gt * dbGain (2 * frameSec s))
  if coilTemp p < ((e.tMax : Rat) - (e.tMargin : Rat)) / 10 then up
  else
    let allow := ((e.tMax : Rat) / 10 - p.tAmb - p.dM) / ((e.rthVc : Rat) / 100)
    let goal := if allow ≤ 0 then 1 / 100 else if ahead ≤ allow then 1 else gainIn (1 / 100) (rootOf (allow / ahead))
    let low := max (1 / 100) (p.gt * dbGain (-20 * frameSec s))
    if goal ≤ p.gt then max (max goal low) (min p.gt (Config.thermalGain k))
    else min (min goal up) (max p.gt (Config.thermalGain k))

/-- g_x after one frame (R320): X_MAX / peak, the peak of |x| in mm over the lookahead, at once where it is lower, else as far as the recovery. -/
def excursionGain (s : State) (e : Driver) (p : PortProt) (peak : Rat) : Rat :=
  let lim : Rat := (e.xMax : Rat) / 100
  let goal : Rat := if peak ≤ lim then 1 else fpNear (lim / peak)
  if goal ≤ p.gx then goal else gainIn 0 (min goal (recovered s e.release p.gx))

/-- One SPEAKER_MODEL port over a frame (R319 to R321): its currents in A and excursions in mm at unity gain over the lookahead,
newest first, of which the last `f` leave in this frame. p_ahead is the mean coil power of those currents; EXC is that of the
samples that leave, as limited; whether it is rounded up is open. -/
def portFrame (s : State) (n f : Nat) (amps mm : List Rat) : PortFrame :=
  match modelEntry s n with
  | none => { gt := 1, gx := 1, exc := 0 }
  | some e =>
    let p := if e.thermal then thermalStep s e n (protOf s n) else protOf s n
    let ahead := (amps.map (fun i => i * i)).foldl (· + ·) 0 / (max 1 amps.length : Nat) * coilRe e (coilTemp p)
    let peak := (mm.map absRat).foldl max 0
    let gt := if e.thermal then thermalGain s e p ahead (24 * s.time.now + n) else 1
    let gx := if e.excursion then excursionGain s e p peak else 1
    let leaves := ((mm.drop (mm.length - f)).map absRat).foldl max 0
    { gt := gt, gx := gx
      exc := if e.excursion then min 255 (roundRat (leaves * min gt gx * 10000 / (e.xMax : Rat))).toNat else 0 }

/-! ### Tansy (R325 to R327) -/

/-- curve(V): I_MAX between the points; the first and the last hold beyond them. -/
def supplyCurve : List (Nat × Nat) → Rat → Rat
  | [], _ => 0
  | [a], _ => (a.2 : Nat)
  | a :: b :: l, v =>
    if v ≤ (a.1 : Rat) then (a.2 : Nat)
    else if v ≤ (b.1 : Rat) then
      (a.2 : Rat) + ((b.2 : Rat) - (a.2 : Rat)) * (v - (a.1 : Rat)) / ((b.1 : Rat) - (a.1 : Rat))
    else supplyCurve (b :: l) v

/-- Σ I_Q over the groups that are ON and have a port on the supply. -/
def quiescent (s : State) (t : SupplyTable) : Nat :=
  t.iQ * ((List.range 6).filter (fun g => (grpOf s g).st == .on && decide (t.mask &&& (15 * 2 ^ (4 * g)) ≠ 0))).length

/-- I_PEAK of the driver entry that names a port, in ascending table ID (R326). -/
def peakOf (s : State) (n : Nat) : Option Nat :=
  let ids := (s.prot.drivers.map (fun d => d.1)).mergeSort (fun a b => decide (a ≤ b))
  ids.findSome? (fun id => (s.prot.drivers.find? (fun d => d.1 == id)).bind (fun d =>
    (d.2.find? (fun e => e.port == n)).map (fun e => e.iPeak)))

/-- What a port without a prediction counts, in mA: I_PEAK of the entry its SPEAKER_MODEL port uses, else of the entry that
names it, else its current-limit threshold (R28, R326, Table 1.4). -/
def peakCount (s : State) (n : Nat) : Rat :=
  match modelEntry s n, peakOf s n with
  | some e, _ => (e.iPeak : Nat)
  | none, some i => (i : Nat)
  | none, none => (drvIlim s n : Rat) / 2 * (drvIsnScale s n : Rat)

/-- A port is enabled: it is starting, running or shutting down. -/
def drvEnabled (s : State) (n : Nat) : Bool :=
  let p := drvOf s n
  p.st != .stopped && p.st != .retired && p.st != .safeStop

/-- Yarrow has no prediction for an enabled port while one of its sense chains is not SETTLED (Table 1.4; DEDUCED, log entry
"Tansy without a prediction"). -/
def predicts (s : State) (n : Nat) : Bool :=
  (modelOf s n).isSome && (!drvEnabled s n || ((chainOf s (26 + n)).settled && (chainOf s (50 + n)).settled))

/-- What an input counts beside the predictions, in mA (R326). -/
def constantOf (s : State) (n : Nat) : Rat := if predicts s n then 0 else peakCount s n

/-- Supply current of a running port in mA at the supply's mean voltage in mV (R325): the mean over the frame's fast values
with COARSE_VALID; where there is none it counts as an input without a prediction (R172). -/
def portCurrent (s : State) (t : SupplyTable) (vs : Rat) (n : Nat) : Rat :=
  let l := (drvOf s n).load_
  if l.fast = 0 then peakCount s n
  else l.sumVi / (l.fast : Rat) * 1000000000 / ((t.eta : Nat) * vs)

/-- The budget and the shared gain of one frame, for the greatest moving mean of the predicted currents over the lookahead, in
mA. -/
def tansyFigures (s : State) (x : Supply) (inputs : List Nat) (most : Rat) : SupplyFrame :=
  let t := x.table
  let dead := supplyDead s t
  let iq : Rat := (quiescent s t : Nat)
  let vs := frameMean s t.hk
  let sum (l : List Nat) : Rat := (l.map (portCurrent s t vs)).foldl (· + ·) 0
  let running := supplyRunning s t
  let meas := if dead then x.meas else iq + sum running
  let voc : Rat := if dead then ((((t.points.head?).map (fun p => p.1)).getD 0 : Nat) : Rat) else vs + meas * (t.rSrc : Rat) / 1000
  let cur := supplyCurve t.points voc
  let budget := if t.rSrc = 0 then cur else min cur ((voc - (t.vFloor : Rat)) * 1000 / (t.rSrc : Rat))
  let fixed := iq + (inputs.map (constantOf s)).foldl (· + ·) 0 + (if dead then 0 else sum (running.filter (fun n => !inputs.contains n)))
  let peak := fixed + max 0 most
  let short := decide (budget < peak ∧ budget ≤ fixed)
  let want : Rat := if peak ≤ budget then 1 else if budget ≤ fixed then 1 / 100
    else max (1 / 100) ((budget - fixed) / (peak - fixed))
  let back := recovered s t.release (rootOf x.gs2)
  let gs2 := if want ≤ x.gs2 then want else max x.gs2 (min want (back * back))
  { vs := if dead then x.vs else vs, voc := voc, budget := budget, meas := meas, peak := peak, gs2 := gs2, short := short }

/-- Supply current that a port's input sample draws, in mA (R326): its volts at full scale FS_V times the predicted load
current, at the efficiency and the mean voltage of the supply; while its input carries no measurement the last one (DESIGN CHOICE, log entry "Tansy
without a prediction"). -/
def inputDraw (s : State) (x : Supply) (n : Nat) (sample amps : Rat) : Rat :=
  let vs := if supplyDead s x.table then x.vs else frameMean s x.table.hk
  max 0 (sample * ((drvFsV s n : Nat) : Rat) / 100 * amps) * 1000000000 / ((x.table.eta : Nat) * vs)

/-- The greatest moving mean over 8 samples among the `n` newest places of a line. -/
def meanPeak (n : Nat) (line : List Rat) : Rat :=
  ((List.range n).map (fun k => ((line.drop k).take 8).foldl (· + ·) 0 / 8)).foldl max 0

end Sys2Proof.Machine
end

