-- ==== Sys2Proof/Machine/GraphPath.lean ====
section
/-! DEFINITION. The frames of the graph (R242 to R250): gathered from the graph inputs, processed node by node, presented at
the graph outputs. What the spec gives of a node is computed: gains, mixes and delays, the curve of a DYNAMICS node, the gains
of SPEAKER_MODEL and SUPPLY_LIMIT, levels, latencies, the binary32 values and the bits of every frame. What it names without
arithmetic (filters, detectors, models) is open (Config). -/

namespace Sys2Proof.Machine

open Sys2Proof

/-! ### Numbers (R243) -/

/-- A fade's factor on a sample. -/
def scaleBy (f : Rat) (v : Int) : Int := roundRat (f * v)

/-- SINK: rounded to 32 bits, of two neighbours to the even one (R238), saturated at ±1.0. -/
def sinkWord (x : Rat) : Int := (satFull (nearestEven (x * 2 ^ 31))).1

/-- SOURCE: exact. -/
def sourceWord (v : Int) : Rat := (v : Rat) / 2 ^ 31

/-! ### Nodes (Table 10.5) -/

/-- Latency of output port `p` of a node in samples at Fh. -/
def nodeLatency (fh f : Nat) (n : GNode) (p : Nat) : Nat :=
  match n.type with
  | 5 => n.u16 2 - f
  | 7 => n.u32 (4 + 4 * p)
  | 8 => n.u16 2
  | 11 => 64
  | 14 => (n.u8 2 - 1) / 2
  | 15 => 64
  | 16 => (2 * fh + 500) / 1000
  | 17 => (fh + 500) / 1000
  | _ => 0

/-- Frames a node processes, this one among them, before its output is SETTLED (R243). -/
def settleFrames (fh f : Nat) (n : GNode) (p : Nat) : Nat := cdiv (nodeLatency fh f n p) f + 1

/-- When the tone of a TONE_GEN began, as its frame is processed: at START, or at the first frame boundary for START 0
(Table 10.7). A write to its block begins it again (DESIGN CHOICE, log entry "Graph values"). -/
def toneBegin (s : State) (n : GNode) (r : NodeRun) : Option Nat :=
  if n.u8 1 = 0 then none
  else match r.toneAt with
    | some t => some t
    | none =>
      let start := leAt n.param 16 8
      if start = 0 then some s.time.now else if start ≤ devTime s then some (atDev s start) else none

/-- The generator runs: it began, and a sweep has not ended. -/
def toneRuns (s : State) (n : GNode) (r : NodeRun) : Bool :=
  match toneBegin s n r with
  | some t => n.u8 1 != 2 || decide (s.time.now < t + msTu (n.u32 12))
  | none => false

/-- Sample `p` of a frame taken from the edge into port `p` of node `n`: a DELAYED edge gives the frame before (R251),
zeros before the first. -/
def edgeIn (im : Image) (old new : List NodeRun) (n p : Nat) : EdgeFrame :=
  match (edgesTo im n).find? (fun e => e.toPort == p) with
  | some e =>
    let runs := if e.delayed then old else new
    let f := (runs.getD e.fromNode {}).outs.getD e.fromPort {}
    if f.vals.isEmpty then { f with vals := List.replicate im.frameSize 0 } else f
  | none => { vals := List.replicate im.frameSize 0 }

/-- Channel `i` of a SOURCE: its graph input over the frame; a frame with a sample not VALID enters as zero (R243,
R250). -/
def sourceFrame (s : State) (f : Nat) (n : GNode) (i : Nat) : EdgeFrame :=
  let l := (List.range f).map (fun j => (s.gra.gather.getD j []).getD (n.u8 (4 + i)) {})
  let ok := l.all (fun a => a.valid)
  { vals := l.map (fun a => if ok then sourceWord a.v else 0), valid := ok, settled := l.all (fun a => a.settled) }

/-- What a node draws on beside its inputs, its block and its state: for a generator and the sense of a drive port it is open
and taken by the time. -/
def nodeOpen (s : State) (n : GNode) : Nat := if [13, 16].contains n.type then s.time.now else 0

/-- The value a ramp has reached `j` samples further on. -/
def Ramp.at (r : Ramp) (j : Nat) : Rat :=
  if r.n ≤ r.k + j then r.to_ else r.from_ + (r.to_ - r.from_) * ((r.k + j : Nat) : Rat) / (r.n : Rat)

/-- The ramp of a gain whose target is `g` (R257): a new target starts one of `n` samples from the present value; a node whose
state was reset starts at its target. -/
def gainRamp (old : Option Ramp) (g : Rat) (n : Nat) : Ramp :=
  match old with
  | some r => if r.to_ = g then r else { from_ := r.at 0, to_ := g, n := n, k := 0 }
  | none => { from_ := g, to_ := g, n := 0, k := 0 }

/-- The cross-fade of a delay whose target is `d` (R257). A delay written within one waits for its end (DESIGN CHOICE, log
entry "Graph values"). -/
def delayFader (old : Option Ramp) (d : Rat) (n : Nat) : Ramp :=
  match old with
  | some r => if r.to_ = d ∨ r.k < r.n then r else { from_ := r.to_, to_ := d, n := n, k := 0 }
  | none => { from_ := d, to_ := d, n := 0, k := 0 }

/-- `f` samples further on. -/
def Ramp.after (r : Ramp) (f : Nat) : Ramp := { r with k := min r.n (r.k + f) }

/-- A line, newest first, with a frame more, kept to `k` samples. -/
def tapPut (line : List Rat) (vals : List Rat) (k : Nat) : List Rat := (vals.reverse ++ line).take k

/-- Sample `j` of a frame of `f` samples put last into a line, `d` samples back. -/
def tapAt (line : List Rat) (f d j : Nat) : Rat := line.getD (f - 1 - j + d) 0

/-- A gain of an image's block as a factor: the binary32 value nearest to it (R199; DEDUCED, log entry "Graph values"). -/
def gainFactor (g : Int) : Rat := if g = mute then 0 else gain32 (g : Rat)

/-- GAIN and MIX (R248): output `o` is the sum of its inputs times their gains, by fused multiply-adds in ascending input
(DESIGN CHOICE, log entry "Graph values"). -/
def mixRow (ramps : List Ramp) (ins : List EdgeFrame) (j : Nat) (terms : List (Nat × Nat)) : Option Rat :=
  terms.foldl (fun acc x => acc.bind (fun a =>
    fp32 (a + (ins.getD x.1 {}).vals.getD j 0 * (ramps.getD x.2 { from_ := 0, to_ := 0, n := 0, k := 0 }).at j))) (some 0)

/-- Terms of output `o`: input and place of its gain in the block. -/
def mixTerms (n : GNode) (o : Nat) : List (Nat × Nat) :=
  if n.type = 3 then (List.range (n.u8 0)).map (fun i => (i, o * n.u8 0 + i)) else [(o, o)]

/-- Sample `j` of a DELAY's channel: the delay in force, or the fade between two. -/
def delayed (line : List Rat) (f : Nat) (r : Ramp) (j : Nat) : Rat :=
  let a := tapAt line f r.from_.num.toNat j
  let b := tapAt line f r.to_.num.toNat j
  if r.n ≤ r.k + j then b else fpNear (a + (b - a) * ((r.k + j : Nat) : Rat) / (r.n : Rat))

/-- Gain of a DYNAMICS node for a detected level: what the curve installed makes of it (R317, R248). -/
def curveGain (s : State) (n : GNode) (level : Rat) : Rat :=
  match curveOf s (n.u16 4) with
  | some pts => gain32 (curveAt pts level - level)
  | none => 1

/-- The prediction a SPEAKER_MODEL published for a drive port and sample `j` of its output frame (R249). -/
def predOf (im : Image) (runs : List NodeRun) (port j : Nat) : Rat :=
  ((im.indexed.filter (fun x => x.2.type == 16)).findSome? (fun x =>
    ((List.range x.2.nin).find? (fun p => x.2.u8 (4 + 4 * p) == port)).map (fun p =>
      ((runs.getD x.1 {}).pred.getD p []).getD j 0))).getD 0

/-- What a METER finds of a frame: the greatest square, or the mean square. -/
def frameLevel (rms : Bool) (vals : List Rat) : Rat :=
  let l := vals.map (fun v => v * v)
  if rms then l.foldl (· + ·) 0 / (max 1 l.length : Nat) else l.foldl max 0

/-- The samples a node computes by output port, none where not finite, and its state with them. -/
def nodeValues (s : State) (im : Image) (new : List NodeRun) (n : GNode) (r : NodeRun) (ins : List EdgeFrame) :
    List (List (Option Rat)) × NodeRun :=
  let f := im.frameSize
  let fh := fhHz s
  let y := Config.nodeRun n.type fh n.param r.mem (ins.map (fun x => (x.vals, x.valid))) (nodeOpen s n)
  let r := { r with mem := (List.range n.stateLen).map (fun k => y.2.getD k 0) }
  let got (p j : Nat) : Option Rat := ((y.1.getD p []).getD j (some 0)).bind fp32
  let rows (v : Nat → Nat → Option Rat) : List (List (Option Rat)) :=
    (List.range n.nout).map (fun p => (List.range f).map (v p))
  let lat := nodeLatency fh f n 0
  let line (k keep : Nat) (vals : List Rat) : List Rat := tapPut (r.lines.getD k []) vals keep
  let inputs := (List.range n.nin).map (fun p => line p (lat + f) (ins.getD p {}).vals)
  match n.type with
  | 2 | 3 =>
    let count := if n.type = 3 then n.u8 0 * n.u8 1 else n.u8 0
    let ramps := (List.range count).map (fun k => gainRamp (r.ramps[k]?) (gainFactor (n.i16 (4 + 2 * k))) (n.u16 2))
    (rows (fun p j => mixRow ramps ins j (mixTerms n p)), { r with ramps := ramps.map (fun x => x.after f) })
  | 7 =>
    let lines := (List.range n.nin).map (fun p => line p (262144 + f) (ins.getD p {}).vals)
    let fades := (List.range n.nin).map (fun p => delayFader (r.ramps[p]?) ((n.u32 (4 + 4 * p) : Nat) : Rat) (n.u16 2))
    (rows (fun p j => some (delayed (lines.getD p []) f (fades.getD p { from_ := 0, to_ := 0, n := 0, k := 0 }) j)),
     { r with lines := lines, ramps := fades.map (fun x => x.after f) })
  | 8 =>
    let level (p j : Nat) : Option Rat := (y.1.getD p []).getD j none
    let loudest (j : Nat) : Option Rat := (List.range n.nin).foldl (fun m p => match m, level p j with
      | some a, some b => some (max a b)
      | a, none => a
      | none, b => b) none
    (rows (fun p j => (if n.u8 6 = 1 then loudest j else level p j).bind (fun l =>
        fp32 (tapAt (inputs.getD p []) f lat j * curveGain s n l))), { r with lines := inputs })
  | 12 =>
    let keep := max 1 (cdiv (n.u16 2 * fh) (1000 * f))
    ([], { r with meter := (List.range n.nin).map (fun p =>
      (frameLevel (n.u8 1 == 1) (ins.getD p {}).vals :: r.meter.getD p []).take keep) })
  | 13 => (rows (fun p j => if toneRuns s n r then got p j else some 0), { r with toneAt := toneBegin s n r })
  | 16 =>
    let np := n.nin
    let model := (List.range (2 * np)).map (fun k => line (np + k) (lat + f) ((List.range f).map (fun j => (got k j).getD 0)))
    let port (p : Nat) : Nat := n.u8 (4 + 4 * p)
    let dead (p : Nat) : Bool := (faultOf s 0 (port p)).st == .retired
    let ports := (List.range np).map (fun p => portFrame s (port p) f (model.getD p []) (model.getD (np + p) []))
    let gy (p : Nat) : Rat := if dead p then 0 else let x := ports.getD p { gt := 1, gx := 1, exc := 0 }; min x.gt x.gx
    (rows (fun p j => if dead p then some 0 else fp32 (gy p * tapAt (inputs.getD p []) f lat j)),
     { r with lines := inputs ++ model, ports := ports
              pred := (List.range np).map (fun p => (List.range f).map (fun j =>
                fpNear (gy p * tapAt (model.getD p []) f lat j))) })
  | 17 =>
    let ports := limitPorts n
    match s.prot.supplies.find? (fun x => x.id == n.u16 2) with
    | none => (rows (fun p j => some (tapAt (inputs.getD p []) f lat j)), { r with lines := inputs })
    | some x =>
      let draw (j : Nat) : Rat := ((List.range n.nin).map (fun p =>
        let q := ports.getD p 0
        if predicts s q then inputDraw s x q ((ins.getD p {}).vals.getD j 0) (predOf im new q j) else 0)).foldl (· + ·) 0
      let sum := line n.nin (lat + f + 7) ((List.range f).map draw)
      let fig := tansyFigures s x ports (meanPeak (lat + f) sum)
      (rows (fun p j => fp32 (rootOf fig.gs2 * tapAt (inputs.getD p []) f lat j)),
       { r with lines := inputs ++ [sum], supply := some fig })
  | 5 | 11 | 15 =>
    let lines := (List.range n.nout).map (fun p => line p (lat + f) ((List.range f).map (fun j => (got p j).getD 0)))
    (rows (fun p j => if lat = 0 then got p j else some (tapAt (lines.getD p []) f lat j)), { r with lines := lines })
  | _ => (rows got, r)

/-- One node over one frame: its state and the frames on its output ports (R243, R250). A value that is not finite is replaced
with zero (R245). -/
def nodeStep (s : State) (im : Image) (old new : List NodeRun) (i : Nat) : NodeRun :=
  let n := nodeAt im i
  let r := old.getD i {}
  let f := im.frameSize
  let ins := (List.range n.nin).map (edgeIn im old new i)
  if n.type = 0 then { r with done := r.done + 1, outs := (List.range n.nout).map (sourceFrame s f n) }
  else
    let y := nodeValues s im new n r ins
    let tone := n.type == 13
    let valid := if tone then toneRuns s n r else ins.any (fun x => x.valid)
    let clean := if tone then toneRuns s n r
      else ins.all (fun x => !x.valid || x.settled)
    let k := s.gra.frameNo - 1
    let bad := (List.range n.nout).filter (fun p => (y.1.getD p []).any (fun v => v.isNone))
    { y.2 with
      done := r.done + 1
      bad := bad.map (fun p => (k, p)) ++ r.bad.filter (fun b => decide (k < b.1 + 4))
      outs := (List.range n.nout).map (fun p =>
        { vals := (y.1.getD p []).map (fun v => v.getD 0), valid := valid
          settled := clean && (tone || decide (settleFrames (fhHz s) f n p ≤ r.done + 1)) }) }

/-- The nodes in an order in which every edge but a DELAYED one comes from an earlier node. -/
def nodeOrder (im : Image) : Nat → List Nat → List Nat
  | 0, left => left
  | k + 1, left =>
    let rest := left.filter (fun n => (edgesTo im n).any (fun e => !e.delayed && left.contains e.fromNode))
    if rest.isEmpty then left else left.filter (fun n => !rest.contains n) ++ nodeOrder im k rest

/-- The nodes whose state is reset at this boundary (R245). -/
def resetNodes (s : State) (im : Image) : List NodeRun :=
  (List.range im.nodes.length).map (fun i =>
    let r := s.gra.nodes.getD i {}
    if s.gra.resets.contains i then
      { mem := List.replicate (nodeAt im i).stateLen 0, outs := r.outs, toneAt := r.toneAt, bad := r.bad }
    else r)

/-- Every node over the gathered frame. -/
def nodesRun (s : State) (im : Image) : List NodeRun :=
  let old := resetNodes s im
  (nodeOrder im im.nodes.length (List.range im.nodes.length)).foldl
    (fun new i => new.set i (nodeStep s im old new i)) old

/-- The SINK nodes' frames as they go to the graph outputs (R243). -/
def sinkFrames (im : Image) (runs : List NodeRun) : List SinkFrame :=
  (im.indexed.filter (fun x => x.2.type == 1)).flatMap (fun x =>
    (List.range x.2.nin).map (fun p =>
      let f := edgeIn im runs runs x.1 p
      { node := x.1, output := x.2.u8 (4 + p)
        smps := f.vals.map (fun v => { v := sinkWord v, valid := f.valid, settled := f.settled }) }))

/-! ### Presentation (R242, R244, R246) -/

/-- Samples over which the outputs rise from zero. -/
def riseLength (s : State) : Nat := fhHz s / 100

/-- A frame of one channel as it is heard: a late one repeats the last sample, faded to zero; the first complete one after
it is faded in; the first samples after a start rise; the last frame of a stopped graph falls. -/
def heard (s : State) (f : Nat) (late after last : Bool) (x : SinkFrame) : Nat × List Smp :=
  let down (j : Nat) : Rat := ((f - 1 - j : Nat) : Rat) / f
  (x.output, (List.range f).map (fun j =>
    if late then { v := scaleBy (down j) (vget s.fab.src (136 + x.output)).v, valid := true }
    else
      let a := x.smps.getD j {}
      let rise : Rat := min 1 (((s.gra.rise + j : Nat) : Rat) / (riseLength s : Nat))
      { a with v := scaleBy (rise * (if after then (j : Rat) / f else 1) * (if last then down j else 1)) a.v }))

/-- The frame that has been processed starts its presentation at every graph output it has. -/
def present (f : Nat) (late : List Nat) (last : Bool) (frames : List SinkFrame) (s : State) : State :=
  let rows := frames.map (fun x => heard s f (late.contains x.node) (s.gra.lateSinks.contains x.node) last x)
  { s with
    gra.play := rows ++ s.gra.play.filter (fun x => !rows.any (fun y => y.1 == x.1))
    gra.rise := s.gra.rise + f, gra.lateSinks := late }

/-- At boundary `n` frame n − 2 is presented: E209 for each SINK whose frame is late (R244). The last frame before a
switch over shared banks falls to zero (Table 10.8 step 4b). -/
def framePresent (s : State) : State :=
  match s.gra.image with
  | some im =>
    let k := s.gra.frameNo - 2
    if 2 ≤ s.gra.frameNo ∧ frameRuns s k then
      let late := sinksLate s im s.gra.gen k s.gra.runFrom
      { present im.frameSize late (s.gra.pause.testBit causeSwitch) s.gra.ready (lateTell late s) with gra.ready := [] }
    else { s with gra.ready := [] }
  | none => s

/-- At boundary `n` the frame gathered, n − 1, is processed. Its results are those that will be heard from boundary n + 1
on (R242). -/
def frameProcess (s : State) : State :=
  match s.gra.image with
  | some im =>
    let s' := { s with gra.gather := [], gra.resets := [], gra.nodes := resetNodes s im }
    if 1 ≤ s.gra.frameNo ∧ frameRuns s (s.gra.frameNo - 1) then
      let runs := nodesRun s im
      { s' with gra.nodes := runs, gra.ready := sinkFrames im runs }
    else s'
  | none => s

/-- The frames' step at a boundary. -/
def frameStep (s : State) : State := frameProcess (framePresent s)

/-- The last frame of the image before is presented at its tick, falling to zero (Table 10.8 step 4a). -/
def oldFramePresent (s : State) : State :=
  match s.gra.oldCheck with
  | some (tick, k) =>
    if tick ≤ sampleNo s then
      let late := match s.gra.oldImage with | some im => sinksLate s im (s.gra.gen - 1) k k | none => []
      let f := (s.gra.oldReady.map (fun x => x.smps.length)).foldl max 0
      let rise := s.gra.rise
      let t := present f late true s.gra.oldReady (lateTell late { s with gra.rise := riseLength s })
      { t with gra.oldCheck := none, gra.oldReady := [], gra.rise := rise, gra.lateSinks := [] }
    else s
  | none => s

/-- A row of graph inputs is gathered at a tick of the fabric. -/
def gatherRow (s : State) : State :=
  if s.gra.image.isSome then
    { s with gra.gather := s.gra.gather ++ [(List.range 32).map (fun i => vget s.fab.snk (96 + i))] }
  else s

end Sys2Proof.Machine
end

