-- ==== Sys2Proof/Machine/HkRows.lean ====
section
/-! DEFINITION. Meanings of the housekeeping rows (chapter 15). -/

namespace Sys2Proof.Machine

open Sys2Proof

/-- The converter takes triggers: HALL_ANA runs and it is not gated (R375). -/
def hkLive (s : State) : Bool :=
  !s.hk.gated && (hallOf s hANA).powered && !(hallOf s hANA).gated && s.pwr.asleep.isNone

/-- Carrier periods of a group begun since the aligned base tick, at internal time `t` (R287). -/
def grpCarrierAt (s : State) (g t : Nat) : Nat := ticksIn s (carrierNow s g) (t - s.time.tickBase)

/-- The start of every `n`-th carrier period of a group (R364), counted from the aligned base tick (DESIGN CHOICE, log
entry "Carrier triggers"). -/
def grpCarrierEdge (s : State) (g n : Nat) : Bool :=
  asynRuns s && grpCarrierAt s g s.time.now % n == 0
    && (s.time.now == s.time.tickBase || grpCarrierAt s g s.time.now != grpCarrierAt s g (s.time.now - 1))

/-- A trigger source can give a trigger now (R364): the timer at its multiples, the scheduler at its boundary or tick, the
carrier at the start of every (CAR_DIV + 1)th period; a GPIO edge of the way EDGE selects has left its level. -/
def hkSource (s : State) (trig sel edge carDiv : Nat) : Bool :=
  match trig with
  | 0 => devTime s % hkTimer s == 0
  | 1 => grpCarrierEdge s sel (carDiv + 1)
  | 2 => edge == 3 || s.ev.gpioIn.getLsbD sel == (edge == 1)
  | 4 =>
    if sel = 0 then s.gra.lastBoundary == some s.time.now
    else
      let k := listTick s sel
      if k = 0 then sampleNo s != sampleNo { s with time.now := s.time.now - 1 } else devTime s % k == 0
  | _ => false

/-- The source of the sequence's trigger, and of a slot's (Tables 15.3, 15.4). -/
def seqSource (s : State) : Bool :=
  let p (a n : Nat) : Nat := Page.get s.hk.page1300 a n
  hkSource s (hkTrig s) (p 8 8) (p 16 2) (p 0 8)
def slotSource (s : State) (k : Nat) : Bool :=
  let p (a n : Nat) : Nat := Page.get s.hk.page1301 (32 * k + a) n
  hkSource s (slotTrig s k) (p 16 8) (p 24 2) (p 8 8)

/-- HK_SEQ_TRIGGER (R362, R364, R365): a hardware trigger of the regular sequence. -/
def execHkSeqTrigger (s : State) : Out :=
  .next (
    if !hallRuns s hANA then s else
    if !hkLive s || !hkEn s || !seqSource s then s
    else if !hkSettled s then hkRefuse s
    else (seqTrigger s).1)

/-- HK_INJ_TRIGGER (R362, R367, R368): a hardware trigger of a slot; slot 3 is Tansy's while a SUPPLY_LIMIT node runs, and
its triggers stand at the base ticks. -/
def execHkInjTrigger (slot : Fin 4) (s : State) : Out :=
  .next (
    if !hallRuns s hANA then s else
    let k := slot.val
    let tansy := k == 3 && (tansySlot s).isSome
    let may := if tansy then onTick s (baseHz s) else slotEn s k && slotTrig s k != 3 && slotSource s k
    if !hkLive s || !may then s
    else if !hkSettled s then hkRefuse s
    else (slotTrigger k s).1)

/-- What follows a delivered result: the thermal policy of channels 16 and 17 (R382). -/
def hkDeliver (c code stamp : Nat) (s : State) : State :=
  let s := hkResult c code stamp s
  if (c = 16 ∨ c = 17) ∧ hkDelivers s c then thermStep s else s

/-- CAL_OFFSET and CAL_GAIN of the reference in force: calibrated, or OTP's (R369). -/
def hkCal (s : State) : Int × Int := (vget s.hk.cals (hkRef s)).getD (Config.hkOtp (hkRef s))

/-- The calibrated code of a conversion (R369). -/
def hkCode12 (raw : Fin 4096) (s : State) : Nat := (Config.hkCorrect raw.val (hkCal s)).val

/-- HK_CONVERSION_END (R363, R364, R366, R367): the converter gives its raw code, and the calibrated result is stamped
with the tu at which its acquisition ended. -/
def execHkConversionEnd (raw : Fin 4096) (s : State) : Out :=
  .next (
    if !hallRuns s hANA then s else
    let code := hkCode12 raw s
    match s.hk.run with
    | some (.regular e) =>
      if !closed s.hk.due s then s
      else
        let c := hkEntryCh s e
        let stamp := s.hk.began + acqTu (hkEntryAcq s e) - s.time.start
        let s := hkDeliver c code stamp { s with hk.run := none }
        let s :=
          if !s.hk.pass then s
          else
            let s := { s with hk.done := s.hk.done + 1, hk.entry := e + 1 }
            if hkLen s ≤ e + 1 ∨ !seqStays s then passEnd s else s
        hkNext (slotsTake s)
    | some (.injected k) =>
      if !closed s.hk.due s then s
      else
        let c := slotCh s k
        let quiet := k == 3 && (tansySlot s).isSome
        let stamp := s.hk.began + acqTu (slotAcq s k) - s.time.start
        let s := hkDeliver c code stamp { s with hk.run := none }
        let s := if quiet || !hkDelivers s c then s else raise (121 + k) code s
        hkNext (slotsTake s)
    | _ => s)

/-- HK_CAL_DONE (R369): the calibration of the selected reference ends with the offset and gain it found. -/
def execHkCalDone (offset gain : Int) (s : State) : Out :=
  .next (
    if !hallRuns s hANA then s else
    match s.hk.run with
    | some (.calibrating _) =>
      let cid := s.hk.calCid
      let s := { s with hk.run := none, hk.calCid := none, hk.calDeferred := false
                        hk.cals := vset s.hk.cals (hkRef s) (some (offset, gain)) }
      hkNext (completeP cid .ok 0 (i2 offset ++ i2 gain) (raise 127 0 s))
    | _ => s)

/-- HK_REF_SETTLED (R361): the internal reference 40 µs after HALL_ANA powers up; the selected one after its settling
time, HK_REF only where the test conversion finds `mv` within 2 % of HK_REF_MV. -/
def execHkRefSettled (mv : Nat) (s : State) : Out :=
  .next (
    if !(hallOf s hANA).powered || s.pwr.asleep.isSome then s
    else if !vget s.hk.settled 0 && closed (s.hk.anaSince + usTu 40) s then
      let s := { s with hk.settled := vset s.hk.settled 0 true }
      if hkRef s = 0 then hkNext (raise 126 0 s) else s
    else if !vget s.hk.settled 0 && hkRef s != 2 then s
    else
      let r := hkRef s
      if r = 0 ∨ vget s.hk.settled r ∨ s.hk.refBad then s
      else if closed (s.hk.refSince + (if r = 1 then usTu (100 * hkSettle s) else usTu 2)) s then
        if r = 1 ∧ ¬ (98 * hkRefMv s ≤ 100 * mv ∧ 100 * mv ≤ 102 * hkRefMv s) then { s with hk.refBad := true }
        else hkNext (raise 126 r { s with hk.settled := vset s.hk.settled r true })
      else s)

/-- STATE of HK_STATUS_GET. -/
def hkCode (s : State) : Nat :=
  if s.hk.gated || hallShut 0x20 s then 4
  else match s.hk.run with
    | some (.calibrating _) => 3
    | some (.injected _) => 2
    | some (.regular _) => 1
    | none => b2n s.hk.pass

/-- ENTRY of HK_STATUS_GET: the entry that has not yet begun. -/
def hkNextEntry (s : State) : Nat :=
  match s.hk.run with
  | some (.regular e) => if hkLen s ≤ e + 1 then 0 else e + 1
  | _ => s.hk.entry

/-- HK_STATUS_GET (R362, R365, R367): OVERRUN, REFUSED and INJ_OVR are cleared by the read. -/
def execHkStatusGet (q : Req) (s : State) : Out :=
  .next (serve { code := 0x1300, owner := false, report := true, len := lenIs 0 }
    (fun _ _ s =>
      let h := s.hk
      let flags := maskOf (h.settled.toList ++ [h.refBad, h.trig, (tansySlot s).isSome, h.calDeferred])
      ({ s with hk.overrun := 0, hk.refused := 0, hk.injOvr := Vector.replicate 4 0 },
       ans .ok (b1 (hkCode s) ++ b1 flags ++ b1 (hkNextEntry s) ++ rz 1 ++ b2 h.overrun ++ b2 h.refused ++ b4 h.aborts
         ++ h.injOvr.toList.flatMap b1 ++ i2 (hkCal s).1 ++ i2 (hkCal s).2))) q s)

/-- One entry of HK_RESULT_READ. -/
def hkEntry (s : State) (c : Nat) : List Byte :=
  let h := hkCh s c
  let w := match h.win with | .inside => 0 | .above => 1 | .below => 2
  b2 (h.code + 4096 * w + 16384 * b2n (!hkDelivers s c) + 32768 * b2n h.new) ++ rz 2 ++ i4 h.value
    ++ b4 (h.stamp % 2 ^ 32)

/-- HK_RESULT_READ (R370): reading an entry clears NEW. -/
def execHkResultRead (q : Req) (s : State) : Out :=
  .next (serve { code := 0x1301, owner := false, report := true, len := lenIs 4,
                 fields := fun q _ => within 1 20 (q.u8 1) && decide (q.u8 0 ≤ 23 ∧ q.u8 0 + q.u8 1 ≤ 24) && zeros q 2 2 }
    (fun _ q s =>
      let cs := (List.range (q.u8 1)).map (fun i => q.u8 0 + i)
      (cs.foldl (fun s c => onHk c (fun h => { h with new := false }) s) s,
       ans .ok (q.payload.take 4 ++ rz 4 ++ cs.flatMap (hkEntry s)))) q s)

/-- HK_TRIGGER (R362, R364, R367): OUTCOME 0 started, 1 latched as pending, 2 counted as overrun. -/
def execHkTrigger (q : Req) (s : State) : Out :=
  .next (serve { code := 0x1302, owner := true, len := lenIs 4, halls := fun _ => 0x20,
                 fields := fun q _ => within 0 4 (q.u8 0) && zeros q 1 3 }
    (fun _ q s =>
      let t := q.u8 0
      let ok := if t = 0 then hkEn s && hkTrig s == 3
        else slotEn s (t - 1) && slotTrig s (t - 1) == 3 && !(t == 4 && (tansySlot s).isSome)
      if !ok then (s, ans .badParam)
      else if !hkSettled s || s.hk.gated then (s, ans .notReady)
      else
        let r := if t = 0 then seqTrigger s else slotTrigger (t - 1) s
        (r.1, ans .ok (b1 r.2 ++ rz 3))) q s)

/-- HK_CALIBRATE (R369): DEFERRED while an injected slot is pending or converting. -/
def execHkCalibrate (q : Req) (s : State) : Out :=
  .next (serve { code := 0x1303, owner := true, len := lenIs 0, halls := fun _ => 0x20 }
    (fun cid _ s =>
      let running := match s.hk.run with | some (.calibrating _) => true | _ => false
      let injected := s.hk.inj != 0 || (match s.hk.run with | some (.injected _) => true | _ => false)
      if running || s.hk.calWait.isSome || s.hk.calDeferred then (s, ans .busy)
      else if !hkSettled s || s.hk.gated then (s, ans .notReady)
      else if injected then ({ s with hk.calWait := some none, hk.calDeferred := true }, ans .deferred)
      else (hkNext { s with hk.calWait := some (some cid) }, ans .pending)) q s)

end Sys2Proof.Machine
end

