-- ==== Sys2Proof/Machine/MicRows.lean ====
section
/-! DEFINITION. Meanings of the microphone, Speedwell, history and stream rows (chapter 06). -/

namespace Sys2Proof.Machine

open Sys2Proof

/-- STATE of a channel (MIC_STATUS_GET). -/
def micCode (s : State) (m : Nat) : Nat :=
  match (micOf s m).st with
  | .off => 0
  | .starting => if s.mic.mute then 5 else 1
  | .running => 2
  | .retrying => 3
  | .retired => 4

/-- MIC_STATUS_GET (R140). -/
def execMicStatusGet (q : Req) (s : State) : Out :=
  .next (report { code := 0x0700, owner := false, report := true, len := lenIs 0 }
    (fun _ s => (List.range 16).flatMap (fun m => b1 (if m < 4 then micCode s m else shown 0x28 s (micCode s m))) ++ b1 s.mic.clk0
      ++ b1 (shown 0x28 s (clk1 s))
      ++ b1 (b2n s.mic.mute) ++ rz 1) q s)

/-- Channels of a mask start or stop, and EN of the page with them (MIC_ENABLE, R160). -/
def micEnable (mask : Nat) (on : Bool) (s : State) : State :=
  let en := if on then micEn s ||| mask else micEn s &&& (0xFFFF - mask)
  let was := micEn s
  let s := clk0Update { s with mic.page0700 := Page.put s.mic.page0700 16 16 en }
  micTakeIdle ((maskList mask 16).foldl (fun s m =>
    if on then (if maskBit was m && ((micOf s m).st == .starting || (micOf s m).st == .running) then s
                else micStart m s)
    else micStop m s) s)

/-- MIC_ENABLE (R144, R160). -/
def execMicEnable (q : Req) (s : State) : Out :=
  .next (serve { code := 0x0701, owner := true, len := lenIs 4,
                 halls := fun q => if q.u16 0 / 16 = 0 then 0 else 0x28,
                 fields := fun q _ => maskOk (q.u16 0) 16 && within 0 1 (q.u8 2) && zeros q 3 1 }
    (fun _ q s =>
      if (maskList (q.u16 0) 16).any (fun m => (micOf s m).st == .retired) then (s, ans .retired)
      else (micEnable (q.u16 0) (q.u8 2 == 1) s, ans .ok)) q s)

/-- The clock of a channel's group runs (Table 6.2). -/
def micClocked (s : State) (m : Nat) : Bool := if m < 4 then s.mic.clk0 != 0 else clk1 s != 0 && hallRuns s hANA

/-- MIC_STARTUP_END (R144): the channel leaves zero output and its chain starts. -/
def execMicStartupEnd (ch : Fin 16) (s : State) : Out :=
  .next (
    let c := micOf s ch.val
    if c.st = .starting ∧ closedO c.due s ∧ micClocked s ch.val then
      chainStart (4 + ch.val) (onMic ch.val (fun c => { c with st := .running, due := none }) s)
    else s)

/-- MIC_FAULT (R145): E096+m with 1 stuck, 2 no activity, 3 clipping; the fault goes to the supervisor. Asleep neither the
supervisor runs nor may E096+m be raised (R73). -/
def execMicFault (ch : Fin 16) (kind : Fin 3) (s : State) : Out :=
  .next (
    let c := micOf s ch.val
    if active s && micWatched s ch.val && c.st == .running && micClocked s ch.val then
      let s := superviseFault 1 ch.val (kind.val + 1) (raise (96 + ch.val) (kind.val + 1) s)
      if (micOf s ch.val).st = .retired ∧ sorPoint s = 4 + ch.val then sorrelAbort s else s
    else s)

/-- A channel's floor and above-threshold state after a frame (R146). -/
def floorStep (s : State) (f : Option Rat) (e : Rat) : Rat × Bool :=
  match f with
  | none => (e, false)
  | some f =>
    if e < f then (e, false)
    else if f + (swThresh s : Int) ≤ e then (f, true)
    else (f + (e - f) / (100 * (swTc s : Int)), false)

/-- DETECTION_FRAME_END (R146, R148): the last of the frame's 160 instants has been written; the frame's energies. -/
def execDetectionFrameEnd (e0 e1 e2 e3 : Rat) (_samples : Computed) (s : State) : Out :=
  .next (
    if !swRuns s || s.mic.clk0 == 0 || decide (s.mic.running.length < 160) then s
    else
      let es : List Rat := [e0, e1, e2, e3]
      let used := [0, 1, 2, 3].filter (fun c => maskBit (swMask s) c && (micOf s c).st != .retired)
      let res := [0, 1, 2, 3].map (fun c =>
        if used.contains c then
          let r := floorStep s (vget s.mic.floors c) (es.getD c 0)
          (some r.1, r.2, es.getD c 0)
        else (vget s.mic.floors c, false, vget s.mic.energies c))
      let aboveMask := maskOf (res.map (fun r => r.2.1))
      let count := (res.filter (fun r => r.2.1)).length
      let onset := if swMinCh s ≤ count then s.mic.onset + 1 else 0
      let frame : HistFrame := { index := s.mic.nextIndex, time := s.mic.frameStart + 1536 - s.time.start
                                 samples := s.mic.running.take 160 }
      let stamp := s.mic.frameStart + 245760
      let s := { s with
        mic.floors := Vector.ofFn (fun i => (res.getD i.val (none, false, 0)).1)
        mic.energies := Vector.ofFn (fun i => (res.getD i.val (none, false, 0)).2.2)
        mic.onset := onset
        mic.frames := (frame :: s.mic.frames).take 200
        mic.nextIndex := s.mic.nextIndex + 160
        mic.running := s.mic.running.drop 160
        mic.frameStart := stamp }
      let r := if swOnset s ≤ onset then detect (stamp - s.time.start) (s.mic.nextIndex - 1) aboveMask s else (s, false)
      let s := swTake swDetMask r.1
      if r.2 then wakeEvent 112 s else s)

/-- HANGOVER_END (R148): the last open window closes. -/
def execHangoverEnd (s : State) : Out :=
  .next (if s.mic.hangs.all (fun w => closed w.2 s) then { s with mic.hangover := false } else s)

/-- HISTORY_OPEN (R151, R153, R154, R156): HALL_CTRL runs and the stream is prepared. -/
def execHistoryOpen (s : State) : Out :=
  .next (
    match s.mic.wantOpen with
    | none => s
    | some (w, instant) =>
      if s.mic.hist ≠ .locked ∨ !s.boot.ready ∨ !active s then s
      else
        let m : Fin 4 := if swStreamOwner s then s.own.owner.getD 0 else Fin.ofNat 4 (swStreamMaster s)
        raise 113 m.val { s with
          mic.hist := .opened, mic.wantOpen := none, mic.served := m, mic.stream := [], mic.lost := 0
          mic.relockAt := w + 24576000 * swTimeout s, mic.detected := instant
          mic.nextBlock := prerollPoint s instant, mic.gap := false, mic.overrunTold := false })

/-- HISTORY_RELEASE_TIMEOUT (R153). -/
def execHistoryReleaseTimeout (s : State) : Out :=
  .next (histSettle s)

/-- HISTORY_ERASE_DONE (R151). -/
def execHistoryEraseDone (s : State) : Out := .next (if s.mic.hist = .erasing then histCleared s else s)

/-- STREAM_BLOCK_READY (R156, R157): the next block is copied into the empty stream buffer; blocks already
overwritten are dropped. -/
def execStreamBlockReady (s : State) : Out :=
  .next (
    if s.mic.hist ≠ .opened ∨ s.mic.stream ≠ [] then s
    else
      let old := cdiv (oldestInstant s) 160 * 160
      if s.mic.nextBlock < old then
        let n := old - s.mic.nextBlock
        let s := { s with mic.nextBlock := old, mic.gap := true, mic.lost := satAdd 65535 s.mic.lost n }
        if s.mic.overrunTold then s else raise 118 (min 65535 n) { s with mic.overrunTold := true }
      else if s.mic.nextBlock + 160 ≤ s.mic.nextIndex then
        let ws := blockWords s s.mic.nextBlock
        { s with mic.stream := ws, mic.nextBlock := s.mic.nextBlock + 160, mic.gap := false
                 mic.overrunTold := s.mic.overrunTold && s.mic.gap }
      else s)

/-- MIC_MUTE_ON (R158): in OFF only the level of the ball is kept, for the wake. -/
def execMicMuteOn (s : State) : Out :=
  .next (
    match s.pwr.asleep with
    | some sl => if sl.target = 4 then { s with mic.muteBall := true } else
        let was := s.mic.mute
        let s := muteOn { s with mic.muteBall := true }
        if was then s else wakeEvent 116 s
    | none => muteOn (sorrelAbort { s with mic.muteBall := true }))

/-- MIC_MUTE_FALL (R158): the 10 ms release window opens. -/
def execMicMuteFall (s : State) : Out :=
  .next (
    let s := { s with mic.muteBall := false }
    if s.mic.mute then { s with mic.muteRelease := some (clockNow s + 245760) } else s)

/-- MIC_MUTE_OFF (R158). -/
def execMicMuteOff (s : State) : Out :=
  .next (
    match s.mic.muteRelease with
    | some d => if d ≤ clockNow s then wakeEvent 117 (muteOff s) else s
    | none => s)

/-- PDM_CLK0_RATE_CHANGE (R159): an instant boundary at which the clock takes its new rate. -/
def execPdmClk0RateChange (s : State) : Out :=
  .next (if (s.time.now - s.mic.frameStart) % 1536 = 0 ∨ !swRuns s then clk0Change s else s)

/-- A level in −0.5 dB units (WAKE_STATUS_GET). -/
def halfDb (x : Rat) : Nat := min 255 ((-2 * x).floor.toNat)

/-- SPEEDWELL (WAKE_STATUS_GET). -/
def swCode (s : State) : Nat :=
  if !swEn s then 0 else if s.mic.mute || allRetired s then 3 else if s.mic.hangover then 2 else 1

def histCode : Hist → Nat
  | .locked => 0 | .opened => 1 | .erasing => 2

/-- WAKE_STATUS_GET (R146). -/
def execWakeStatusGet (q : Req) (s : State) : Out :=
  .next (report { code := 0x0800, owner := false, report := true, len := lenIs 0 }
    (fun _ s =>
      b1 (swCode s) ++ b1 (histCode s.mic.hist) ++ b1 (if s.mic.hist = .opened then s.mic.served.val else 0xFF) ++ rz 1
      ++ b4 (writeIndex s)
      ++ [0, 1, 2, 3].flatMap (fun c => b1 (match vget s.mic.floors c with | some f => halfDb f | none => 0))
      ++ [0, 1, 2, 3].flatMap (fun c => b1 (halfDb (vget s.mic.energies c)))
      ++ b4 (if s.mic.hist = .opened then msLeft s.mic.relockAt s else 0)
      ++ b2 s.mic.wakes ++ b2 s.mic.lost) q s)

/-- WAKE_ENABLE (R151, R161). -/
def execWakeEnable (q : Req) (s : State) : Out :=
  .next (serve { code := 0x0801, owner := true, len := lenIs 4,
                 fields := fun q _ => within 0 1 (q.u8 0) && within 3 30 (q.u8 1) && within 1 60 (q.u8 2) && zeros q 3 1 }
    (fun _ q s =>
      if q.u8 0 = 1 ∧ s.mic.mute then (s, ans .busy)
      else
        let (v, cid) := match s.mic.late0800 with | some x => (x.v, x.cid) | none => (s.mic.page0800.toNat, none)
        let v := putBits (putBits v 8 8 (q.u8 1)) 40 8 (q.u8 2)
        (swTakeIdle (swSet (q.u8 0 == 1) { s with mic.late0800 := some { v := v, cid := cid } }), ans .ok)) q s)

/-- WAKE_RELEASE (R153): the answer is the state before the command. -/
def execWakeRelease (q : Req) (s : State) : Out :=
  .next (serve { code := 0x0802, owner := true, len := lenIs 0 }
    (fun _ _ s =>
      let s := histSettle s
      let before := histCode s.mic.hist
      (histRelock 0 s, ans .ok (b1 before ++ rz 3))) q s)

/-- WAKE_HISTORY_READ (R152). -/
def execWakeHistoryRead (q : Req) (s : State) : Out :=
  .next (serve { code := 0x0803, owner := false, report := true, len := lenIs 8,
                 fields := fun q _ => within 1 30 (q.u8 4) && zeros q 5 3 }
    (fun _ q s =>
      let s := histSettle s
      let i := q.u32 0
      let n := q.u8 4
      if !streamOpen s q.m then
        (raise 115 q.m.val s, ans .privacy (q.payload.take 8 ++ rz (8 * n)))
      else if i < oldestInstant s ∨ writeIndex s < i + n then (s, ans .badParam)
      else (s, ans .ok (q.payload.take 8 ++ (List.range n).flatMap (fun k => b8 (instantAt s (i + k)).toNat)))) q s)

end Sys2Proof.Machine
end

