-- ==== Sys2Proof/Machine/OwnRows.lean ====
section
/-! DEFINITION. Meanings of the ownership rows and of SYS_RESULT_GET (chapter 02). -/

namespace Sys2Proof.Machine

open Sys2Proof

/-- CLAIM_WINDOW_CLOSE (R61). -/
def execClaimWindowClose (s : State) : Out := .next (claimWindowClose s)

/-- OWN_HEARTBEAT_LAPSED (R62); supervision is suspended while the part sleeps. -/
def execOwnHeartbeatLapsed (s : State) : Out := .next (if active s then heartbeatLapse (acceptEarly s) else s)

/-- OWN_HANDOVER_FAILED (R63). -/
def execOwnHandoverFailed (s : State) : Out := .next (handoverFail s)

/-- The byte of a master in CLAIMS. -/
def claimByte (p : Port) : Nat := 128 * b2n p.claim + p.prio.toNat

/-- OWN_GET (R60, R62, R63). -/
def execOwnGet (q : Req) (s : State) : Out :=
  .next (report { code := 0x0200, owner := false, report := true, len := lenIs 0 }
    (fun _ s =>
      b1 (match s.own.owner with | some m => m.val | none => 0xFF) ++ b1 (ownerPrio s) ++ b2 s.own.elections.toNat
        ++ s.ports.toList.flatMap (fun p => b1 (claimByte p)) ++ b2 s.own.hbPeriod
        ++ b2 (match s.own.handover with | some h => 32768 + h.target.val | none => 0)) q s)

/-- OWN_HEARTBEAT (R62). -/
def execOwnHeartbeat (q : Req) (s : State) : Out :=
  .next (serve { code := 0x0201, owner := true, len := lenIs 4,
                 fields := fun q _ => (q.u16 0 == 0 || within 100 10000 (q.u16 0)) && zeros q 2 2 }
    (fun _ q s =>
      if q.u16 0 = 0 then ({ s with own.hbPeriod := 0, own.hbDue := 0 }, ans .ok (b8 0))
      else
        let due := s.time.now + msTu (q.u16 0)
        ({ s with own.hbPeriod := q.u16 0, own.hbDue := due }, ans .ok (b8 (due - s.time.start)))) q s)

/-- OWN_HANDOVER (R63). -/
def execOwnHandover (q : Req) (s : State) : Out :=
  .next (serve { code := 0x0202, owner := true, len := lenIs 4,
                 fields := fun q _ => within 0 3 (q.u8 0) && q.u8 0 != q.m.val && zeros q 1 3 }
    (fun cid q s =>
      if s.own.handover.isSome then (s, ans .busy)
      else
        let h : Handover := { target := Fin.ofNat 4 (q.u8 0), due := s.time.now + 2457600, cid := cid }
        ({ s with own.handover := some h, own.expired := none }, ans .pending)) q s)

/-- What OWN_ACCEPT comes to. -/
def acceptBody (q : Req) (s : State) : State × Answer :=
  let mine (o : Option (Fin 4)) : Bool := match o with | some m => m.val == q.u8 0 | none => false
  if s.own.early == some (q.m, Fin.ofNat 4 (q.u8 0)) then ({ s with own.early := none }, ans .ok) else
  match s.own.handover with
  | some h => if h.target = q.m ∧ mine s.own.owner then (acceptHandover h s, ans .ok) else (s, ans .badParam)
  | none =>
    match s.own.expired with
    | some e => if e.1 = q.m ∧ e.2.val = q.u8 0 ∧ mine s.own.owner then (s, ans .timeout) else (s, ans .badParam)
    | none => (s, ans .badParam)

/-- Facts of OWN_ACCEPT. -/
def acceptFacts : Facts :=
  { code := 0x0203, owner := false, len := lenIs 4, fields := fun q _ => within 0 3 (q.u8 0) && zeros q 1 3 }

/-- An acceptance taken at the tu at which a heartbeat window closes comes before the lapse (R62, R63). -/
def acceptFirst (q : Req) (s : State) : Bool :=
  s.own.hbPeriod != 0 && s.own.hbDue == s.time.now && acceptMeets q s

/-- OWN_ACCEPT (R63). -/
def execOwnAccept (q : Req) (s : State) : Out :=
  .next (serve acceptFacts (fun _ q s => acceptBody q s) q
    (if s.boot.ready && acceptFirst q s then { s with own.hbPeriod := 0, own.hbDue := 0 } else s))

/-- SYS_RESULT_GET (R52): reading a record removes it. -/
def execSysResultGet (q : Req) (s : State) : Out :=
  .next (serve { code := 0x0101, owner := false, report := true, len := lenIs 0 }
    (fun _ q s =>
      let rs := (portOf s q.m).results
      (onPort q.m (fun p => { p with results := [] }) s,
       ans .ok (b1 rs.length ++ rz 3 ++ rs.flatMap (fun r => b1 r.seq ++ b1 r.status.code ++ b2 r.code)))) q s)

end Sys2Proof.Machine
end

