-- ==== Sys2Proof/Machine/HostPort.lean ====
section
/-! DEFINITION. The port page: reads and writes of its registers (R34 to R43, Tables 2.4 to 2.17). -/

namespace Sys2Proof.Machine

open Sys2Proof

/-- The port pages answer: the part is out of reset, awake, and HALL_CTRL has its supply (R388, R378). -/
def portsLive (s : State) : Bool := powered s && active s

/-- A protocol error of a host port (E244). -/
def protocolError (arg : Nat) (s : State) : State := raise 244 arg s

/-! ### Register values -/

/-- PP_ID (Table 2.5). -/
def ppId (m : Fin 4) : Nat := 0x96400000 + m.val

/-- The Rakaos core runs from a fallback clock (R96): in the boot ROM too, until CSYN has locked. -/
def degraded (s : State) : Bool := (hallOf s hCTRL).clk != .normal

/-- PP_STATUS (Table 2.7). -/
def ppStatus (s : State) (m : Fin 4) : Nat :=
  let p := portOf s m
  maskOf [s.boot.ready, s.boot.booted, p.reqBusy, p.rspReady, p.dbOverrun, false, false, false,
          degraded s, isOwner s m, s.own.claimEnd.isSome, s.own.hbPeriod != 0, false, false,
          streamData s m, streamOpen s m]
    + p.pend.length % 16 * 2 ^ 16 + b2n p.evqOvf * 2 ^ 28 + b2n p.timeDisc * 2 ^ 29 + timeQ s * 2 ^ 30

/-- PP_OWNER (Table 2.8). -/
def ppOwner (s : State) : Nat :=
  let id := match s.own.owner with | some m => m.val | none => 0
  b2n s.own.owner.isSome * 2 ^ 31 + s.own.elections.toNat * 2 ^ 16 + ownerPrio s * 2 ^ 8 + id

/-- PP_CLAIM (Table 2.9). -/
def ppClaim (p : Port) : Nat := b2n p.claim * 2 ^ 31 + p.prio.toNat

/-- PP_MBX_PTR (Table 2.11). -/
def ppPtr (p : Port) : Nat := b2n p.ptrSlot * 2 ^ 8 + p.ptrWord.val * 4

/-- The slot word PP_MBX_PTR names (Table 2.12). -/
def mbxWord (p : Port) : Word := if p.ptrSlot then p.rspSlot.get p.ptrWord else p.reqSlot.get p.ptrWord

/-- Word `k` of a 256-bit register group. -/
def evWord (x : BitVec 256) (k : Nat) : Nat := bitsAt x.toNat (32 * k) 32

/-- What a read of the register at an aligned offset returns, and what it does. -/
def regRead (m : Fin 4) (offset : Nat) (s : State) : Word × State :=
  let p := portOf s m
  let w (x : Nat) : Word := BitVec.ofNat 32 x
  match offset / 4 with
  | 0 => (w (ppId m), s)
  | 1 => (w (ppRev s), s)
  | 2 => (w (ppStatus s m), s)
  | 3 => (w (ppOwner s), s)
  | 4 => (w (ppClaim p), s)
  | 6 => (w (ppPtr p), s)
  | 7 => (mbxWord p, onPort m (fun p => { p with ptrWord := p.ptrWord + 1 }) s)
  | 8 => streamRead m s
  | 9 => (s.own.irqcfg, s)
  | 10 => (w (devTime s), onPort m (fun p => { p with timeHi := w (devTime s / 2 ^ 32) }) s)
  | 11 => (p.timeHi, s)
  | k =>
    if 16 ≤ k ∧ k < 24 then (w (evWord p.evsum (k - 16)), s)
    else if 24 ≤ k ∧ k < 32 then (w (evWord p.evmask (k - 24)), s)
    else (0, s)

/-! ### Register writes -/

/-- PP_CLAIM is written (R60, R61). A closing of the same tu comes first (R82). -/
def claimWrite (m : Fin 4) (value : Word) (s : State) : State :=
  let s := settleOwnership s
  let s := onPort m (fun p => { p with claim := value.getLsbD 31, prio := value.setWidth 4 }) s
  if s.own.claimEnd.isSome || !s.boot.ready then s
  else match s.own.owner with
    | none => if value.getLsbD 31 then elect s else s
    | some o => if o = m ∧ !value.getLsbD 31 then elect s else s

/-- A doorbell takes its place in the service order: by tu, then by master index (R47). -/
def takePlace (m : Fin 4) (s : State) : State :=
  let e := (s.time.now, m)
  let after (x : Nat × Fin 4) : Bool := decide (e.1 < x.1 ∨ (e.1 = x.1 ∧ e.2.val < x.2.val))
  { s with own.inbox := s.own.inbox.takeWhile (fun x => !after x) ++ e :: s.own.inbox.dropWhile (fun x => !after x) }

/-- RSP_ACK: the slot is freed, a held response enters it (R44). -/
def rspAck (m : Fin 4) (s : State) : State :=
  onPort m (fun p =>
    if p.rspReady then
      let p := { p with rspReady := false }
      match p.heldRsp with | some r => writeRsp r p | none => p
    else p) s

/-- REQ: the request is taken in the order of the doorbells, or refused with E244 (R39, R44, R416). -/
def reqRing (m : Fin 4) (s : State) : State :=
  if !s.boot.ready && romMaster s != some m then s
  else if (portOf s m).reqBusy then protocolError 4 (onPort m (fun p => { p with dbOverrun := true }) s)
  else takePlace m (onPort m (fun p => { p with reqBusy := true }) s)

/-- PP_DOORBELL is written: RSP_ACK first (R39). -/
def doorbell (m : Fin 4) (value : Word) (s : State) : State :=
  let s := if value.getLsbD 1 then rspAck m s else s
  if value.getLsbD 0 then reqRing m s else s

/-- A word of the request slot is written (R40). -/
def mbxWrite (m : Fin 4) (value : Word) (s : State) : State :=
  onPort m (fun p =>
    if p.ptrSlot || p.reqBusy then p
    else { p with reqSlot := p.reqSlot.set p.ptrWord.val value p.ptrWord.isLt, ptrWord := p.ptrWord + 1 }) s

/-- A mailbox reset, at once or after the busy request (R43). -/
def mailboxReset (m : Fin 4) (s : State) : State :=
  onPort m (fun p => if p.reqBusy then { p with resetWait := true } else mbxClear p) s

/-- The owner, or any master while no owner is elected. -/
def ownerOrNone (s : State) (m : Fin 4) : Bool := s.own.owner.isNone || isOwner s m

/-- PP_RESET is written with its key (R43, Table 2.17). -/
def kindReset (m : Fin 4) (kind : Nat) (s : State) : State :=
  match kind with
  | 1 => mailboxReset m s
  | 2 => if !ownerOrNone s m then protocolError 5 s else if s.boot.life == .firmware then fwRestart s else s
  | 3 => if !ownerOrNone s m then protocolError 5 s else fullReset 2 s
  | _ => s

/-- Bits of PP_IRQCFG that are not reserved (Table 2.14). -/
abbrev irqcfgMask : Word := 0x00FF3F3F

/-- The register at an aligned offset is written (Tables 2.4 to 2.17). -/
def regWrite (m : Fin 4) (offset : Nat) (value : Word) (s : State) : State :=
  match offset / 4 with
  | 2 => onPort m (fun p => { p with
      timeDisc := p.timeDisc && !value.getLsbD 29, evqOvf := p.evqOvf && !value.getLsbD 28
      dbOverrun := p.dbOverrun && !value.getLsbD 4 }) s
  | 4 => claimWrite m value s
  | 5 => doorbell m value s
  | 6 => onPort m (fun p => { p with ptrSlot := value.getLsbD 8, ptrWord := Fin.ofNat 64 (bitsAt value.toNat 2 6) }) s
  | 7 => mbxWrite m value s
  | 9 => if ownerOrNone s m then { s with own.irqcfg := value &&& irqcfgMask } else s
  | 12 => if bitsAt value.toNat 16 16 = 0xA5C3 then kindReset m (bitsAt value.toNat 0 4) s else s
  | k =>
    if 16 ≤ k ∧ k < 24 then
      onPort m (fun p => { p with
        evsum := p.evsum &&& ~~~(BitVec.ofNat 256 (value.toNat * 2 ^ (32 * (k - 16)))) }) s
    else if 24 ≤ k ∧ k < 32 then
      onPort m (fun p => { p with
        evmask := BitVec.ofNat 256 (putBits p.evmask.toNat (32 * (k - 24)) 32 value.toNat) }) s
    else s

/-! ### Access by SPI and I2C (R34) -/

/-- The offset that remains of an address byte, and E244 where a bit had to be cleared. -/
def hostOffset (offset : Byte) (s : State) : Nat × State :=
  if offset &&& 0x83#8 = 0 then (offset.toNat, s) else ((offset &&& 0x7C#8).toNat, protocolError 2 s)

/-- A host writes a word. -/
def hostWrite (m : Fin 4) (offset : Byte) (value : Word) (s : State) : State :=
  if portsLive s then
    let a := hostOffset offset s
    regWrite m a.1 value a.2
  else s

/-- A host reads a word; the page keeps what it gave. -/
def hostRead (m : Fin 4) (offset : Byte) (s : State) : State :=
  if portsLive s then
    let a := hostOffset offset s
    let r := regRead m a.1 a.2
    onPort m (fun p => { p with dataOut := r.1 }) r.2
  else s

/-- The end of a transaction in the middle of a word, or before it was complete (R35, R36). -/
def xferEnd (m : Fin 4) (how : XferEnd) (s : State) : State :=
  if !portsLive s then s
  else match how with
    | .noClock => s
    | .boundary => s
    | .void => if m = 0 then protocolError 3 s else s
    | .partialWrite offset => protocolError 3 (hostOffset offset s).2
    | .partialRead offset =>
      let a := hostOffset offset s
      protocolError 3 (if a.1 = 0x1C ∨ a.1 = 0x20 then (regRead m a.1 a.2).2 else a.2)

end Sys2Proof.Machine
end

