-- ==== Sys2Proof/Machine/RingRows.lean ====
section
/-! DEFINITION. Meanings of the Gallery ring rows (chapter 14). -/

namespace Sys2Proof.Machine

open Sys2Proof

/-! ### Training (R350) -/

/-- The boot ROM waits for a ring load (R417). -/
def romRing (s : State) : Bool := romMaster s == some 3

/-- A training is asked for; the boot ROM trains without a grant. -/
def galWant (p : Nat) (s : State) : State :=
  if galMayTrain s p then
    if romRing s then galTrain p s
    else if asynRuns s && s.boot.ready then galAsk p none 4 s
    else s
  else s

/-- RING_SIGNAL_POLL (R350): a port that has never been up looks for signal. -/
def execRingSignalPoll (p : Fin 2) (signal : Bool) (s : State) : Out :=
  .next (
    let k := galOf s p
    if active s && galEn s p && !k.been && closed k.pollAt s then
      galWant p (onGal p (fun k => { k with signal := signal, pollAt := s.time.now + msTu 100 }) s)
    else s)

/-- RING_SIGNAL_PRESENT (R350): signal returns on a link that has been up. A neighbour that wakes from DOZE rejoins at an
unfold that the head announces, without training (R354). -/
def execRingSignalPresent (p : Fin 2) (s : State) : Out :=
  .next (
    let k := galOf s p
    if active s && galEn s p && k.been && !galUp s p then
      if k.dozed && k.st == .peerLeft then
        if !ringLinkUp s then landFollow (onGal p (fun k => { k with st := .up, dozed := false }) s)
        else if ringHead s && s.ring.unfoldAt.isNone then { s with ring.unfoldAt := some (s.ring.period + 16) } else s
      else galWant p (onGal p (fun k => { k with signal := true }) s)
    else s)

/-- RING_LINK_UP (R350 step 6, R343, R344, R345). -/
def execRingLinkUp (p : Fin 2) (uid : BitVec 128) (peer : Fin 4095) (delay : Nat) (own : Fin 4095) (s : State) : Out :=
  .next (if !hallRuns s hGAL then s else if (galOf s p).st = .training then landFollow (galJoin p uid peer delay own s) else s)

/-- A training fails (R350): a link that has been up since reset reports it. -/
def trainFail (p : Nat) (s : State) : State :=
  let been := (galOf s p).been
  let st := if been && ringLinkUp s then LinkState.loopedBack else LinkState.noSignal
  let s := galTrainEnd p st (onGal p (fun k => { k with signal := false }) s)
  if been then
    let s := raise 161 (p * 256 + 1) s
    if ringFaultEn s then superviseFault 2 p 1 s else s
  else s

/-- RING_TRAIN_FAIL (R350); a neighbour of the other family reports nothing (R339). -/
def execRingTrainFail (p : Fin 2) (mismatch : Bool) (s : State) : Out :=
  .next (
    if !hallRuns s hGAL then s else
    if (galOf s p).st = .training then
      if mismatch then galTrainEnd p .familyMismatch s
      else if closedO (galOf s p).trainDue s then trainFail p s
      else s
    else s)

/-! ### Ring periods -/

/-- Another head's period meets a head (R342): the comparison decides, by arbitration messages where HEAD_PRIO ties. -/
def headsMeet (p : Nat) (t : RingTiming) (s : State) : State :=
  if s.ring.headPrio < t.headPrio then ringFollow p t s
  else if s.ring.headPrio = t.headPrio ∧ s.ring.standing.isNone then
    arbitrate { s with ring.standing := some (s.time.now + ringPeriods s 16), ring.beaten := false }
  else s

/-- The timing field is this part's own, come back round. -/
def ownTiming (t : RingTiming) (s : State) : Bool :=
  t.head == s.ring.headAddr && t.headPrio == s.ring.headPrio && t.successor == (s.ring.role == .successor)

/-- A standing member sends its arbitration message once per ring period until it is beaten (R356). -/
def standAgain (s : State) : State :=
  if s.ring.standing.isSome && !s.ring.beaten then arbitrate s else s

/-- The head's own period has come back: FOLDED shows a fold, or a chain that trained without closing (R351); without it a
folded ring is whole again, and the unfold is announced (R353; log entry "Ring corners"). -/
def ownPeriod (t : RingTiming) (s : State) : State :=
  if t.folded then ringFold t.foldAddr s
  else if s.ring.folded ∧ s.ring.unfoldAt.isNone then { s with ring.unfoldAt := some ((s.ring.period + 16) % 2 ^ 32) }
  else s

/-- RING_PERIOD_RECEIVED (R341): the check, the timing field, the slots read for the base tick `age` ticks back (R348), and
the period sent on with this part's slots and `free` free control blocks. A period that fails its check is sent on too, its
slots missing. -/
def execRingPeriodReceived (p : Fin 2) (ok : Bool) (t : RingTiming) (age : Nat) (free : Fin 9) (s : State) : Out :=
  .next (
    if !hallRuns s hGAL then s else
    if !(ringRuns s && galUp s p) then s
    else
      let s :=
        if !ok then raise 170 1 { s with ring.crcErrs := satAdd 65535 s.ring.crcErrs 1 }
        else
          let s := if !ringHead s then ringFollow p t s else if ownTiming t s then ownPeriod t s else headsMeet p t s
          let s := markSeen 16 (ringMapTake { s with ring.clockLost := false })
          if ringAudio s then slotsArrive p (periodTick s age) t.valid s else s
      let s := { s with ring.sentAt := if ringAudio s then some (periodTick s age) else none }
      ringDepart (ringEmit free (standAgain s)))

/-- RING_PERIOD_START (R342): the head starts a ring period at a base tick. -/
def execRingPeriodStart (_got : Computed) (free : Fin 9) (s : State) : Out :=
  .next (
    if !hallRuns s hGAL then s else
    if ringRuns s && ringHead s && asynRuns s then
      let s := { s with ring.period := (s.ring.period + 1) % 2 ^ 32, ring.sentAt := some (baseTickTu s) }
      ringDepart (ringEmit free (ringMapTake s))
    else s)

/-- RING_DEADLINE_MISS (R348): a sample of a bound input has not arrived within its window, which has ended. -/
def execRingDeadlineMiss (i : Fin 32) (s : State) : Out :=
  .next (if ringMissing s i && asynRuns s && hallRuns s hGAL then concealMiss i s else s)

/-- PRES_CHANGE_BOUNDARY (R349): at the announced boundary the inputs fade out, move to the new delay and fade in. -/
def execPresChangeBoundary (s : State) : Out :=
  .next (
    if !hallRuns s hGAL then s else
    match s.ring.presChange with
    | some (b, tu) =>
      if periodReached s b then
        ringTake ringPresMask { s with ring.presFade := some (s.time.now, tu), ring.presChange := none }
      else s
    | none => s)

/-! ### Head (R342) -/

/-- HEAD_TIMING_LOST (R342): no valid timing field for 8 ring periods while a link is up. -/
def execHeadTimingLost (s : State) : Out :=
  .next (
    if !hallRuns s hGAL then s else
    let prio := s.ring.headPrio
    if ringRuns s && !ringHead s && prio != 0 && prio != 15 && s.ring.standing.isNone
        && closed (s.ring.lastTiming + ringPeriods s 8) s then
      let s := { s with ring.standing := some (s.time.now + ringPeriods s 16), ring.beaten := false }
      arbitrate s
    else s)

/-- Ring periods since the last one that gave a timing field. -/
def periodsSince (s : State) : Nat := (s.time.now - s.ring.lastTiming) * baseHz s / 24576000

/-- HEAD_ARBITRATION_DONE (R342): the winner continues PERIOD as successor head; of two heads that met, one stays. -/
def execHeadArbitrationDone (s : State) : Out :=
  .next (
    if !hallRuns s hGAL then s else
    if closedO s.ring.standing s then
      let s' := { s with ring.standing := none }
      if ringHead s then (if s.ring.beaten then landFollow { s' with ring.role := .member } else s')
      else if s.ring.beaten then { s' with ring.lastTiming := s.time.now }
      else landFollow (ringBecomeHead .successor { s' with ring.period := (s.ring.period + periodsSince s) % 2 ^ 32 })
    else s)

/-- RING_CLOCK_LOST (R346): a member on code 16 coasts. -/
def execRingClockLost (s : State) : Out :=
  .next (
    if s.clk.ref = 16 ∧ !s.ring.clockLost ∧ s.ring.role ≠ .off ∧ active s then
      refLose 1 (raise 169 0 { s with ring.clockLost := true })
    else s)

/-! ### Fold and unfold (R351, R353) -/

/-- RING_LINK_DOWN (R351): planned (R354) or a fault. -/
def execRingLinkDown (p : Fin 2) (s : State) : Out :=
  .next (
    if !hallRuns s hGAL then s else
    if ringRuns s && galUp s p then
      if planned s p then ringLose p .peerLeft (onGal p (fun k => { k with signal := false }) s)
      else
        let s := raise 161 (p.val * 256 + 1) (onGal p (fun k => { k with signal := false, dozed := false }) s)
        let s := ringLose p (if galUp s (1 - p.val) then .loopedBack else .noSignal) s
        if ringFaultEn s then superviseFault 2 p 1 s else s
    else s)

/-- RING_UNFOLDED (R353). -/
def execRingUnfolded (s : State) : Out :=
  .next (
    if !hallRuns s hGAL then s else
    match s.ring.unfoldAt with
    | some b =>
      if periodReached s b then
        let s := { s with
          ring.unfoldAt := none, ring.folded := false, ring.openChain := false, ring.foldAddr := 0
          ring.ports := s.ring.ports.map (fun k =>
            if k.dozed && k.st == .peerLeft then { k with st := .up, dozed := false } else k) }
        landFollow (raise 163 0 s)
      else s
    | none => s)

/-! ### Control messages (R355, R356) -/

/-- A control message reaches this part. -/
def ringHears (s : State) : Bool := portsLive s && ringRuns s

/-- M3_FROM lets a message of this address reach the M3 page. -/
def m3Hears (s : State) (src : Nat) : Bool := ringHears s && (ringM3From s == 0 || ringM3From s == src)

/-- Bytes of a payload that are zero. -/
def zeroIn (l : List Byte) (off n : Nat) : Bool := ((l.drop off).take n).all (· == 0)

/-- The offset of the next word of a burst (R34). -/
def nextOffset (a : Nat) : Nat := if a = 0x1C ∨ a = 0x20 then a else (a + 4) % 0x80

/-- The words of a burst written from an offset on. -/
def burstWrite (a : Nat) (l : List Byte) : Nat → State → State
  | 0, s => s
  | n + 1, s => burstWrite (nextOffset a) (l.drop 4) n (regWrite 3 a (BitVec.ofNat 32 (leAt l 0 4)) s)

/-- A command of M3 rings its doorbell. -/
def ringsBell (a : Nat) (l : List Byte) : Nat → Bool
  | 0 => false
  | n + 1 => (a == 0x14 && (leAt l 0 1).testBit 0) || ringsBell (nextOffset a) (l.drop 4) n

/-- The words of a burst read from an offset on. -/
def burstRead (a : Nat) : Nat → State → List Byte × State
  | 0, s => ([], s)
  | n + 1, s =>
    let r := regRead 3 a s
    let t := burstRead (nextOffset a) n r.2
    (b4 r.1.toNat ++ t.1, t.2)

/-- RING_PP_WRITE_MSG (R355): the words act on the M3 page as an SPI write. -/
def execRingPpWriteMsg (src : Fin 4095) (payload : List Byte) (s : State) : Out :=
  .next (
    if !hallRuns s hGAL then s else
    let n := leAt payload 1 1
    if m3Hears s src && within 1 16 n && payload.length == 4 + 4 * n && zeroIn payload 2 2 then
      let a := hostOffset (payload.getD 0 0) s
      let l := payload.drop 4
      burstWrite a.1 l n (if ringsBell a.1 l n then { a.2 with ring.ownerAddr := src.val } else a.2)
    else s)

/-- RING_PP_READ_MSG (R356): answered by a read reply with the request's SEQ. -/
def execRingPpReadMsg (src : Fin 4095) (seq : Byte) (payload : List Byte) (s : State) : Out :=
  .next (
    if !hallRuns s hGAL then s else
    let a := leAt payload 0 1
    let n := leAt payload 1 1
    if m3Hears s src && payload.length == 4 && zeroIn payload 2 2 then
      let head (st : Status) : List Byte := b1 a ++ b1 n ++ b2 st.code
      if within 1 16 n && a % 4 == 0 && decide (a < 0x80) then
        let r := burstRead a n s
        ringSend src 3 seq.toNat (head .ok ++ r.1) r.2
      else ringSend src 3 seq.toNat (head .badParam ++ rz (4 * min n 252)) s
    else s)

/-- RING_READ_REPLY_MSG (R356): the access that waits for this SEQ of this address completes. -/
def execRingReadReplyMsg (src : Fin 4095) (seq : Byte) (payload : List Byte) (s : State) : Out :=
  .next (
    if !hallRuns s hGAL then s else
    let mine (a : PpAccess) : Bool := a.dest == src.val && a.seq == seq.toNat
    let n := leAt payload 1 1
    if ringHears s && payload.length == 4 + 4 * n then
      match s.ring.access.find? mine with
      | some a =>
        let s := { s with ring.access := dropFirst mine s.ring.access }
        if leAt payload 2 2 ≠ 0 then complete a.cid .badParam s
        else completeP a.cid .ok 0 (if a.op = 0 then payload.drop 4 else []) s
      | none => s
    else s)

/-- RING_EVENT_RECORD_MSG (R74): the record has arrived for the master this part is; no state of the part holds it. -/
def execRingEventRecordMsg (_src : Fin 4095) (_payload : List Byte) (s : State) : Out := .next s

/-! ### Bulk (R356, R357) -/

/-- A bulk acknowledgement. -/
def bulkAck (dest acked : Nat) (st : Status) (final : Bool) (s : State) : State :=
  ringSendNew dest 6 (b4 acked ++ b2 st.code ++ b1 (b2n final) ++ rz 1) s

/-- The receiver accepts a bulk transfer of this KIND: BULK_ACCEPT, or the ring load of the boot ROM (R417). -/
def bulkMay (s : State) (kind : Nat) : Bool :=
  s.ring.recv.isNone && !s.ring.recvLock && (ringBulkAccept s || (romRing s && kind == 1))

/-- RING_BULK_START_MSG (R356): accepted, or refused with BUSY. -/
def execRingBulkStartMsg (src : Fin 4095) (payload : List Byte) (s : State) : Out :=
  .next (
    if !hallRuns s hGAL then s else
    let kind := leAt payload 0 1
    let len := leAt payload 4 4
    if ringHears s && payload.length == 12 && decide (kind ≤ 1) && zeroIn payload 1 3 && within 1 262144 len then
      if bulkMay s kind then
        let r : BulkRecv := { src := src, kind := kind, len := len, dcrc := leAt payload 8 4 }
        bulkAck src 0 .ok false { s with ring.recv := some r, gra.ringStage := [] }
      else raise 168 Status.busy.code (bulkAck src 0 .busy true s)
    else s)

/-- The last byte has come, or the lengths differ: the final acknowledgement and E168; the boot ROM checks a loaded
image (R417). -/
def bulkRecvEnd (r : BulkRecv) (ok : Bool) (s : State) : State :=
  let good := ok && (crc32 s.gra.ringStage).toNat == r.dcrc
  let st := if good then Status.ok else Status.badParam
  let s := raise 168 st.code (bulkAck r.src r.written st true { s with ring.recv := none })
  if good && romRing s && r.kind == 1 then (romCommit s.gra.ringStage r.len s).1 else s

/-- Data at the expected offset. -/
def bulkTake (r : BulkRecv) (data : List Byte) (s : State) : State :=
  let w := r.written + data.length
  if r.len < w then bulkRecvEnd r false s
  else
    let r' := { r with written := w }
    let s := { s with gra.ringStage := s.gra.ringStage ++ data, ring.recv := some r' }
    if w = r.len then bulkRecvEnd r' true s
    else if r.written / 65536 < w / 65536 then bulkAck r.src w .ok false s
    else s

/-- RING_BULK_DATA_MSG (R356): only data whose OFFSET equals the bytes already written is written. -/
def execRingBulkDataMsg (src : Fin 4095) (payload : List Byte) (s : State) : Out :=
  .next (
    if !hallRuns s hGAL then s else
    match s.ring.recv with
    | some r =>
      if ringHears s && r.src == src.val && within 5 756 payload.length && leAt payload 0 4 == r.written then
        bulkTake r (payload.drop 4) s
      else s
    | none => s)

/-- What an acknowledgement of this part's transfer does. -/
def bulkAcked (b : BulkSend) (acked st : Nat) (final : Bool) (s : State) : State :=
  if st = Status.busy.code then bulkSendEnd .busy s
  else if final then bulkSendEnd (if st = 0 then .ok else .badParam) s
  else
    let due := s.time.now + msTu 100
    { s with ring.send := some { b with accepted := true, acked := acked, sent := min b.sent acked, due := due } }

/-- RING_BULK_ACK_MSG (R356). -/
def execRingBulkAckMsg (src : Fin 4095) (payload : List Byte) (s : State) : Out :=
  .next (
    if !hallRuns s hGAL then s else
    match s.ring.send with
    | some b =>
      let st := leAt payload 4 2
      if ringHears s && b.dest == src.val && payload.length == 8 && decide (leAt payload 6 1 ≤ 1) && zeroIn payload 7 1
          && (st == 0 || st == Status.busy.code || st == Status.badParam.code) then
        bulkAcked b (leAt payload 0 4) st (leAt payload 6 1 == 1) s
      else s
    | none => s)

/-- RING_ARBITRATION_MSG (R342, R356): a better standing than this part's own. -/
def execRingArbitrationMsg (payload : List Byte) (s : State) : Out :=
  .next (
    if !hallRuns s hGAL then s else
    let prio := leAt payload 0 1
    if ringHears s && payload.length == 24 && within 1 15 prio && zeroIn payload 1 3 && s.ring.standing.isSome
        && beats prio (BitVec.ofNat 128 (leAt payload 4 16)) s.ring.headPrio Config.uid then
      { s with ring.beaten := true }
    else s)

/-- RING_DEPARTURE_MSG (R354, R356): a neighbour's loss at AT_PERIOD counts as planned. GALA of one part joins GALB of
the next. -/
def execRingDepartureMsg (src : Fin 4095) (payload : List Byte) (s : State) : Out :=
  .next (
    if !hallRuns s hGAL then s else
    let ports := leAt payload 0 1
    if ringHears s && payload.length == 8 && decide (ports < 4) && decide (leAt payload 1 1 ≤ 2) && zeroIn payload 2 2 then
      [0, 1].foldl (fun s p =>
        if (galOf s p).addr = src.val ∧ maskBit ports (1 - p) then
          onGal p (fun k => { k with leaving := some (leAt payload 4 4), dozed := leAt payload 1 1 == 1 }) s
        else s) s
    else s)

/-- RING_PP_ACCESS_TIMEOUT (R355): no reply within 10 ms. -/
def execRingPpAccessTimeout (s : State) : Out :=
  .next (
    if !hallRuns s hCTRL then s else
    let late := s.ring.access.filter (fun a => closed a.due s)
    late.foldl (fun s a => complete a.cid .timeout s)
      { s with ring.access := s.ring.access.filter (fun a => !closed a.due s) })

/-- RING_BULK_TIMEOUT (R357): no acknowledgement within 100 ms. -/
def execRingBulkTimeout (s : State) : Out :=
  .next (
    if !hallRuns s hCTRL then s else
    match s.ring.send with
    | some b => if closed b.due s then bulkSendEnd .timeout s else s
    | none => s)

/-! ### Commands -/

/-- ROLE of RING_STATUS_GET. -/
def RingRole.code : RingRole → Nat
  | .off => 0 | .member => 1 | .head => 2 | .successor => 3 | .alone => 4

/-- LINK_A and LINK_B of RING_STATUS_GET. -/
def LinkState.code : LinkState → Nat
  | .disabled => 0 | .noSignal => 1 | .training => 2 | .up => 3 | .loopedBack => 4 | .retired => 5
  | .familyMismatch => 6 | .peerLeft => 7

/-- Response of RING_STATUS_GET. -/
def ringStatus (s : State) : List Byte :=
  let r := s.ring
  let flags := maskOf [r.folded, r.unfoldAt.isSome, r.openChain, s.clk.ref == 16, r.conflict]
  b1 (shown 0x40 s r.role.code) ++ b1 flags ++ b2 r.addr ++ b2 r.headAddr ++ b2 r.hops ++ b1 (shown 0x40 s (galOf s 0).st.code)
    ++ b1 (shown 0x40 s (galOf s 1).st.code) ++ b2 (ringHmax s) ++ b4 r.period ++ b4 r.delayAcc ++ b2 r.misses ++ b2 r.crcErrs
    ++ b4 r.presTu

/-- RING_STATUS_GET (R340): the read clears MISSES and CRC_ERRS. -/
def execRingStatusGet (q : Req) (s : State) : Out :=
  .next (serve { code := 0x1200, owner := false, report := true, len := lenIs 0 }
    (fun _ _ s => ({ s with ring.misses := 0, ring.crcErrs := 0 }, ans .ok (ringStatus s))) q s)

/-- An entry of RING_ROSTER_GET. -/
def rosterEntry (k : RingPort) : List Byte :=
  leBytes 16 (match k.uid with | some u => u.toNat | none => 0) ++ b2 k.addr ++ b1 (b2n k.changed) ++ rz 1

/-- RING_ROSTER_GET (R344). -/
def execRingRosterGet (q : Req) (s : State) : Out :=
  .next (report { code := 0x1201, owner := false, report := true, len := lenIs 0 }
    (fun _ s => s.ring.ports.toList.flatMap rosterEntry) q s)

/-- RING_PP_ACCESS (R355): a port-page message to the remote part. -/
def execRingPpAccess (q : Req) (s : State) : Out :=
  .next (serve { code := 0x1202, owner := true, len := fun k => k == 8 || (within 12 72 k && k % 4 == 0), halls := needGAL,
                 lenQ := fun q => q.len == 8 + (if q.u8 2 = 1 then 4 * q.u8 4 else 0)
                 fields := fun q _ => within 1 4094 (q.u16 0) && within 0 1 (q.u8 2) && q.u8 3 % 4 == 0
                   && decide (q.u8 3 < 0x80) && within 1 16 (q.u8 4) && zeros q 5 3 }
    (fun cid q s =>
      if !ringLinkUp s then (s, ans .notReady)
      else
        let a : PpAccess :=
          { dest := q.u16 0, seq := s.ring.seq, op := q.u8 2, count := q.u8 4, due := s.time.now + msTu 10, cid := some cid }
        let head := b1 (q.u8 3) ++ b1 (q.u8 4) ++ rz 2
        let s := { s with ring.access := s.ring.access ++ [a] }
        (if q.u8 2 = 1 then ringSendNew (q.u16 0) 1 (head ++ q.payload.drop 8) s else ringSendNew (q.u16 0) 2 head s,
         ans .pending)) q s)

/-- The first `n` bytes of the mailbox staging buffer; bytes never staged are open. -/
def stagedFirst (s : State) (n : Nat) : List Byte :=
  let l := s.own.mbxStage.take n
  l ++ (Config.freeBytes s.free n).take (n - l.length)

/-- RING_BULK_SEND (R357). -/
def execRingBulkSend (q : Req) (s : State) : Out :=
  .next (serve { code := 0x1203, owner := true, len := lenIs 8, halls := needGAL,
                 fields := fun q _ => within 1 4094 (q.u16 0) && within 0 1 (q.u8 2) && zeros q 3 1
                   && within 1 262144 (q.u32 4) }
    (fun cid q s =>
      if s.ring.send.isSome then (s, ans .busy)
      else if !ringLinkUp s then (s, ans .notReady)
      else
        let dcrc := (crc32 (stagedFirst s (q.u32 4))).toNat
        let b : BulkSend :=
          { dest := q.u16 0, kind := q.u8 2, len := q.u32 4, due := s.time.now + msTu 100, cid := some cid }
        let s := { s with ring.send := some b, own.mbxLock := true, free := s.free + 1 }
        (ringSendNew (q.u16 0) 9 (b1 (q.u8 2) ++ rz 3 ++ b4 (q.u32 4) ++ b4 dcrc) s, ans .pending)) q s)

/-- RING_LINK_TRAIN (R350). -/
def execRingLinkTrain (q : Req) (s : State) : Out :=
  .next (serve { code := 0x1204, owner := true, len := lenIs 4, halls := needGAL,
                 fields := fun q _ => within 0 1 (q.u8 0) && zeros q 1 3 }
    (fun cid q s =>
      let p := q.u8 0
      let k := galOf s p
      if k.st = .retired then (s, ans .retired)
      else if k.st = .up then (s, ans .ok)
      else if !galEn s p || !k.signal then (s, ans .notReady)
      else if k.asked || k.trainDue.isSome then (onGal p (fun k => { k with cids := k.cids ++ [cid] }) s, ans .pending)
      else
        let s := galAsk p (some cid) q.m.val s
        if (galOf s p).asked ∨ grantHeld (.ringTrain (Fin.ofNat 2 p)) s then (s, ans .pending) else (s, ans .noGrant)) q s)

end Sys2Proof.Machine
end

