-- ==== Sys2Proof/Machine/RouteRows.lean ====
section
/-! DEFINITION. Meanings of the routing, gain, landing and lane rows (chapter 08). -/

namespace Sys2Proof.Machine

open Sys2Proof

/-- A source operand: 0-255, or 0xFFFF for none. -/
def srcOk (x : Nat) : Bool := decide (x < 256) || x == 0xFFFF
def srcOf (x : Nat) : Option Nat := if x = 0xFFFF then none else some x
/-- A source as an answer gives it. -/
def srcCode (p : Option Nat) : Nat := p.getD 0xFFFF

/-- STATE of a target (ROUTE_GET). -/
def targetState (s : State) (t : Nat) : Nat :=
  let x := targetOf s t
  if targetRetired s t then 4
  else if x.fade.isSome then 2
  else if x.wait.isSome then 1
  else match x.src with
    | some p => if pointJoined s false p then 0 else 3
    | none => 0

/-- One entry of ROUTE_GET. -/
def targetEntry (s : State) (t : Nat) : List Byte :=
  let x := targetOf s t
  let bits := if hallShut 8 s then (false, false) else if t < 128 then ((vget s.fab.snk t).valid, (vget s.fab.snk t).settled)
    else match x.src with | some p => sourceBits s p | none => (false, false)
  b2 (srcCode x.src) ++ i2 (gainNow s t) ++ b1 (targetState s t) ++ b1 (b2n bits.1 + 2 * b2n bits.2)
    ++ b2 (if t < 128 then x.clip else 0)

/-- ROUTE_GET (R197, R198): CLIP is cleared by the read. -/
def execRouteGet (q : Req) (s : State) : Out :=
  .next (serve { code := 0x0A00, owner := false, report := true, len := lenIs 4,
                 fields := fun q _ => within 1 30 (q.u8 2) && decide (q.u16 0 + q.u8 2 ≤ 1152) && zeros q 3 1 }
    (fun _ q s =>
      let ts := (List.range (q.u8 2)).map (fun i => q.u16 0 + i)
      (ts.foldl (fun s t => onTarget t (fun x => { x with clip := 0 }) s) s,
       ans .ok (q.payload ++ rz 4 ++ ts.flatMap (targetEntry s)))) q s)

/-- Common field checks of ROUTE_SET and ROUTE_DIRECT. -/
def routeFields (q : Req) : Bool := decide (q.u16 0 < 1152) && srcOk (q.u16 2) && gainOk (q.i16 4)

/-- Target or source belongs to a retired channel (R209). -/
def routeRetired (s : State) (q : Req) : Bool :=
  targetRetired s (q.u16 0) || (match srcOf (q.u16 2) with | some p => sourceRetired s p | none => false)

/-- ROUTE_SET (R207 to R209). -/
def execRouteSet (q : Req) (s : State) : Out :=
  .next (serve { code := 0x0A01, owner := true, len := lenIs 8, halls := needAUD,
                 fields := fun q _ => routeFields q && (within 0 256 (q.u16 6) || q.u16 6 == 0xFFFF) }
    (fun cid q s =>
      if routeRetired s q then (s, ans .retired)
      else
        let fade := if q.u16 6 = 0xFFFF then defaultFade s else q.u16 6
        (routeChange (q.u16 0) (srcOf (q.u16 2)) (q.i16 4) fade (some cid) s, ans .pending)) q s)

/-- ROUTE_DIRECT (R208, R209). -/
def execRouteDirect (q : Req) (s : State) : Out :=
  .next (serve { code := 0x0A80, owner := true, len := lenIs 8, halls := needAUD,
                 fields := fun q _ => routeFields q && zeros q 6 2 }
    (fun _ q s =>
      if routeRetired s q then (s, ans .retired)
      else (routesFollow (routeDirect (q.u16 0) (srcOf (q.u16 2)) (q.i16 4) s), ans .ok)) q s)

/-- ROUTE_APPLIED (R207, R208): a waiting change at the first frame boundary after it was taken, not within a fade. -/
def execRouteApplied (t : Fin 1152) (s : State) : Out :=
  .next (
    if !hallRuns s hAUD then s else
    match (targetOf s t.val).wait with
    | some w => if (targetOf s t.val).fade.isNone && boundarySince w.asked s then routesFollow (routeApply t.val s) else s
    | none => s)

/-- ROUTE_FADE_END (R207): the last sample of a fade; a change that waited now waits for a later boundary (R208). -/
def execRouteFadeEnd (t : Fin 1152) (s : State) : Out :=
  .next (
    match (targetOf s t.val).fade with
    | some f =>
      if closed (f.began + samplesTu (fhHz s) (f.n - 1)) s && hallRuns s hAUD then
        routesFollow (complete f.cid .ok (onTarget t.val (fun x => { x with
          fade := none
          wait := x.wait.map (fun w => { w with asked := max w.asked s.time.now }) }) s))
      else s
    | none => s)

/-! ### Gains -/

/-- STATE of a gain (GAIN_GET). -/
def gainState (s : State) (i : Nat) : Nat :=
  match gainJob s i with
  | none => 0
  | some j => if j.ramp.isSome then 2 else 1

/-- GAIN_GET (R199, R202): MIXER_CLIPS is cleared by the read. -/
def execGainGet (q : Req) (s : State) : Out :=
  .next (serve { code := 0x0B00, owner := false, report := true, len := lenIs 4,
                 fields := fun q _ => within 1 60 (q.u8 2) && decide (q.u16 0 + q.u8 2 ≤ 1280) && zeros q 3 1 }
    (fun _ q s =>
      ({ s with fab.mixerClips := 0 },
       ans .ok (q.payload ++ b4 s.fab.mixerClips ++ (List.range (q.u8 2)).flatMap (fun k =>
         i2 (gainNow s (q.u16 0 + k)) ++ b1 (gainState s (q.u16 0 + k)) ++ rz 1)))) q s)

/-- A gain index belongs to a retired channel: its target's sink or its source is retired (GAIN_SET). -/
def gainRetired (s : State) (i : Nat) : Bool :=
  let t := if i < 1152 then i else i - 1152
  targetRetired s t || (match (targetOf s t).src with | some p => sourceRetired s p | none => false)

/-- GAIN_SET (R203 to R205). -/
def execGainSet (q : Req) (s : State) : Out :=
  .next (serve { code := 0x0B01, owner := true, len := lenIs 4, halls := needAUD,
                 fields := fun q _ => decide (q.u16 0 < 1280) && gainOk (q.i16 2) }
    (fun cid q s =>
      if gainRetired s (q.u16 0) then (s, ans .retired)
      else if (gainJob s (q.u16 0)).isNone ∧ gainStored s (q.u16 0) = q.i16 2 then (s, ans .ok)
      else (gainBasic (q.u16 0) (q.i16 2) (some cid) s, ans .pending)) q s)

/-- GAIN_DIRECT (R206). -/
def execGainDirect (q : Req) (s : State) : Out :=
  .next (serve { code := 0x0B80, owner := true, len := lenIs 4, halls := needAUD,
                 fields := fun q _ => decide (q.u16 0 < 1280) && gainOk (q.i16 2) }
    (fun _ q s =>
      if gainRetired s (q.u16 0) then (s, ans .retired)
      else (gainDirect (q.u16 0) (q.i16 2) s, ans .ok)) q s)

/-- A sample meets the gain of an index at this tu. -/
def gainTick (s : State) (i : Nat) : Bool := hallRuns s hAUD && onTick s (rampHz s i)

/-- GAIN_ZERO_CROSSING (R203, R214): the sample at hand is a crossing inside the window and takes the waiting change; index
1,280 + j is lane j. -/
def execGainZeroCrossing (i : Fin 1288) (s : State) : Out :=
  .next (
    match gainJob s i.val with
    | some j =>
      if j.ramp.isNone && !closed j.due s && gainTick s i.val && gainCross s i.val (gainInput s i.val) then gainDone i.val s
      else s
    | none => s)

/-- GAIN_RAMPED (R204): the timeout has closed, and the ramp begins with the sample at hand. -/
def execGainRamped (i : Fin 1288) (s : State) : Out :=
  .next (
    match gainJob s i.val with
    | some j => if j.ramp.isNone && closed j.due s && gainTick s i.val then rampBegin i.val s else s
    | none => s)

/-- GAIN_RAMP_END (R204, R214): the ramp reaches its target. -/
def execGainRampEnd (i : Fin 1288) (s : State) : Out :=
  .next (
    match gainJob s i.val with
    | some { ramp := some (t, _), .. } =>
      if closed (t + samplesTu (rampHz s i.val) (rampLen i.val)) s && hallRuns s hAUD then gainDone i.val s else s
    | _ => s)

/-- MIXER_CLIP (R202): a mixer has saturated; E204 at most once in 2,457,600 tu. -/
def execMixerClip (m : Fin 64) (s : State) : Out :=
  .next (
    if !hallRuns s hAUD then s else
    if s.fab.mixClip.getLsbD m.val then
      let s := { s with fab.mixClip := s.fab.mixClip &&& ~~~(BitVec.ofNat 64 (2 ^ m.val)) }
      if vget s.fab.clipQuiet m.val ≤ s.time.now then
        raise 204 m.val { s with fab.clipQuiet := vset s.fab.clipQuiet m.val (s.time.now + 2457600) }
      else s
    else s)

/-! ### Landings -/

/-- STATE of a landing (ROUTE_LANDING_GET). -/
def landStateCode (s : State) (k : Nat) : Nat :=
  match (landOf s k).st with
  | .off => 0
  | .locked => 2
  | .acquiring => if landClock s (landOf s k) then 1 else 3

/-- RATIO: input rate over output rate in Q8.24 (ROUTE_LANDING_GET). -/
def landRatio (s : State) (k : Nat) : Nat :=
  let r := landRates s (landOf s k)
  if r.2 = 0 then 0
  else ((r.1 : Int) * (1000000000 + landPpm s (landOf s k)) * (2 ^ 24 : Int) / ((r.2 : Int) * 1000000000)).toNat

/-- ROUTE_LANDING_GET (R193): the latency is exact in SYNC mode and open within 4 samples in ASYNC mode. -/
def execRouteLandingGet (q : Req) (s : State) : Out :=
  .next (serve { code := 0x0A03, owner := false, report := true, len := lenIs 4,
                 fields := fun q _ => decide (q.u8 0 < 4) && zeros q 1 3 }
    (fun _ q s =>
      let l := landOf s (q.u8 0)
      (s, ans .ok (b1 (shown 8 s (landStateCode s (q.u8 0))) ++ b1 (b2n (landAsync s l)) ++ b1 (landChans l).length ++ rz 1
         ++ b4 (landRatio s (q.u8 0)) ++ i4 (landPpm s l) ++ b2 (if l.st = .locked then landLatency s (q.u8 0) else 0)
         ++ b2 l.locks))) q s)

/-- ROUTE_LANDING_SET (R190, R192, R195). -/
def execRouteLandingSet (q : Req) (s : State) : Out :=
  .next (serve { code := 0x0A04, owner := true, len := lenIs 16, halls := needAUD,
                 fields := fun q _ => decide (q.u8 0 < 4) && within 0 1 (q.u8 1) && within 0 1 (q.u8 2)
                   && within 0 1 (q.u8 3) && (if q.u8 1 = 1 then within 1 8 (q.u8 4) else within 0 8 (q.u8 4))
                   && zeros q 5 3 && zeros q (8 + q.u8 4) (8 - q.u8 4) }
    (fun cid q s =>
      let chans := (List.range (q.u8 4)).map (fun i => q.u8 (8 + i))
      let r := landSet (q.u8 0) (q.u8 1 == 1) (q.u8 2 == 1) (q.u8 3 == 1) chans (some cid) s
      (r.1, ans r.2)) q s)

/-- LANDING_SET_TIMEOUT (ROUTE_LANDING_SET): no lock within 100 ms; the landing keeps acquiring. -/
def execLandingSetTimeout (k : Fin 4) (s : State) : Out :=
  .next (
    if !hallRuns s hCTRL then s else
    match (landOf s k.val).cid with
    | some (c, due) =>
      if closed due s then complete (some c) .timeout (onLand k.val (fun l => { l with cid := none }) s) else s
    | none => s)

/-- Landings run in the active states only (R195). -/
def landRuns (s : State) : Bool := hallRuns s hAUD && hallsOpen 8 s

/-- LANDING_LOCK (R192): the ratio is loaded, or measured with the deviation given; E192+k with argument 1. -/
def execLandingLock (k : Fin 4) (ppm : Int) (s : State) : Out :=
  .next (
    let l := landOf s k.val
    if l.st = .acquiring ∧ l.fall = 0 ∧ landClock s l ∧ landConfigOk s (landOut l) (landChans l) ∧ landRuns s then
      let p := if landAsync s l then ppm else 0
      let s := onLand k.val (fun l => { l with st := .locked, rise := 0, ppm := p, mark := p,
                                               ppmAt := s.time.now, drifts := false, locks := satAdd 65535 l.locks 1, cid := none }) s
      complete (l.cid.map (fun c => c.1)) .ok (raise (192 + k.val) 1 s)
    else s)

/-- The source rate has changed by more than 500 ppm per second since the ratio was last taken (R193). -/
def ratioDrifts (s : State) (l : Landing) (ppm : Int) : Bool :=
  decide (500000 * (s.time.now - l.ppmAt) < (ppm - l.ppm).natAbs * 24576000)

/-- LANDING_RATIO (R194): the tracked ratio, E196 when it moved more than 100 ppm. -/
def execLandingRatio (k : Fin 4) (ppm : Int) (s : State) : Out :=
  .next (
    let l := landOf s k.val
    if l.st = .locked ∧ landAsync s l ∧ landRuns s then
      let s := onLand k.val (fun l => { l with ppmAt := s.time.now, drifts := ratioDrifts s l ppm }) s
      if 100000 < (ppm - l.mark).natAbs then
        raise 196 k.val (onLand k.val (fun l => { l with ppm := ppm, mark := ppm }) s)
      else onLand k.val (fun l => { l with ppm := ppm }) s
    else s)

/-- LANDING_LOCK_LOST (R194): the measured ratio left the tracked one by more than 2,000 ppm. -/
def execLandingLockLost (k : Fin 4) (s : State) : Out :=
  .next (if landAsync s (landOf s k.val) && landRuns s then landLose k.val s else s)

/-! ### Silence settings -/

/-- ROUTE_SILENCE_GET (R210, R211). -/
def execRouteSilenceGet (q : Req) (s : State) : Out :=
  .next (report { code := 0x0A05, owner := false, report := true, len := lenIs 0 }
    (fun _ s => leBytes 32 (maskOf ((List.range 256).map (fun p => (silenceOf s p).silent)))
      ++ leBytes 32 (maskOf ((List.range 256).map (fun p => (silenceOf s p).idle)))) q s)

/-- ROUTE_SILENCE_SET (R211): a change of THRESH or HOLD restarts the point's window. -/
def execRouteSilenceSet (q : Req) (s : State) : Out :=
  .next (serve { code := 0x0A06, owner := true, len := lenIs 8, halls := needAUD,
                 fields := fun q _ => within 1 255 (q.u8 1) && decide (q.u8 0 + q.u8 1 ≤ 256)
                   && withinI (-120) (-40) (q.i8 2) && within 0 1 (q.u8 3) && within 1 1800 (q.u16 4) && zeros q 6 2 }
    (fun _ q s =>
      ((List.range (q.u8 1)).foldl (fun s i => onSilence (q.u8 0 + i) (fun d => { d with
          since := if d.thresh ≠ q.i8 2 ∨ d.hold ≠ q.u16 4 then s.time.now else d.since
          quietAt := if d.thresh ≠ q.i8 2 ∨ d.hold ≠ q.u16 4 then none else d.quietAt
          thresh := q.i8 2, hold := q.u16 4, idle := q.u8 3 == 1 }) s) s, ans .ok)) q s)

/-! ### Direct lanes -/

/-- ROUTE_LANE_GET (R212). -/
def execRouteLaneGet (q : Req) (s : State) : Out :=
  .next (report { code := 0x0A07, owner := false, report := true, len := lenIs 0 }
    (fun _ s => (List.range 8).flatMap (fun j =>
      b1 (shown 8 s (laneOf s j).st.code) ++ b1 (laneSrc s j) ++ b1 (laneSnk s j)
        ++ b1 (b2n (laneMute s j) + 2 * b2n (gainJob s (1280 + j)).isSome))) q s)

/-- ROUTE_LANE_SET (R212, R214, R215). -/
def execRouteLaneSet (q : Req) (s : State) : Out :=
  .next (serve { code := 0x0A08, owner := true, len := lenIs 8, halls := needAUD,
                 fields := fun q _ => decide (q.u8 0 < 8) && within 0 1 (q.u8 1) && gainOk (q.i16 4)
                   && within 0 1 (q.u8 6) && zeros q 7 1 }
    (fun cid q s =>
      let r := laneSet (q.u8 0) (q.u8 1 == 1) (q.u8 6 == 1) (q.u8 2) (q.u8 3) (q.i16 4) (some cid) s
      (r.1, ans r.2)) q s)

/-- LANE_AUTO_RESTART (R215): both ends run again. -/
def execLaneAutoRestart (j : Fin 8) (s : State) : Out :=
  .next (if laneMayStart s j.val && s.pwr.entry.isNone then laneStart j.val s else s)

/-- LANE_RAMP_END (R214, R215): E205 with the state reached, the command completes. -/
def execLaneRampEnd (j : Fin 8) (s : State) : Out :=
  .next (
    match (laneOf s j.val).ramp with
    | none => s
    | some (what, due) =>
      if !closed due s || !hallRuns s hAUD then s
      else
        let s := onLane j.val (fun l => { l with ramp := none }) s
        match what with
        | .start =>
          let hush := laneMute s j.val || laneGuarded s (laneOf s j.val).snk
          laneDone j.val .ok (laneTo j.val (if hush then .muted else .running) s)
        | .mute => laneDone j.val .ok (laneTo j.val .muted s)
        | .unmute => laneDone j.val .ok (laneTo j.val .running s)
        | .stop again =>
          let s := laneTo j.val .stopped s
          if again && laneMayStart s j.val then laneStart j.val s else laneDone j.val .ok s)

end Sys2Proof.Machine
end

