-- ==== Sys2Proof/Machine/SchedRows.lean ====
section
/-! DEFINITION. Meanings of the scheduler's rows (chapter 11), but for the load window, which bears on the level. -/

namespace Sys2Proof.Machine

open Sys2Proof

/-- TASK_READY (R261, R266): tasks ready in one cycle make their items in ascending index, once the entries of the tick have
fired. -/
def execTaskReady (t : Fin 960) (s : State) : Out :=
  .next (if !noneDue s || (List.range t.val).any (taskReady s) then s
    else tryReady t.val s)

/-- ITEM_DISPATCH (R270). -/
def execItemDispatch (core : Fin 8) (s : State) : Out := .next (dispatch core.val s)

/-- OPERATION_RETIRE (R271, R245): the operation at a place among those in flight ends executing. A kernel's load from
the history banks is refused with E115, path 5 (R152). -/
def execOperationRetire (op : Fin 256) (_ : Computed) (histRead : Bool) (_ : Computed) (s : State) : Out :=
  .next (
    match s.sch.ops[op.val]? with
    | some o =>
      let s' := finish op.val s
      if histRead && !o.done && o.began.isSome && dspRuns s then raise 115 5 s' else s'
    | none => s)

/-- DELAY_ENTRY_FIRE (R266): the first due entry of a list; entries of one tick fire in the list's order. -/
def execDelayEntryFire (list : Fin 4) (slot : Fin 256) (s : State) : Out :=
  .next (
    if !hallRuns s hDSP then s else
    match (listOf s list.val).find? (entryDue s list.val) with
    | some e => if e.slot = slot.val then fireEntry list.val e s else s
    | none => s)

/-- SPILL_REFILL (R273, R274). -/
def execSpillRefill (s : State) : Out := .next (refill s)

/-- TASK_HELD_RELEASE (R275). -/
def execTaskHeldRelease (s : State) : Out := .next (heldRelease s)

/-- SCHED_STATUS_GET (R281): MISSES and STEALS are cleared by the read. -/
def execSchedStatusGet (q : Req) (s : State) : Out :=
  .next (serve { code := 0x0F00, owner := false, report := true, len := lenIs 0, halls := needDSP }
    (fun _ _ s =>
      let c := s.sch
      ({ s with sch.misses := 0, sch.steals := Vector.replicate 8 0 },
       ans .ok (b1 (b2n (backPage s) + 2 * b2n (backActive s) + 4 * b2n c.draining + 8 * b2n c.drained) ++ rz 1
         ++ b2 (c.tasks.toList.filter (fun t => t.st != .free)).length ++ b2 c.store.length ++ b2 c.heldOrder.length
         ++ b2 (spillKib s) ++ b2 c.spillHigh ++ b2 c.ops.length ++ rz 2 ++ b4 c.misses
         ++ (List.range 8).flatMap (fun p => b2 (sat 16 ((c.store ++ c.spill).filter (fun i => i.prio == p)).length))
         ++ (List.range 8).flatMap (fun k => b2 (vget c.load k) ++ b1 (flightOn s k) ++ b1 (execOn s k)
              ++ b2 (c.store.filter (fun i => i.core == k)).length ++ b2 (vget c.steals k))
         ++ b4 (sampleCount s)))) q s)

/-- SCHED_HIST_READ (R281). -/
def execSchedHistRead (q : Req) (s : State) : Out :=
  .next (serve { code := 0x0F01, owner := false, report := true, len := lenIs 4, halls := needDSP,
                 fields := fun q _ => decide (q.u8 0 < 8) && within 0 1 (q.u8 1) && zeros q 2 2 }
    (fun _ q s =>
      let h := vget s.sch.hist (q.u8 0)
      (if q.u8 1 = 1 then { s with sch.hist := vset s.sch.hist (q.u8 0) (Vector.replicate 16 0) } else s,
       ans .ok (b1 (q.u8 0) ++ rz 3 ++ h.toList.flatMap b4))) q s)

def TaskState.code : TaskState → Nat
  | .free => 0 | .armed => 1 | .cancelled => 2 | .held => 3
def FlowKind.code : FlowKind → Nat
  | .unordered => 0 | .step => 1 | .flight => 2

/-- LINK of a descriptor: the entry of the lowest list and slot. -/
def taskLink (s : State) (i : Nat) : Nat :=
  match ([0, 1, 2, 3] : List Nat).findSome? (fun l =>
      ((List.range 256).find? (fun k => (listOf s l).any (fun e => e.slot == k && e.task == i))).map (fun k => (l, k))) with
  | some (l, k) => 2 ^ 15 + l * 256 + k
  | none => 0

/-- A descriptor in the layout of Table 11.1. -/
def taskBytes (s : State) (i : Nat) : List Byte :=
  let t := taskOf s i
  b2 t.flow ++ b1 (t.kind.code + 4 * b2n t.all + 8 * b2n t.consume) ++ b1 (t.prio + 16 * t.lastCore + 128 * b2n t.pinned)
    ++ b4 t.flags ++ b4 t.mask ++ b4 t.deadline ++ b2 (taskLink s i) ++ b1 t.st.code ++ b1 t.group
    ++ b1 (if t.st = .free then 0 else inPend s t) ++ b1 (if t.st = .free then 0 else outPend s t) ++ b2 t.node
    ++ b2 t.runs ++ b2 t.misses ++ b1 (sat 8 t.races) ++ b1 (min 64 (taskFlight s i)) ++ b1 t.items
    ++ b1 (sat 8 (taskQueued s i))

/-- SCHED_TASK_READ (R260). -/
def execSchedTaskRead (q : Req) (s : State) : Out :=
  .next (report { code := 0x0F80, owner := false, report := true, len := lenIs 4, halls := needDSP,
                  fields := fun q _ => within 1 7 (q.u8 2) && decide (q.u16 0 + q.u8 2 ≤ 1024) && zeros q 3 1 }
    (fun q s => q.payload ++ rz 4 ++ (List.range (q.u8 2)).flatMap (fun k => taskBytes s (q.u16 0 + k))) q s)

/-- The readinesses of a task that a cancel takes back (R278), by number: those with items owed, and those none of whose items
has been dispatched; the rest of a FLIGHT readiness of which any item is dispatched completes. -/
def cancelled (s : State) (i : Nat) : List Nat :=
  let t := taskOf s i
  let started (r : Nat) : Bool := t.kind == .flight &&
    (s.sch.ops.any (fun o => o.item.task == i && o.item.num / t.items == r)
      || decide (r = t.ret / t.items ∧ t.ret % t.items ≠ 0))
  let queued := (((s.sch.store ++ s.sch.spill).filter (fun x => x.task == i)).map (fun x => x.num / t.items)).eraseDups
  queued.filter (fun r => !started r) ++ (List.range t.owed).map (fun k => t.made - 1 - k)

/-- What a list of the latest readinesses, newest first, keeps when some are taken back. -/
def latestLeft (made : Nat) (gone l : List Nat) : List Nat :=
  ((List.range l.length).zip l).filterMap (fun x => if gone.contains (made - 1 - x.1) then none else some x.2)

/-- CANCEL (R278, R279), once the entries of the tick have fired: undispatched items go, and those of later readinesses move up
in their flow; the second component is the race, whose readiness is not taken. -/
def cancelTask (i : Nat) (s : State) : State × Bool :=
  let s := fireDue s
  let race := taskReady s i
  let t := taskOf s i
  let gone := cancelled s i
  let goes (x : Item) : Bool := x.task == i && gone.contains (x.num / t.items)
  let up (x : Item) : Item :=
    if x.task = i then { x with num := x.num - t.items * (gone.filter (fun r => decide (r < x.num / t.items))).length } else x
  let s := onTask i (fun t => { t with
      st := .cancelled, made := t.made - gone.length, owed := 0
      frames := latestLeft t.made gone t.frames, stamps := latestLeft t.made gone t.stamps })
    { s with
      sch.store := (s.sch.store.filter (fun x => !goes x)).map up
      sch.spill := (s.sch.spill.filter (fun x => !goes x)).map up
      sch.ops := s.sch.ops.map (fun o => { o with item := up o.item })
      sch.heldOrder := s.sch.heldOrder.filter (fun k => k != i) }
  let s := spillLess s
  if race then (raise 214 i (onTask i (fun t => { t with races := satAdd 255 t.races 1 }) s), true) else (s, false)

/-- SET_WAIT keeps the rule for graph tasks: bits only added, ALL and CONSUME kept. -/
def setWaitOk (t : Task) (q : Req) : Bool :=
  (q.u32 4 &&& t.baseMask) == t.baseMask && (q.u8 3).testBit 0 == t.all && (q.u8 3).testBit 1 == t.consume

/-- SCHED_TASK_CONTROL (R277 to R279): a field that the OP does not use must be 0. -/
def execSchedTaskControl (q : Req) (s : State) : Out :=
  .next (serve { code := 0x0F81, owner := true, len := lenIs 16, halls := needDSP,
                 fields := fun q s =>
                   let op := q.u8 2
                   decide (q.u16 0 < 960 ∧ op ≤ 5) && (taskOf s (q.u16 0)).st != .free
                     && decide (q.u8 3 < 4) && (op == 2 || (q.u8 3 == 0 && q.u32 4 == 0))
                     && (op == 3 || op == 4 || q.u32 8 == 0) && (if op = 5 then decide (q.u8 12 < 64) else q.u8 12 == 0)
                     && zeros q 13 3 && (op != 2 || setWaitOk (taskOf s (q.u16 0)) q) }
    (fun _ q s =>
      let i := q.u16 0
      let before := (taskOf s i).st
      let r : State × Bool := match q.u8 2 with
        | 0 => cancelTask i s
        | 1 => (tryReady i (onTask i (fun t => { t with st := .armed }) s), false)
        | 2 => (tryReady i (onTask i (fun t => { t with mask := q.u32 4 }) s), false)
        | 3 => (tryReady i (onTask i (fun t => { t with flags := t.flags ||| q.u32 8 }) s), false)
        | 4 => (tryReady i (onTask i (fun t => { t with flags := t.flags &&& (0xFFFFFFFF ^^^ q.u32 8) }) s), false)
        | _ => (onTask i (fun t => { t with group := q.u8 12 }) s, false)
      let t := taskOf r.1 i
      (r.1, ans .ok (b1 before.code ++ b1 t.st.code ++ b1 (b2n r.2) ++ rz 1 ++ b4 t.flags))) q s)

/-- DUE of a SCHED_DELAY_SET in the list's units: a 32-bit SAMPLE count less than half its range ahead lies ahead. -/
def dueOf (s : State) (l : Nat) (due : Nat) : Nat :=
  if listTick s l = 0 then
    let now := sampleCount s
    let ahead := (due + 2 ^ 32 - now % 2 ^ 32) % 2 ^ 32
    if ahead < 2 ^ 31 then now + ahead else now - (2 ^ 32 - ahead)
  else due

/-- Stamp of the first tick of a list at or after `due` and after the latest tick. -/
def fireStamp (s : State) (l due : Nat) : Nat :=
  let k := listTick s l
  if k = 0 then tickTu s (max due (sampleCount s + 1) + s.gra.fhSince) - s.time.start
  else max (cdiv due k * k) (devTime s / k * k + k)

/-- SCHED_DELAY_SET (R266, R267). -/
def execSchedDelaySet (q : Req) (s : State) : Out :=
  .next (serve { code := 0x0F82, owner := true, len := lenIs 24, halls := needDSP,
                 fields := fun q s =>
                   let l := q.u8 1
                   within 0 1 (q.u8 0) && within 1 3 l && decide (q.u8 2 < 32) && zeros q 6 2 && zeros q 20 4
                     && (if q.u8 0 = 1 then (listOf s l).any (fun e => e.slot == q.u8 3)
                         else q.u8 3 == 0 && decide (q.u16 4 < 960) && (taskOf s (q.u16 4)).st != .free
                           && (q.u32 16 == 0 || decide (max 1 (listTick s l) ≤ q.u32 16))
                           && (listTick s l != 0 || decide (q.u64 8 < 2 ^ 32))) }
    (fun _ q s =>
      let l := q.u8 1
      if q.u8 0 = 1 then
        (onList l (fun es => es.filter (fun e => e.slot != q.u8 3)) s, ans .ok (b1 (q.u8 3) ++ rz 3 ++ b8 0))
      else match freeSlot (listOf s l) with
        | none => (s, ans .busy)
        | some k =>
          let due := dueOf s l (q.u64 8)
          let tick := tickNow s l
          let late := if listTick s l = 0 then decide (due ≤ tick) else decide (cdiv due (listTick s l) * listTick s l ≤ devTime s)
          let e : DelayEntry := { slot := k, task := q.u16 4, bit := q.u8 2, due := due, period := q.u32 16
                                  notBefore := tick + 1 }
          (onList l (insertEntry e) s,
           { status := .ok, flags := 128 * b2n late, payload := b1 k ++ rz 3 ++ b8 (fireStamp s l due) })) q s)

end Sys2Proof.Machine
end

