-- ==== Sys2Proof/Machine/SilenceRows.lean ====
section
/-! DEFINITION. Meanings of the silence rows (chapter 08) and the automatic power-down of analog outputs (R392). -/

namespace Sys2Proof.Machine

open Sys2Proof

/-- Output `i` is watched: named in ANA_AUTO and not under jack control (R392, R134). -/
def anaWatched (s : State) (i : Nat) : Bool := (anaAuto s).testBit i && !(isHp i && hpCtrl s != 0)

/-- Every watched point of an output is SILENT: the output runs its shut-down, AUTO_STOPPED. -/
def anaAutoOff (s : State) : State :=
  let l := [0, 1, 2, 3, 4, 5].filter (fun i => anaWatched s i && (fnOf s i).st == .on && sinkSilent s i)
  if l.isEmpty then s
  else laneFollow (l.foldl (fun s i => onFn i (fun f => { f with autoStopped := true }) (disableFn i s)) s)

/-- Sound at point `p`: the outputs that stopped on silence start again; one whose grant is refused stays stopped
until the next E202. -/
def anaAutoOn (p : Nat) (s : State) : State :=
  let l := [0, 1, 2, 3, 4, 5].filter (fun i => let f := fnOf s i
    f.autoStopped && (f.st == .off || f.st == .shuttingDown) && (watchedPoints s i).contains p && !s.pwr.shut)
  l.foldl (fun s i => onFn i (fun f => { f with autoStopped := true }) s) (enableSet l none 4 s).1

/-- The end of the silence window of a point (R210). -/
def silenceEnd (d : Silence) : Option Nat := d.quietAt.map (fun t => t + 24576000 * d.hold)

/-- The silence window of a point closes: SILENT, E201, and what silence powers down (R210, R310, R392). -/
def silenceClose (p : Nat) (s : State) : State :=
  anaAutoOff (autoOff (raise 201 p (onSilence p (fun d => { d with silent := true }) s)))

/-- Silence windows whose end has come (R82, R210). -/
def silencesClose (s : State) : State :=
  ((List.range 256).filter (fun p => !(silenceOf s p).silent && closedO (silenceEnd (silenceOf s p)) s)).foldl
    (fun s p => silenceClose p s) s

/-- Sound ends SILENT: E202, and what it powers up (R210, R211, R310, R392). -/
def silenceOver (p : Nat) (s : State) : State :=
  let d := silenceOf s p
  if !d.silent then s
  else
    let s := onSilence p (fun d => { d with silent := false }) s
    let s := if d.idle then { s with pwr.lastActivity := s.time.now } else s
    anaAutoOn p (autoOn p (raise 202 p s))

/-- A point's detector sees a sample (R210): the first quiet one opens the window, one that is not quiet ends it. -/
def silenceSee (p : Nat) (s : State) : State :=
  let d := silenceOf s p
  if quietSample d.thresh (vget s.fab.src p) then
    if d.quietAt.isSome then s else onSilence p (fun d => { d with quietAt := some s.time.now }) s
  else silenceOver p (onSilence p (fun d => { d with quietAt := none }) s)

/-- The detectors of the 256 source points see the samples of a fabric tick. -/
def silencesSee (s : State) : State := (List.range 256).foldl (fun s p => silenceSee p s) s

/-- SILENCE_START (R210): the window that opened with the quiet sample at `first` closes. -/
def execSilenceStart (p : Fin 256) (first : Nat) (s : State) : Out :=
  .next (
    let d := silenceOf s p.val
    if !d.silent && hallRuns s hAUD && d.quietAt == some first && closedO (silenceEnd d) s then silenceClose p.val s else s)

/-- SILENCE_END (R210, R211): the present sample is the first that is not quiet; a window that ends at this tu has closed
before it (R82). -/
def execSilenceEnd (p : Fin 256) (s : State) : Out :=
  .next (if hallRuns s hAUD && !quietSample (silenceOf s p.val).thresh (vget s.fab.src p.val)
    then silenceSee p.val (silencesClose s) else s)

end Sys2Proof.Machine
end

