-- ==== Sys2Proof/Machine/SvcRows.lean ====
section
/-! DEFINITION. Meanings of the service rows (chapter 17). -/

namespace Sys2Proof.Machine

open Sys2Proof

/-- SOURCE_MACHINE_EVAL (R402): every 1 ms; a timer whose window has closed latches first (R82). -/
def execSourceMachineEval (_lost : Computed) (s : State) : Out :=
  .next (if active s && s.boot.ready && devTime s % tuPerMs == 0 then srcEvaluate (srcTimer s) else s)

/-- SOURCE_STATE_TIMER (R402): the timer latches TIMER. -/
def execSourceStateTimer (s : State) : Out :=
  .next (if !hallRuns s hCTRL then s else srcTimer s)

/-- VOLUME_CAP_UPDATE (R405): every 100 ms, from the mean of the supply. -/
def execVolumeCapUpdate (_mv : Computed) (s : State) : Out :=
  .next (if active s && volEn s && closed s.svc.capAt s then
      capUpdate { s with svc.capAt := s.time.now + 2457600 } else s)

/-- SORREL_STEP_END (Table 17.5). -/
def execSorrelStepEnd (s : State) : Out := .next (if !hallRuns s hCTRL then s else sorrelStep s)

/-- SORREL_ANALYSIS_DONE (R409): the analysis of a channel ends. -/
def execSorrelAnalysisDone (_ _ _ _ _ : Computed) (s : State) : Out :=
  .next (if !hallRuns s hCTRL then s else sorrelAnalysed s)

/-- The cap is in force: it works and holds G_eff below the volume's gain. -/
def capInForce (s : State) : Bool := volEn s && capWorks s && s.svc.cap.isSome

/-- SVC_STATUS_GET. -/
def execSvcStatusGet (q : Req) (s : State) : Out :=
  .next (report { code := 0x1500, owner := false, report := true, len := lenIs 0 }
    (fun _ s =>
      let c := s.svc
      b1 c.state ++ b1 c.source ++ b1 (maskOf ((List.range 8).map (srcActive s)))
        ++ b1 (maskOf [srcManual s, srcUser s, c.hpInUse, capInForce s, c.sorrel.isSome])
        ++ i2 c.vol ++ i2 c.volHp ++ i2 (c.gEff.getD c.vol)
        ++ (if capInForce s then i2 ((c.cap.getD 0).floor) else b2 0x7FFF)
        ++ b1 (match c.sorrel with | some r => r.left.headD 0xFF | none => 0xFF) ++ rz 3) q s)

/-- SVC_SOURCE_SELECT (R404). -/
def execSvcSourceSelect (q : Req) (s : State) : Out :=
  .next (serve { code := 0x1501, owner := true, len := lenIs 4, halls := needAUD,
                 fields := fun q _ => within 0 1 (q.u8 0) && within 0 8 (q.u8 1) && zeros q 2 2 }
    (fun cid q s =>
      let k := q.u8 1
      if !srcEn s then (s, ans .notReady)
      else if q.u8 0 = 0 then
        ({ s with svc.page1500 := Page.put s.svc.page1500 30 1 0, svc.restart := s.svc.restart || srcManual s }, ans .ok)
      else if k < 8 ∧ ¬ srcDef s k then (s, ans .badParam)
      else if k < 8 ∧ (srcPoints s k).all (sourceRetired s) then (s, ans .retired)
      else
        let s := { s with svc.page1500 := Page.put s.svc.page1500 30 1 1 }
        if s.svc.select.isNone && s.svc.source == k then (s, ans .ok)
        else (srcSelect k (some cid) s, ans .pending)) q s)

/-- The volume a request asks for; none where an absolute one lies out of range. -/
def volAsked (q : Req) (s : State) : Option Int :=
  let v := q.i16 2
  if q.u8 1 = 0 then (if gainOk v && decide (v ≤ volMax s) then some v else none)
  else
    let old := if q.u8 0 = 0 then s.svc.vol else s.svc.volHp
    some (max (-2400) (min (volMax s) (max (-2400) old + v)))

/-- SVC_VOLUME_SET (R405, R406): a newer change supersedes one that waits. -/
def execSvcVolumeSet (q : Req) (s : State) : Out :=
  .next (serve { code := 0x1502, owner := true, len := lenIs 4,
                 fields := fun q s => within 0 1 (q.u8 0) && within 0 1 (q.u8 1) && (volAsked q s).isSome }
    (fun cid q s =>
      if !volEn s then (s, ans .notReady)
      else
        let w := q.u8 0
        let v := (volAsked q s).getD 0
        let resp := i2 v ++ rz 2
        let s := if w = 0 then { s with svc.vol := v } else { s with svc.volHp := v }
        let olds := s.svc.waits.filter (fun x => x.1 == w)
        let s := completeAll (olds.map (fun x => x.2)) .superseded
          { s with svc.waits := s.svc.waits.filter (fun x => x.1 != w) ++ [(w, cid)] }
        let n := s.gra.writes.length
        let s := volFollow (some (w, cid)) s
        if (s.gra.writes.drop n).any (fun x => x.cid == some cid) then (s, ans .pending resp) else (s, ans .ok resp)) q s)

/-- The capture banks are free for a run (R407). -/
def captureFree (s : State) : Bool :=
  let banks := 3 * 2 ^ sorBank s
  let used := match s.gra.image with
    | some im => maskOf ((List.range 33).map (fun b => ((imagePlaces im).flatMap placeBanks).contains b))
    | none => 0
  banks &&& (used ||| historyMask s ||| spillMask s ||| keepMask s) == 0

/-- R407 lets a run with this mask start. -/
def sorrelOk (mask : Nat) (s : State) : Bool :=
  match svcNode s 13 (sorTone s), svcNode s 3 (sorMix s), svcNode s 4 (sorEq s) with
  | some _, some m, some e =>
    (maskList mask 16).all (fun c => decide (c < m.nout ∧ c < e.u8 0))
      && decide ((sorDurMs s + 300) * fhHz s ≤ 131072 * 1000) && decide (100 * sorF1 s < 45 * fhHz s)
      && e.u8 2 == 1 && decide (sorSections s ≤ e.u8 1) && captureFree s
  | _, _, _ => false

/-- SVC_SORREL_START (R407, R408). -/
def execSvcSorrelStart (q : Req) (s : State) : Out :=
  .next (serve { code := 0x1503, owner := true, len := lenIs 4, halls := fun _ => 0xC,
                 fields := fun q _ => decide (q.u16 0 ≠ 0) && zeros q 2 2 }
    (fun cid q s =>
      if s.gra.image.isNone then (s, ans .notReady)
      else if s.svc.sorrel.isSome || s.pwr.entry.isSome then (s, ans .busy)
      else if !sorrelOk (q.u16 0) s then (s, ans .badParam)
      else
        let saved := [volNode s, volHpNode s].filterMap (fun n => (svcNode s 2 n).map (fun x => (n, x.param)))
        let run : SorrelRun := {
          mask := q.u16 0, left := maskList (q.u16 0) 16, step := 1, saved := saved, cid := some cid }
        let s := { s with svc.sorrel := some run, svc.results := Vector.replicate 16 none }
        (sorrelNext 17 { s with gra.banks := banksNeeded s }, ans .pending (rz 16))) q s)

/-- SVC_SORREL_STOP (R410). -/
def execSvcSorrelStop (q : Req) (s : State) : Out :=
  .next (serve { code := 0x1504, owner := true, len := lenIs 0 } (fun _ _ s => (sorrelAbort s, ans .ok)) q s)

/-- SVC_SORREL_READ (R409, R411). -/
def execSvcSorrelRead (q : Req) (s : State) : Out :=
  .next (serve { code := 0x1505, owner := false, report := true, len := lenIs 4,
                 fields := fun q _ => within 0 15 (q.u8 0) && zeros q 1 3 }
    (fun _ q s =>
      match vget s.svc.results (q.u8 0) with
      | none => (s, ans .notReady)
      | some r =>
        let n := if r.result = 0 then min 8 (r.sections.length / 20) else 0
        (s, ans .ok (b1 r.result ++ b1 n ++ b2 (sat 16 r.residual) ++ b4 (sat 32 r.delay) ++ b2 (sat 16 r.snr) ++ rz 2
          ++ r.sections.take (20 * n)))) q s)

end Sys2Proof.Machine
end

