-- ==== Sys2Proof/Machine/Pages.lean ====
section
/-! DEFINITION. Parameter pages as shared operations (R54, R470): the pages there are, their live contents, the checks of
their fields (R5, R6, Table 0.3), and what an APPLY does, page by page. -/

namespace Sys2Proof.Machine

open Sys2Proof

/-! ### The pages -/

/-- Size in bytes and live contents of a page; none for an unknown one. -/
def pageLive (s : State) (id : Nat) : Option (Nat × Nat) :=
  if 0x0900 ≤ id ∧ id < 0x0962 then some (8, (chainOf s (id - 0x0900)).page.toNat)
  else if 0x0A01 ≤ id ∧ id < 0x0A05 then some (12, (landOf s (id - 0x0A01)).page.toNat)
  else if 0x0C00 ≤ id ∧ id < 0x0C06 then some (4, (tdmOf s (id - 0x0C00)).page.toNat)
  else if 0x1000 ≤ id ∧ id < 0x1018 then some (16, (drvOf s (id - 0x1000)).page.toNat)
  else if 0x1020 ≤ id ∧ id < 0x1026 then some (8, (grpOf s (id - 0x1020)).page.toNat)
  else match id with
    | 0x0400 => some (24, s.clk.page.toNat)
    | 0x0500 => some (16, s.ana.page0500.toNat)
    | 0x0501 => some (12, s.ana.page0501.toNat)
    | 0x0600 => some (8, s.ana.page0600.toNat)
    | 0x0700 => some (8, s.mic.page0700.toNat)
    | 0x0800 => some (12, s.mic.page0800.toNat)
    | 0x0A00 => some (4, s.fab.page0A00.toNat)
    | 0x0A10 => some (64, s.fab.page0A10.toNat)
    | 0x0D00 => some (8, s.tdm.page0D00.toNat)
    | 0x0F00 => some (16, s.sch.page0F00.toNat)
    | 0x0F01 => some (256, s.sch.page0F01.toNat)
    | 0x1100 => some (4, s.prot.page1100.toNat)
    | 0x1200 => some (12, s.ring.page.toNat)
    | 0x1300 => some (32, s.hk.page1300.toNat)
    | 0x1301 => some (16, s.hk.page1301.toNat)
    | 0x1302 => some (192, s.hk.page1302.toNat)
    | 0x1400 => some (20, s.pwr.page1400.toNat)
    | 0x1401 => some (36, s.pwr.page1401.toNat)
    | 0x1500 => some (40, s.svc.page1500.toNat)
    | 0x1501 => some (20, s.svc.page1501.toNat)
    | 0x1502 => some (24, s.svc.page1502.toNat)
    | 0x1600 => some (4, s.boot.page1600.toNat)
    | _ => none

/-- Bits that a write leaves as they are (RO). -/
def pageRo (id : Nat) : Nat :=
  if 0x091A ≤ id ∧ id < 0x094A then 2 ^ 8
  else match id with
    | 0x0600 => 2 ^ 3 + 2 ^ 35
    | 0x1302 => ((List.range 8).map (fun k => 0xFFFF * 2 ^ (64 * (16 + k) + 48))).foldl (· + ·) 0
    | 0x1500 => 2 ^ 29
    | _ => 0

/-! ### Field checks -/

/-- A field in a range. -/
def fin_ (v start len lo hi : Nat) : Bool := within lo hi (bitsAt v start len)
/-- Reserved fields, each as start and width. -/
def rsv (v : Nat) (l : List (Nat × Nat)) : Bool := l.all (fun f => bitsAt v f.1 f.2 == 0)
/-- A field in a range, or a value that means none. -/
def finOr (v start len lo hi none_ : Nat) : Bool := fin_ v start len lo hi || bitsAt v start len == none_
/-- Trigger fields of Tables 15.3 and 15.4: SRC_SEL in range for the source. -/
def trigSrcOk (trig src : Nat) : Bool :=
  match trig with | 1 => decide (src < 6) | 2 => decide (src < 24) | 4 => decide (src < 4) | _ => true

def okClk (v : Nat) : Bool :=
  rsv v [(25, 7), (5, 7), (48, 16), (34, 6), (94, 1), (126, 1), (158, 1), (190, 1)]
    && fin_ v 16 9 10 500 && fin_ v 0 5 0 16 && finOr v 40 8 0 23 0xFF

def okAin (s : State) (v : Nat) : Bool :=
  [0, 1, 2, 3].all (fun k => rsv v [(32 * k, 18)] && fin_ v (32 * k + 24) 7 0 84
    && rateInFamily (famOf s) (bitsAt v (32 * k + 18) 4))

def okOut (v : Nat) : Bool :=
  rsv v [(16, 16), (34, 30), (88, 8), (68, 12)] && fin_ v 8 8 1 100 && fin_ v 0 8 5 200 && fin_ v 32 2 0 2
    && fin_ v 84 4 0 10 && fin_ v 80 4 0 10 && fin_ v 66 2 0 2 && fin_ v 64 2 0 2

def okJack (v : Nat) : Bool :=
  rsv v [(16, 16), (4, 4), (48, 16), (36, 4)] && fin_ v 8 8 1 255 && fin_ v 40 8 1 255

def okMic (v : Nat) : Bool := rsv v [(48, 16), (33, 2)] && fin_ v 40 8 1 100 && fin_ v 35 5 0 20

def okWake (v : Nat) : Bool :=
  rsv v [(28, 3), (56, 8), (88, 8), (67, 5)] && fin_ v 24 4 1 15 && fin_ v 20 4 1 4 && fin_ v 16 4 1 10 && fin_ v 8 8 3 30
    && fin_ v 0 8 1 60 && fin_ v 48 8 1 50 && fin_ v 40 8 1 60 && fin_ v 32 8 0 19 && finOr v 80 8 0 7 0xFF
    && fin_ v 72 8 0 30 && bitsAt v 72 8 % 2 == 0
    && decide (bitsAt v 20 4 ≤ (maskList (bitsAt v 24 4) 4).length)

def okChain (c v : Nat) : Bool := rsv v [(24, 8), (9, 1), (0, 8)] && (isSense c || rsv v [(32, 32)])

def okDomain (v : Nat) : Bool := rsv v [(26, 6), (9, 7)] && fin_ v 16 8 1 64 && fin_ v 0 9 0 256

def okLand (v : Nat) : Bool :=
  rsv v [(28, 1), (0, 24)] && (if v.testBit 31 then fin_ v 24 4 1 8 else fin_ v 24 4 0 8)

def okLanes (v : Nat) : Bool :=
  (List.range 8).all (fun j => rsv v [(64 * j + 24, 6), (64 * j, 8), (64 * j + 48, 16)]
    && gainOk (signedOf 16 (bitsAt v (64 * j + 32) 16)))

def okTdm (s : State) (n v : Nat) : Bool :=
  rsv v [(3, 25)] && decide (bitsAt v 0 3 < (tdmOf s n).formats.length) && !(v.testBit 30 && tdmIsRef s n)

def okSpdif (v : Nat) : Bool :=
  rsv v [(0, 4), (8, 4), (48, 8)] && fin_ v 24 8 0 5 && fin_ v 16 8 0 30 && fin_ v 40 8 0 5 && fin_ v 32 8 0 30
    && fin_ v 60 2 0 2 && fin_ v 56 4 5 11

/-- The spill area of a page 0x0F00 touches no region of the image in force, no history bank and not bank 31 (R282). -/
def spillOk (s : State) (v : Nat) : Bool :=
  let first := bitsAt v 16 5
  let n := bitsAt v 8 3
  let mask := (2 ^ n - 1) * 2 ^ first
  let used := match s.gra.image with
    | some im => maskOf ((List.range 33).map (fun b => ((imagePlaces im).flatMap placeBanks).contains b))
    | none => 0
  decide (first + n ≤ 32) && mask &&& (used ||| historyMask s ||| 2 ^ 31) == 0

def okSched (s : State) (v : Nat) : Bool :=
  rsv v [(21, 10), (11, 5), (48, 16), (80, 16), (112, 16)] && fin_ v 8 3 0 4 && fin_ v 0 8 0 200 && spillOk s v
    && [1, 2, 3].all (fun j => finOr v (32 * j) 16 25 24576 0)

def okGroups (v : Nat) : Bool := (List.range 256).all (fun n => rsv v [(8 * n + 6, 2)])

def okDrive (v : Nat) : Bool :=
  rsv v [(16, 2), (35, 5), (96, 8)] && fin_ v 29 2 0 2 && fin_ v 27 2 0 2 && fin_ v 8 8 1 100 && fin_ v 0 8 0 127
    && fin_ v 56 8 10 196 && fin_ v 48 8 0 40 && fin_ v 40 8 0 31 && fin_ v 32 3 0 6 && fin_ v 80 16 100 6000
    && fin_ v 64 16 100 6000 && fin_ v 112 16 1 10000 && finOr v 104 8 0 23 0xFF
    && (bitsAt v 40 8 == 0 || bitsAt v 27 2 == 2)

def okGroup (v : Nat) : Bool :=
  rsv v [(16, 10), (48, 16)] && fin_ v 0 16 3000 60000 && fin_ v 40 8 1 200

def okProt (v : Nat) : Bool := rsv v [(16, 13), (5, 3)] && fin_ v 8 8 1 100 && fin_ v 0 5 0 16

def okRing (v : Nat) : Bool :=
  rsv v [(0, 12), (32, 8), (64, 20)] && fin_ v 12 12 0 4094 && fin_ v 48 16 20 2000 && fin_ v 40 8 16 255

def okHk (v : Nat) : Bool :=
  rsv v [(18, 3), (57, 7), (64, 8), (224, 16)] && fin_ v 29 2 0 2 && fin_ v 24 5 1 16 && fin_ v 21 3 0 4 && fin_ v 16 2 1 3
    && trigSrcOk (bitsAt v 21 3) (bitsAt v 8 8) && fin_ v 32 25 24 24576000 && fin_ v 80 16 1000 1800
    && fin_ v 72 8 1 100 && fin_ v 248 8 0 150 && fin_ v 240 8 1 20
    && (List.range 16).all (fun k => rsv v [(96 + 8 * k + 5, 1)] && fin_ v (96 + 8 * k) 5 0 23)

def okSlots (v : Nat) : Bool :=
  [0, 1, 2, 3].all (fun k =>
    let w := bitsAt v (32 * k) 32
    rsv w [(5, 3)] && fin_ w 28 3 1 4 && fin_ w 24 2 1 3 && fin_ w 0 5 0 23 && trigSrcOk (bitsAt w 28 3) (bitsAt w 16 8))

def okChannels (v : Nat) : Bool :=
  (List.range 24).all (fun c =>
    let w := bitsAt v (64 * c) 64
    rsv w [(0, 1), (32, 16)] && decide (bitsAt w 8 12 ≤ bitsAt w 20 12) && (decide (16 ≤ c) || fin_ w 48 16 100 10000))

def okPower (s : State) (v : Nat) : Bool :=
  rsv v [(6, 7), (34, 6), (144, 16)] && fin_ v 28 3 0 4 && fin_ v 25 3 0 4 && finOr v 22 3 0 4 7 && fin_ v 48 16 1 36000
    && fin_ v 40 8 5 255 && fin_ v 32 2 1 3 && fin_ v 112 16 150 3000 && fin_ v 104 8 80 130 && fin_ v 96 8 100 150
    && fin_ v 128 16 10 1000 && decide (bitsAt v 28 3 ≤ bitsAt v 25 3) && decide (bitsAt v 104 8 < bitsAt v 96 8)
    && decide ((maskList (bitsAt v 64 32) 32).length ≤ (if swEn s then 6 else 8))

def okTerms (v : Nat) : Bool :=
  (List.range 9).all (fun k => rsv v [(32 * k + 16, 13)] && fin_ v (32 * k) 16 1 60000)

def okSource (v : Nat) : Bool :=
  rsv v [(16, 13), (0, 4), (41, 7)] && fin_ v 8 8 0 127 && fin_ v 4 4 1 8 && fin_ v 48 16 10 10000 && fin_ v 32 9 0 256
    && (List.range 8).all (fun k =>
      let w := bitsAt v (64 + 32 * k) 32
      rsv w [(28, 2)] && fin_ w 24 4 1 8 && decide (bitsAt w 16 8 + bitsAt w 24 4 ≤ 256) && gainOk (signedOf 16 (bitsAt w 0 16)))

/-- A node field names no node, or one of a type in the image in force. -/
def nodeFieldOk (s : State) (ty n : Nat) : Bool := n == 0xFFFF || s.gra.image.isNone || (svcNode s ty n).isSome

def okVolume (s : State) (v : Nat) : Bool :=
  rsv v [(16, 13), (128, 24)] && withinI (-2400) 480 (signedOf 16 (bitsAt v 96 16)) && fin_ v 152 8 1 100
    && nodeFieldOk s 2 (bitsAt v 80 16) && nodeFieldOk s 2 (bitsAt v 64 16) && nodeFieldOk s 9 (bitsAt v 112 16)

def okSorrel (v : Nat) : Bool :=
  rsv v [(152, 4), (160, 16)] && fin_ v 32 8 0 30 && bitsAt v 32 8 % 2 == 0 && fin_ v 80 16 20 1000
    && fin_ v 64 16 2000 20000 && fin_ v 112 16 500 2430 && withinI (-600) 0 (signedOf 16 (bitsAt v 96 16))
    && fin_ v 156 4 1 8 && fin_ v 144 8 0 120 && fin_ v 136 8 0 200 && withinI (-30) 30 (signedOf 8 (bitsAt v 128 8))
    && fin_ v 176 16 0 50000

def okFlash (v : Nat) : Bool := rsv v [(8, 22)] && fin_ v 0 8 3 32

/-- Reserved fields zero and fields in range, once APPLY is given (R5, R6). -/
def pageOk (s : State) (id v : Nat) : Bool :=
  if 0x0900 ≤ id ∧ id < 0x0962 then okChain (id - 0x0900) v
  else if 0x0A01 ≤ id ∧ id < 0x0A05 then okLand v
  else if 0x0C00 ≤ id ∧ id < 0x0C06 then okTdm s (id - 0x0C00) v
  else if 0x1000 ≤ id ∧ id < 0x1018 then okDrive v
  else if 0x1020 ≤ id ∧ id < 0x1026 then okGroup v
  else match id with
    | 0x0400 => okClk v
    | 0x0500 => okAin s v
    | 0x0501 => okOut v
    | 0x0600 => okJack v
    | 0x0700 => okMic v
    | 0x0800 => okWake v
    | 0x0A00 => okDomain v
    | 0x0A10 => okLanes v
    | 0x0D00 => okSpdif v
    | 0x0F00 => okSched s v
    | 0x0F01 => okGroups v
    | 0x1100 => okProt v
    | 0x1200 => okRing v
    | 0x1300 => okHk v
    | 0x1301 => okSlots v
    | 0x1302 => okChannels v
    | 0x1400 => okPower s v
    | 0x1401 => okTerms v
    | 0x1500 => okSource v
    | 0x1501 => okVolume s v
    | 0x1502 => okSorrel v
    | 0x1600 => okFlash v
    | _ => false

/-! ### Parts of an APPLY -/

/-- One part of an APPLY: its effect and its status. -/
abbrev Part := State → State × Status

/-- Parts taken in order: a status other than OK and PENDING ends them; else the number of parts that complete later. -/
def runParts : List Part → Nat → State → State × Status × Nat
  | [], n, s => (s, .ok, n)
  | p :: l, n, s =>
    let r := p s
    if r.2 = .ok then runParts l n r.1
    else if r.2 = .pending then runParts l (n + 1) r.1
    else (r.1, r.2, n)

/-- An APPLY in parts completes with its last part; one that is refused has no effect (R470). -/
def inParts (cid : Nat) (l : List Part) (s : State) : State × Status :=
  let r := runParts l 0 s
  if r.2.1 ≠ .ok then (s, r.2.1)
  else if r.2.2 = 0 then (r.1, .ok)
  else if r.2.2 = 1 then (r.1, .pending)
  else ({ r.1 with own.joint := r.1.own.joint ++ [(cid, r.2.2 - 1)] }, .pending)

/-- A part that takes effect at once. -/
def atOnce (f : State → State) : Part := fun s => (f s, .ok)
/-- A part that is refused where a condition fails. -/
def unless_ (bad : Bool) (st : Status) (p : Part) : Part := fun s => if bad then (s, st) else p s
/-- A part that only acts where a field changed. -/
def onChange (changed : Bool) (p : Part) : Part := fun s => if changed then p s else (s, .ok)

/-! ### Clocks (R112) -/

/-- The GPIO a page newly names for an input is in output use (R467). -/
def gpioTaken (s : State) (old new : Nat) : Bool := new != old && decide (new < 24) && gpioOutUse s new

def applyClk (old v cid : Nat) (s : State) : State × Status :=
  let word := bitsAt v 0 32
  let ref := bitsAt v 0 5
  let fam := differ old v 12 1
  let sel := differ old v 0 5 || differ old v 13 2 || differ old v 15 1
  let now (s : State) : State :=
    { s with clk.page := Page.put (Page.put s.clk.page 16 9 (bitsAt v 16 9)) 32 32 (bitsAt v 32 32) }
  let outs : List Part := [0, 1, 2, 3].map (fun k =>
    onChange (differ old v (64 + 32 * k) 32) (fun s => outAsk k (bitsAt v (64 + 32 * k) 32) cid s))
  let last : Part := fun s =>
    if fam then clkFamily ref cid word s else if sel then clkSelect ref (v.testBit 15) cid (some word) s else (s, .ok)
  inParts cid ([unless_ (gpioTaken s (bitsAt old 40 8) (bitsAt v 40 8)) .busy (atOnce now)] ++ outs ++ [last]) s

/-! ### Analog, jacks, microphones -/

/-- One line input: GAIN switches at the next sample; EN, IMPED and RATE act as ANA_IN_SET. -/
def applyLine (old v k : Nat) (s : State) : State :=
  let f (start len : Nat) : Nat := bitsAt v (32 * k + start) len
  let s := if differ old v (32 * k + 24) 7 then
      onLine k (fun l => { l with gain := f 24 7, target := f 24 7, stepEnd := none })
        (putAin k (b2n (ainEn s k)) (f 24 7) (ainImped s k) (ainRate s k) s)
    else s
  if differ old v (32 * k + 31) 1 || differ old v (32 * k + 18) 6 then
    lineSet k (f 31 1) (f 24 7) (f 22 2) (f 18 4) s
  else s

def applyAin (old v : Nat) (s : State) : State × Status :=
  ([0, 1, 2, 3].foldl (fun s k => applyLine old v k s) s, .ok)

/-- A control field may change only while every function it names is OFF (Table 5.12). -/
def applyOut (old v : Nat) (s : State) : State × Status :=
  let off (l : List Nat) : Bool := l.all (fun i => (fnOf s i).st == .off)
  if (differ old v 32 2 && !off [4, 5, 6]) || (differ old v 64 2 && !off [7]) || (differ old v 66 2 && !off [8]) then
    (s, .busy)
  else ({ s with ana.page0501 := BitVec.ofNat 96 v }, .ok)

/-- A change of EN or POL is taken with a new debounce window from the level present. -/
def applyJack (old v : Nat) (s : State) : State × Status :=
  let s := { s with ana.page0600 := BitVec.ofNat 64 v }
  ([0, 1].foldl (fun s k =>
    if differ old v (32 * k) 2 then
      onJack k (fun j => { j with
        window := if jdEn s k then some (s.time.now + msTu (jdDebounce s k), j.level) else none }) s
    else s) s, .ok)

/-- EN acts as MIC_ENABLE, G0_MODE under R159, the rest from the next channel start (R160), FAULT_EN bit by bit. -/
def applyMic (old v cid : Nat) (s : State) : State × Status :=
  let was := bitsAt old 16 16
  let want := bitsAt v 16 16
  let on := maskOf ((List.range 16).map (fun m => want.testBit m && !was.testBit m))
  let off := maskOf ((List.range 16).map (fun m => !want.testBit m && was.testBit m))
  if (maskList (on + off) 16).any (fun m => (micOf s m).st == .retired) then (s, .retired)
  else
    let s := lateOvertaken s.mic.late0700 s
    let s := { s with mic.page0700 := BitVec.ofNat 64 (mergeBits (putBits v 16 16 was) old micLateMask)
                      mic.late0700 := some { v := v } }
    let s := if off = 0 then s else micEnable off false s
    let s := if on = 0 then s else micEnable on true s
    let s := micTakeIdle s
    match s.mic.late0700 with
    | some x => ({ s with mic.late0700 := some { x with cid := some cid } }, .pending)
    | none => (s, .ok)

/-- EN acts as WAKE_ENABLE; HIST_BANK may change only while EN is 0; detection fields wait for the next detection frame,
TIMEOUT_S for the next opening (R161, R54). -/
def applyWake (old v cid : Nat) (s : State) : State × Status :=
  if (v.testBit 31 && s.mic.mute) || (differ old v 72 8 && old.testBit 31) then (s, .busy)
  else
    let s := lateOvertaken s.mic.late0800 s
    let s := { s with mic.page0800 := BitVec.ofNat 96 (mergeBits (putBits v 31 1 (bitsAt old 31 1)) old swLateMask)
                      mic.late0800 := some { v := v } }
    let s := swTakeIdle (swSet (v.testBit 31) s)
    match s.mic.late0800 with
    | some x => ({ s with mic.late0800 := some { x with cid := some cid } }, .pending)
    | none => (s, .ok)

/-! ### Chains, domain, landings, lanes -/

/-- PHASE and the delay at the next output sample, the calibration from the next carrier period (R185, R171, R174); a chain
that is stopped takes PHASE and the delay at once. -/
def applyChain (c v cid : Nat) (s : State) : State × Status :=
  if (chainOf s c).retired then (s, .retired)
  else
    let s := lateOvertaken (chainOf s c).late s
    let s := onChain c (fun k => { k with late := some { v := v } }) s
    let s := chainTake (if (chainOf s c).resetAt.isNone then chainOutMask else 0) c s
    match (chainOf s c).late with
    | some x => (onChain c (fun k => { k with late := some { x with cid := some cid } }) s, .pending)
    | none => (s, .ok)

/-- FH acts as ROUTE_DOMAIN_SET (Table 8.10). -/
def applyDomain (old v cid : Nat) (s : State) : State × Status :=
  let now (s : State) : State := { s with fab.page0A00 := Page.put s.fab.page0A00 0 24 (bitsAt v 0 24) }
  inParts cid [atOnce now, onChange (differ old v 24 2) (fun s => fhAsk (bitsAt v 24 2) cid s)] s

/-- An APPLY acts as ROUTE_LANDING_SET. -/
def applyLand (k v cid : Nat) (s : State) : State × Status :=
  landSet k (v.testBit 31) (v.testBit 30) (v.testBit 29)
    ((List.range (bitsAt v 24 4)).map (fun i => bitsAt v (32 + 8 * i) 8)) (some cid) s

/-- A mute or unmute ramp of a lane ends, and its command is overtaken (R214). -/
def laneRampDrop (j : Nat) (s : State) : State :=
  match (laneOf s j).ramp with
  | some (.mute, _) | some (.unmute, _) => laneDone j .superseded (onLane j (fun l => { l with ramp := none }) s)
  | _ => s

/-- MUTE of a lane switches at the next sample (R214) and overtakes a mute ramp that runs; a lane that starts goes on, to the
level asked now. -/
def laneMuteJump (j : Nat) (mute_ : Bool) (s : State) : State :=
  let s := laneRampDrop j s
  let hush := mute_ || laneGuarded s (laneOf s j).snk
  let s := if laneLive (laneOf s j) then onLane j (fun l => { l with levelTo := if hush then 0 else tuPerMs }) s else s
  match (laneOf s j).st with
  | .running => if hush then laneTo j .muted s else s
  | .muted => if hush then s else laneTo j .running s
  | _ => s

/-- GAIN and MUTE of a lane, each where the APPLY changes it (R214). -/
def laneJump (j : Nat) (mute_ : Bool) (g : Int) (newGain : Bool) (s : State) : State :=
  let newMute := mute_ != laneMute s j
  let s := lanePut j (laneEn s j) mute_ (laneSrc s j) (laneSnk s j) g s
  let s := if newGain then gainDirect (1280 + j) g s else s
  if newMute then laneMuteJump j mute_ s else s

def lanePart (old v cid j : Nat) : Part := fun s =>
  let f (start len : Nat) : Nat := bitsAt v (64 * j + start) len
  let g := signedOf 16 (f 32 16)
  if differ old v (64 * j + 31) 1 || differ old v (64 * j + 8) 16 then
    laneSet j (v.testBit (64 * j + 31)) (v.testBit (64 * j + 30)) (f 16 8) (f 8 8) g (some cid) s
  else if differ old v (64 * j + 30) 1 || differ old v (64 * j + 32) 16 then
    (laneJump j (v.testBit (64 * j + 30)) g (differ old v (64 * j + 32) 16) s, .ok)
  else (s, .ok)

def applyLanes (old v cid : Nat) (s : State) : State × Status := inParts cid ((List.range 8).map (lanePart old v cid)) s

/-! ### Digital ports -/

def applyTdm (n v : Nat) (s : State) : State × Status :=
  if (tdmOf s n).st = .retired then (s, .retired) else (tdmSet n v s, .ok)

/-- One receiver acts as SPDIF_IN_SET. -/
def rxPart (old v k : Nat) : Part := fun s =>
  let f (b : Nat) : Nat := b2n (v.testBit (8 * k + b))
  let port := bitsAt v (16 + 16 * k + 8) 8
  if !(differ old v (8 * k) 8 || differ old v (16 + 16 * k) 16) then (s, .ok)
  else if f 4 = 1 ∧ !passConds s k port then (s, .badParam)
  else (rxEnable k (rxPut k (f 7) (f 6) (f 5) (f 4) port (bitsAt v (16 + 16 * k) 8) s), .ok)

/-- The transmitter acts as SPDIF_OUT_SET. -/
def txPart (old v : Nat) : Part := fun s =>
  if differ old v 48 16 then
    (outChange (outRate s) { s with tdm.page0D00 := Page.put s.tdm.page0D00 48 16 (bitsAt v 48 16) }, .ok)
  else (s, .ok)

def applySpdif (old v cid : Nat) (s : State) : State × Status := inParts cid [rxPart old v 0, rxPart old v 1, txPart old v] s

/-! ### Scheduler (R282, R283) -/

/-- A list with no entry changes between sample ticks and tu at once: nothing sees a tick of it (DESIGN CHOICE, log entry "TICK
of a list"). -/
def applySched (old v cid : Nat) (s : State) : State × Status :=
  let spill := differ old v 31 1 || differ old v 16 5 || differ old v 8 3
  let tick (j : Nat) : Bool :=
    (bitsAt old (32 * j) 16 == 0) != (bitsAt v (32 * j) 16 == 0) && !(listOf s j).isEmpty
  if (spill && !s.sch.spill.isEmpty) || [1, 2, 3].any tick then (s, .busy)
  else
    let kind (j : Nat) : Nat := if bitsAt old (32 * j) 16 = 0 ∨ bitsAt v (32 * j) 16 = 0 then tickMask j else 0
    let s := lateOvertaken s.sch.late s
    let s := ticksTake (kind 1 + kind 2 + kind 3)
      { s with sch.page0F00 := BitVec.ofNat 128 (mergeBits v old tickMasks), sch.late := some { v := v } }
    let s := { s with gra.banks := banksNeeded s }
    match s.sch.late with
    | some x => ({ s with sch.late := some { x with cid := some cid } }, .pending)
    | none => (s, .ok)

/-! ### Drive ports (R313, R314) -/

/-- Fields of page 0x1000 that may change at any time: EN, RAMP_MS, ILIM, BLANK. -/
def driveFree : Nat := 2 ^ 31 + 0xFF00 + 0xFFFF * 2 ^ 48

/-- EN of one port acts as DRV_ENABLE. -/
def drivePart (n cid who : Nat) (on : Bool) : Part := fun s =>
  match drvRefusal (2 ^ n) on s with
  | some st => (s, st)
  | none =>
    let s := if charNames s n then charAbort s else s
    if drvThere s on n then (drvStay n on s, .ok)
    else (drvSettle (drvEnableMask (2 ^ n) on cid who (drvAskEn n on s)), .pending)

/-- ILIM and BLANK apply from the next carrier period, at once where no carrier period of the port switches (R313). -/
def drivePutPart (n old v cid : Nat) : Part := fun s =>
  let s := lateOvertaken (drvOf s n).late s
  let s := onDrv n (fun p => { p with
    page := BitVec.ofNat 128 (mergeBits (putBits v 31 1 (bitsAt old 31 1)) old driveLateMask)
    late := if mergeBits old v driveLateMask = old then none else some { v := v } }) s
  let s := if legsOf s n = .idle then drvTake n s else s
  match (drvOf s n).late with
  | some x => (onDrv n (fun p => { p with late := some { x with cid := some cid } }) s, .pending)
  | none => (s, .ok)

def applyDrive (n old v cid who : Nat) (s : State) : State × Status :=
  let held := mergeBits old v driveFree != v
  if held && (drvOf s n).st != .stopped then (s, .busy)
  else
    inParts cid [drivePutPart n old v cid, onChange (differ old v 31 1) (drivePart n cid who (v.testBit 31))] s

/-- EN of one group acts as DRV_GROUP_ENABLE. -/
def groupPart (g cid who : Nat) (on : Bool) : Part := fun s =>
  match grpRefusal (2 ^ g) on s with
  | some st => (s, st)
  | none =>
    if (grpOf s g).st == (if on then .on else .off) then (onGrp g (fun k => { k with autoStopped := false }) (grpPutEn g on s), .ok)
    else (drvSettle (grpEnableMask (2 ^ g) on cid who s), .pending)

/-- Once the group page is applied PSGg_EN takes the inactive level of EN_POL while the group is off (R285). -/
def grpRest (g : Nat) (s : State) : State :=
  match (grpOf s g).st with
  | .off | .fault => onGrp g (fun k => { k with enLevel := !grpPol s g }) s
  | _ => s

def applyGroup (g old v cid who : Nat) (s : State) : State × Status :=
  let busy := ((differ old v 30 1 || differ old v 0 16) && (grpPorts g).any (fun n => (drvOf s n).st != .stopped))
    || ((differ old v 27 2 || differ old v 32 16) && (grpOf s g).st != .off)
  if busy then (s, .busy)
  else
    let put (s : State) : State := grpRest g (onGrp g (fun k => { k with
      page := BitVec.ofNat 64 (putBits v 31 1 (bitsAt old 31 1)), applied := true }) s)
    inParts cid [atOnce put, onChange (differ old v 31 1) (groupPart g cid who (v.testBit 31))] s

/-! ### Protection, ring -/

/-- Fields of page 0x1100 take effect at the next frame boundary (R337). -/
def applyProt (old v cid : Nat) (s : State) : State × Status :=
  if old = v ∧ s.prot.waiting1100.isNone then (s, .ok)
  else
    let s := match s.prot.waiting1100 with | some (_, c) => complete c .superseded s | none => s
    ({ s with prot.waiting1100 := some (v, some cid) }, .pending)

/-- EN enables or disables a port, PRES_US acts at the head 16 ring periods ahead, HEAD_PRIO and FIXED_ADDR at the next
training; the live page takes each there (R358, R349, R54). -/
def applyRing (old v cid : Nat) (s : State) : State × Status :=
  let presWaits := ringHead s && (differ old v 48 16 || s.ring.presChange.isSome)
  let s := lateOvertaken s.ring.late s
  let s := { s with ring.page := BitVec.ofNat 96 (mergeBits v old ringLateMask), ring.late := some { v := v } }
  let s := if presWaits then { s with ring.presChange := some (s.ring.period + 16, presTuOf (bitsAt v 48 16)) }
    else ringTake ringPresMask s
  let s := if galTrained s then s else ringTake ringTrainMask s
  let s := if differ old v 31 1 then galEnable 0 s else s
  let s := if differ old v 30 1 then galEnable 1 s else s
  match s.ring.late with
  | some x => ({ s with ring.late := some { x with cid := some cid } }, .pending)
  | none => (s, .ok)

/-! ### Housekeeping (R376) -/

/-- The GPIO of the regular sequence's trigger, 255 for none. -/
def seqGpio (v : Nat) : Nat := if v.testBit 31 ∧ bitsAt v 21 3 = 2 then bitsAt v 8 8 else 0xFF
/-- The GPIO of a slot's trigger, 255 for none. -/
def slotGpio (v k : Nat) : Nat := if v.testBit (32 * k + 31) ∧ bitsAt v (32 * k + 28) 3 = 2 then bitsAt v (32 * k + 16) 8 else 0xFF

/-- The sequence and its trigger: at the end of the running pass, or at once while none runs (R366). -/
def seqPart (old v cid : Nat) : Part := fun s =>
  if mergeBits old v seqMask = old then (s, .ok)
  else
    let s := completeAll s.hk.seqCids .superseded { s with hk.next1300 := some v, hk.seqCids := [] }
    if s.hk.pass then
      if s.hk.run.isNone ∧ !v.testBit 31 then (hkNext (passEnd s), .ok)
      else ({ s with hk.seqCids := [cid] }, .pending)
    else (seqTake s, .ok)

/-- REF: at once, or when the running conversion has ended (R361). -/
def refPart (old v cid : Nat) : Part := fun s =>
  if !differ old v 29 2 then (s, .ok)
  else
    let s := completeAll s.hk.refCids .superseded { s with hk.nextRef := some (bitsAt v 29 2), hk.refCids := [] }
    if s.hk.run.isSome then ({ s with hk.refCids := [cid] }, .pending) else (hkNext (refTake s), .ok)

def applyHk (old v cid : Nat) (s : State) : State × Status :=
  let rest : Nat := 2 ^ 256 - 1 - seqMask - 3 * 2 ^ 29
  let now (s : State) : State := { s with hk.page1300 := BitVec.ofNat 256 (mergeBits s.hk.page1300.toNat v rest) }
  if gpioTaken s (seqGpio old) (seqGpio v) then (s, .busy)
  else inParts cid [atOnce now, refPart old v cid, seqPart old v cid] s

/-- A slot takes its configuration once it is neither pending nor converting. -/
def applySlots (old v cid : Nat) (s : State) : State × Status :=
  if [0, 1, 2, 3].any (fun k => gpioTaken s (slotGpio old k) (slotGpio v k)) then (s, .busy)
  else
    let s := completeAll s.hk.slotCids .superseded { s with
      hk.slotCids := []
      hk.next1301 := vmapi s.hk.next1301 (fun k w => if differ old v (32 * k) 32 then some (bitsAt v (32 * k) 32) else w) }
    let s := slotsTake s
    if s.hk.next1301.toList.all (fun w => w.isNone) then (s, .ok) else ({ s with hk.slotCids := [cid] }, .pending)

/-! ### Power, services, flash -/

/-- Fields of page 0x1400 that act at the next frame boundary: POLICY, PL_FLOOR, PL_CEIL, THERM_CAP (R399). -/
def powerLate : Nat := 0xFFC00000

def applyPower (old v cid : Nat) (s : State) : State × Status :=
  if !old.testBit 14 && v.testBit 14 && gpioOutUse s 0 then (s, .busy)
  else
    let now := mergeBits v s.pwr.page1400.toNat powerLate
    let s := { s with pwr.page1400 := BitVec.ofNat 160 now, pwr.lastActivity := s.time.now }
    if now = v ∧ s.pwr.waiting1400.isNone then (s, .ok)
    else
      let s := match s.pwr.waiting1400 with | some (_, c) => complete c .superseded s | none => s
      ({ s with pwr.waiting1400 := some (v, some cid) }, .pending)

/-- Setting EN or MODE to AUTO lets the machine enter state 0 at its next evaluation (R404). -/
def applySource (old v : Nat) (s : State) : State × Status :=
  let again := (v.testBit 31 && !old.testBit 31) || (old.testBit 30 && !v.testBit 30)
  ({ s with svc.page1500 := BitVec.ofNat 320 v, svc.restart := s.svc.restart || again }, .ok)

/-- Volumes stay at most MAX_VOL; what has changed is written (R405). -/
def applyVolume (old v : Nat) (s : State) : State × Status :=
  let top := signedOf 16 (bitsAt v 96 16)
  let cut (x : Int) : Int := if x = mute then mute else min x top
  let moved := differ old v 64 32 || differ old v 112 16
  let s := { s with
    svc.page1501 := BitVec.ofNat 160 v, svc.vol := cut s.svc.vol, svc.volHp := cut s.svc.volHp
    svc.gEff := if moved then none else s.svc.gEff
    svc.gHp := if moved then none else s.svc.gHp }
  (volFollow none s, .ok)

def applySorrel (v : Nat) (s : State) : State × Status :=
  if s.svc.sorrel.isSome then (s, .busy) else ({ s with svc.page1502 := BitVec.ofNat 192 v }, .ok)

/-- While a flash access runs, the APPLY is carried out when it ends (Table 18.6). -/
def applyFlash (v cid : Nat) (s : State) : State × Status :=
  if flashBusy s then
    let s := match s.boot.waiting1600 with | some (_, c) => complete c .superseded s | none => s
    ({ s with boot.waiting1600 := some (v, some cid) }, .pending)
  else ({ s with boot.page1600 := BitVec.ofNat 32 v }, .ok)

/-! ### An APPLY -/

/-- The page's function takes the whole shadow (R54). -/
def pageApply (id old v cid who : Nat) (s : State) : State × Status :=
  if 0x0900 ≤ id ∧ id < 0x0962 then applyChain (id - 0x0900) v cid s
  else if 0x0A01 ≤ id ∧ id < 0x0A05 then applyLand (id - 0x0A01) v cid s
  else if 0x0C00 ≤ id ∧ id < 0x0C06 then applyTdm (id - 0x0C00) v s
  else if 0x1000 ≤ id ∧ id < 0x1018 then applyDrive (id - 0x1000) old v cid who s
  else if 0x1020 ≤ id ∧ id < 0x1026 then applyGroup (id - 0x1020) old v cid who s
  else match id with
    | 0x0400 => applyClk old v cid s
    | 0x0500 => applyAin old v s
    | 0x0501 => applyOut old v s
    | 0x0600 => applyJack old v s
    | 0x0700 => applyMic old v cid s
    | 0x0800 => applyWake old v cid s
    | 0x0A00 => applyDomain old v cid s
    | 0x0A10 => applyLanes old v cid s
    | 0x0D00 => applySpdif old v cid s
    | 0x0F00 => applySched old v cid s
    | 0x0F01 => ({ s with sch.page0F01 := BitVec.ofNat 2048 v }, .ok)
    | 0x1100 => applyProt old v cid s
    | 0x1200 => applyRing old v cid s
    | 0x1300 => applyHk old v cid s
    | 0x1301 => applySlots old v cid s
    | 0x1302 => ({ s with hk.page1302 := BitVec.ofNat 1536 v }, .ok)
    | 0x1400 => applyPower old v cid s
    | 0x1401 => ({ s with pwr.page1401 := BitVec.ofNat 288 v }, .ok)
    | 0x1500 => applySource old v s
    | 0x1501 => applyVolume old v s
    | 0x1502 => applySorrel v s
    | 0x1600 => applyFlash v cid s
    | _ => (s, .badParam)

/-! ### Shadows (R54, R470) -/

/-- The contents a write starts from: the open shadow of this page, or the live page. -/
def shadowBase (p : Port) (id live : Nat) (discard : Bool) : Nat :=
  match p.shadow with
  | some (k, v) => if k = id ∧ !discard then v else live
  | none => live

/-- Data written into a page at a byte offset. -/
def pageData (base ofs : Nat) (data : List Byte) : Nat := putBits base (8 * ofs) (8 * data.length) (leNat data)

/-- Halls a SYS_PAGE_WRITE needs: those of the area that owns the page (R466). -/
def pageHalls (s : State) (q : Req) : Nat :=
  let id := q.u16 0
  let ofs := q.u16 2
  let n := q.len - 8
  let live := match pageLive s id with | some (_, v) => v | none => 0
  let v := pageData (shadowBase (portOf s q.m) id live ((q.u8 4).testBit 1)) ofs (q.payload.drop 8)
  match id / 256 with
  | 4 => if (n != 0 && decide (8 < ofs + n)) || ((q.u8 4).testBit 0 && differ live v 64 128) then 0x10 else 0
  | 5 => 0x28
  | 6 => 0x28
  | 7 => if differ live v 20 12 || differ live v 4 12 then 0x28 else 0
  | 9 => if 0x091A ≤ id then 0x18 else 8
  | 0xA => 8
  | 0xC => 8
  | 0xD => 8
  | 0xF => 4
  | 0x10 => 0x10
  | 0x12 => 0x40
  | 0x13 => 0x20
  | _ => 0

/-- A page write that has passed the checks of R46 and of PAGE_ID and OFFSET. -/
def pageWrite (cid : Nat) (q : Req) (s : State) : State × Status :=
  let id := q.u16 0
  let apply_ := (q.u8 4).testBit 0
  let discard := (q.u8 4).testBit 1
  let data := q.payload.drop 8
  let p := portOf s q.m
  let shut (s : State) : State := onPort q.m (fun p => { p with shadow := none }) s
  match pageLive s id with
  | none => (s, .badParam)
  | some (_, live) =>
    if discard ∧ data = [] ∧ !apply_ then (shut s, .ok)
    else if !discard && (match p.shadow with | some (k, _) => k != id | none => false) then (s, .busy)
    else
      let v := mergeBits (pageData (shadowBase p id live discard) (q.u16 2) data) live (pageRo id)
      if !apply_ then (onPort q.m (fun p => { p with shadow := some (id, v) }) s, .ok)
      else if !pageOk s id v then (s, .badParam)
      else
        let r := pageApply id live v cid q.m.val s
        if r.2 = .ok ∨ r.2 = .pending then (shut r.1, r.2) else (s, r.2)

/-! ### Commands -/

/-- SYS_PAGE_READ (R54). -/
def execSysPageRead (q : Req) (s : State) : Out :=
  .next (report { code := 0x0180, owner := false, report := true, len := lenIs 8,
                  fields := fun q s => within 1 240 (q.u16 4) && zeros q 6 2
                    && (match pageLive s (q.u16 0) with | some (n, _) => decide (q.u16 2 + q.u16 4 ≤ n) | none => false) }
    (fun q s =>
      match pageLive s (q.u16 0) with
      | some (n, v) => b2 (q.u16 0) ++ b2 (q.u16 2) ++ b2 n ++ rz 2 ++ leBytes (q.u16 4) (v >>> (8 * q.u16 2))
      | none => []) q s)

/-- SYS_PAGE_WRITE (R54, R470). -/
def execSysPageWrite (q : Req) (s : State) : Out :=
  .next (serve { code := 0x0181, owner := true, len := fun k => within 8 248 k, halls := fun q => pageHalls s q,
                 fields := fun q s => decide (q.u8 4 < 4) && zeros q 5 3
                   && (match pageLive s (q.u16 0) with
                       | some (n, _) => decide (q.u16 2 + (q.len - 8) ≤ n)
                       | none => false) }
    (fun cid q s =>
      let r := pageWrite cid q s
      (r.1, ans r.2)) q s)

end Sys2Proof.Machine
end

