-- ==== Sys2Proof/Machine/Tables.lean ====
section
/-! DEFINITION. Table containers (R55 to R57): staging, the checks in the order of R57, the entries of every type, and
where a table committed takes effect. -/

namespace Sys2Proof.Machine

open Sys2Proof

/-! ### Types (Table 2.22) -/

/-- The table types. -/
inductive TableType where
  | curve | jack (k : Nat) | source | format (n : Nat) | load (n : Nat) | driver | supply | retireMap | tdmMap | ringMap
  deriving DecidableEq, Repr

/-- The table a TYPE and an ID name. -/
def tableType (ty id : Nat) : Option TableType :=
  match ty with
  | 1 => some .curve
  | 2 => if id = 0x0600 ∨ id = 0x0601 then some (.jack (id - 0x0600)) else if id = 0x1500 then some .source else none
  | 3 => if 0x0C00 ≤ id ∧ id < 0x0C06 then some (.format (id - 0x0C00)) else none
  | 4 => if 0x1000 ≤ id ∧ id < 0x1018 then some (.load (id - 0x1000)) else none
  | 5 => if id ≠ 0 then some .driver else none
  | 6 => some .supply
  | 7 => if id = 0x1110 then some .retireMap else none
  | 8 => if id = 0x0C10 then some .tdmMap else if id = 0x1210 then some .ringMap else none
  | _ => none

/-- ENTRY_SIZE and the range of COUNT. -/
def TableType.shape : TableType → Nat × Nat × Nat
  | .curve => (4, 2, 64)
  | .jack _ => (32, 1, 32)
  | .source => (32, 1, 32)
  | .format _ => (8, 1, 8)
  | .load _ => (32, 1, 1)
  | .driver => (80, 1, 24)
  | .supply => (16, 3, 32)
  | .retireMap => (20, 1, 24)
  | .tdmMap => (4, 1, 64)
  | .ringMap => (4, 1, 64)

/-! ### Entries -/

/-- Listed bytes of an entry are zero. -/
def zeroSpan (e : List Byte) (ofs n : Nat) : Bool := ((e.drop ofs).take n).all (· == 0)
/-- A signed field of two bytes. -/
def sAt (e : List Byte) (ofs : Nat) : Int := signedOf 16 (leAt e ofs 2)

/-- Curve entry (R317): in range, IN above the one before. -/
def curveEntryOk (before : List (List Byte)) (e : List Byte) : Bool :=
  withinI (-2400) 480 (sAt e 0) && withinI (-2400) 480 (sAt e 2)
    && (match before.getLast? with | some p => decide (sAt p 0 < sAt e 0) | none => true)

/-- The parts of Table 5.8 both kinds of state table share (R135, R403). -/
def stateEntryOk (count : Nat) (e : List Byte) : Bool :=
  (List.range 16).all (fun c => leAt e (8 + c) 1 == 0xFF || decide (leAt e (8 + c) 1 < count))
    && decide (leAt e 4 2 ≤ 60000) && zeroSpan e 6 2 && zeroSpan e 24 8

/-- Jack state entry (R135). -/
def jackEntryOk (count : Nat) (e : List Byte) : Bool :=
  let a := leAt e 0 4
  let both (i j : Nat) : Bool := a.testBit i && a.testBit j
  !both 0 1 && !both 3 4 && !both 5 6 && !both 7 8 && !both 9 10 && !both 0 2 && decide (a < 2 ^ 11)
    && stateEntryOk count e

/-- Source state entry (R403). -/
def sourceEntryOk (count : Nat) (e : List Byte) : Bool :=
  decide (leAt e 0 4 < 16 ∧ ¬ (9 ≤ leAt e 0 4 ∧ leAt e 0 4 ≤ 14)) && stateEntryOk count e

/-- Format entry (R218, R221, Table 9.2). -/
def formatEntryOk (e : List Byte) : Bool :=
  let f (i : Nat) : Nat := leAt e i 1
  decide (f 0 ≤ 3) && within 1 32 (f 1) && [16, 24, 32].contains (f 2) && [16, 20, 24, 32].contains (f 3)
    && decide (f 3 ≤ f 2 ∧ f 4 < 12 ∧ f 5 < 4) && (decide (2 ≤ f 0) || (f 6 == 0 && f 1 % 2 == 0)) && f 7 == 0
    && decide (f 1 * f 2 * rateHz (f 4) ≤ 24576000)

/-- Driver entry (R318, Table 13.2). -/
def driverEntryOk (before : List (List Byte)) (e : List Byte) : Bool :=
  let f (i : Nat) : Nat := leAt e i 2
  (decide (leAt e 0 1 < 24) || leAt e 0 1 == 0xFF) && !before.any (fun p => leAt p 0 1 == leAt e 0 1)
    && decide (leAt e 1 1 < 4) && zeroSpan e 2 2 && within 1000 64000 (leAt e 4 4) && decide (f 8 ≤ 10000)
    && within 500 3000 (f 10) && decide (f 12 ≤ 500) && within 1 10000 (f 14) && within 10 10000 (f 16)
    && within 1 10000 (f 18) && within 1 10000 (f 20) && withinI (-400) 850 (sAt e 22)
    && (decide (leAt e 24 1 < 24) || leAt e 24 1 == 0xFF) && zeroSpan e 25 1
    && within 100 5000 (f 26) && within 500 20000 (f 28) && within 100 30000 (f 30) && within 10 60000 (f 32)
    && decide (f 34 ≤ 10000) && within 10 5000 (f 36) && within 10 5000 (f 38) && within 100 50000 (leAt e 40 4)
    && zeroSpan e 44 36

/-- Supply table entry (R324, Tables 13.3, 13.4). -/
def supplyEntryOk (s : State) (id : Nat) (before : List (List Byte)) (e : List Byte) : Bool :=
  match before with
  | [] =>
    decide (leAt e 0 1 < 24) && zeroSpan e 1 1 && within 3000 60000 (leAt e 2 2) && decide (leAt e 4 2 ≤ 10000)
      && within 500 1000 (leAt e 6 2) && decide (leAt e 8 2 ≤ 5000) && within 10 5000 (leAt e 10 2)
      && decide (leAt e 12 4 < 2 ^ 24)
      && s.prot.supplies.all (fun x => x.id == id || x.table.mask &&& leAt e 12 4 == 0)
  | _ :: pts =>
    within 3000 60000 (leAt e 0 2) && zeroSpan e 2 2 && decide (leAt e 4 4 ≤ 200000) && zeroSpan e 8 8
      && (match pts.getLast? with | some p => decide (leAt p 0 2 < leAt e 0 2) | none => true)

/-- Retirement-map entry (R333, Table 13.6). -/
def mapEntryOk (before : List (List Byte)) (e : List Byte) : Bool :=
  let nt := leAt e 1 1
  let ts := (List.range nt).map (fun j => leAt e (4 + 4 * j) 1)
  decide (leAt e 0 1 < 24) && !before.any (fun p => leAt p 0 1 == leAt e 0 1) && within 1 4 nt
    && (decide (leAt e 2 2 < 256) || leAt e 2 2 == 0xFFFF)
    && ts.all (fun t => decide (t < 24) && t != leAt e 0 1) && noRepeat ts
    && (List.range nt).all (fun j => zeroSpan e (5 + 4 * j) 1 && gainOk (sAt e (6 + 4 * j)))
    && zeroSpan e (4 + 4 * nt) (16 - 4 * nt)

/-- TDM slot-map entry (R223, Table 9.3). -/
def tdmMapEntryOk (before : List (List Byte)) (e : List Byte) : Bool :=
  let pt (x : List Byte) : Nat := leAt x 0 1
  bitsAt (pt e) 5 2 == 0 && decide (leAt e 1 1 < 6 ∧ leAt e 2 1 < 32) && zeroSpan e 3 1
    && before.all (fun p => pt p != pt e
      && !(bitsAt (pt p) 7 1 == bitsAt (pt e) 7 1 && leAt p 1 1 == leAt e 1 1 && leAt p 2 1 == leAt e 2 1))

/-- Slots a ring slot-map entry covers. -/
def ringSlots (e : List Byte) : List Nat := if leAt e 1 1 = 1 then [leAt e 2 2, leAt e 2 2 + 1] else [leAt e 2 2]

/-- Ring slot-map entry (R347, Table 14.3). -/
def ringMapEntryOk (before : List (List Byte)) (e : List Byte) : Bool :=
  let pt (x : List Byte) : Nat := leAt x 0 1
  bitsAt (pt e) 5 2 == 0 && decide (leAt e 1 1 < 2 ∧ leAt e 2 2 < 256) && !(leAt e 1 1 == 1 && leAt e 2 2 % 2 == 1)
    && before.all (fun p => pt p != pt e
      && !(bitsAt (pt p) 7 1 == bitsAt (pt e) 7 1 && (ringSlots p).any (fun k => (ringSlots e).contains k)))

/-- The fields of one entry, after those before it. -/
def entryOk (t : TableType) (s : State) (id count : Nat) (before : List (List Byte)) (e : List Byte) : Bool :=
  match t with
  | .curve => curveEntryOk before e
  | .jack _ => jackEntryOk count e
  | .source => sourceEntryOk count e
  | .format _ => formatEntryOk e
  | .load _ => loadOk e
  | .driver => driverEntryOk before e
  | .supply => supplyEntryOk s id before e
  | .retireMap => mapEntryOk before e
  | .tdmMap => tdmMapEntryOk before e
  | .ringMap => ringMapEntryOk before e

/-! ### The check (R57) -/

/-- `n` entries of `size` bytes. -/
def entriesOf (size : Nat) : Nat → List Byte → List (List Byte)
  | 0, _ => []
  | n + 1, b => b.take size :: entriesOf size n (b.drop size)

/-- Index of the first entry that fails. -/
def firstBad (ok : List (List Byte) → List Byte → Bool) : List (List Byte) → List (List Byte) → Option Nat
  | _, [] => none
  | before, e :: l => if ok before e then firstBad ok (before ++ [e]) l else some before.length

/-- CRC-32 of a container over bytes 0-11 and all entries. -/
def containerCrc (b : List Byte) : Nat := (crc32 (b.take 12 ++ b.drop 16)).toNat

/-- REASON and ENTRY of the first check that fails. -/
def tableFail (b : List Byte) (total : Nat) (s : State) : Option (Nat × Nat) :=
  let id := leAt b 2 2
  let count := leAt b 6 2
  if b.length < 16 ∨ total ≠ b.length then some (5, 0)
  else if leAt b 12 4 ≠ containerCrc b then some (1, 0)
  else match (if leAt b 4 2 = 1 then tableType (leAt b 0 2) id else none) with
    | none => some (2, 0)
    | some t =>
      let k := t.shape
      if leAt b 10 2 ≠ 0 then some (7, 0)
      else if leAt b 8 2 ≠ k.1 then some (3, 0)
      else if ¬ (k.2.1 ≤ count ∧ count ≤ k.2.2) then some (4, 0)
      else if total ≠ 16 + count * k.1 then some (5, 0)
      else (firstBad (entryOk t s id count) [] (entriesOf k.1 count (b.drop 16))).map (fun i => (6, min 255 i))

/-! ### Installing -/

/-- A list by ID with one entry replaced. -/
def putId {α : Type} (id : Nat) (x : α) (l : List (Nat × α)) : List (Nat × α) := l.filter (fun y => y.1 != id) ++ [(id, x)]

/-- A curve table is in use: by a DYNAMICS node in force or by the volume policy. -/
def curveUsed (s : State) (id : Nat) : Bool :=
  (match s.gra.image with | some im => im.nodes.any (fun n => n.type == 8 && n.u16 4 == id) | none => false)
    || (volEn s && (volCurve s == id || (volCapEn s && volCapCurve s == id)))

/-- A driver table is in use: a SPEAKER_MODEL port in force names it. -/
def driverUsed (s : State) (id : Nat) : Bool :=
  match s.gra.image with | some im => (im.nodes.flatMap modelPorts).any (fun x => x.2 == id) | none => false

/-- A supply table is in use: the SUPPLY_LIMIT node in force names it. -/
def supplyUsed (s : State) (id : Nat) : Bool := match limitNode s with | some x => x.1 == id | none => false

def readCurve (es : List (List Byte)) : List CurvePt := es.map (fun e => { x := sAt e 0, y := sAt e 2 })

def readStates (es : List (List Byte)) : List JackEntry :=
  es.map (fun e => { actions := leAt e 0 4, timerMs := leAt e 4 2, next := (List.range 16).map (fun c => leAt e (8 + c) 1) })

def readFormats (es : List (List Byte)) : List TdmFormat :=
  es.map (fun e => { framing := leAt e 0 1, slots := leAt e 1 1, slotBits := leAt e 2 1, dataBits := leAt e 3 1
                     rate := leAt e 4 1, flags := leAt e 5 1, width := leAt e 6 1 })

def readDrivers (es : List (List Byte)) : List Driver :=
  es.map (fun e =>
    { port := leAt e 0 1, thermal := (leAt e 1 1).testBit 0, excursion := (leAt e 1 1).testBit 1, re := leAt e 4 4
      alpha := leAt e 8 2, tMax := leAt e 10 2, tMargin := leAt e 12 2, rthVc := leAt e 14 2, tauVc := leAt e 16 2
      rthM := leAt e 18 2, tauM := leAt e 20 2, tAmb := sAt e 22, ambHk := leAt e 24 1, fs := leAt e 26 2
      qms := leAt e 28 2, bl := leAt e 30 2, mms := leAt e 32 2, le := leAt e 34 2, xMax := leAt e 36 2
      release := leAt e 38 2, iPeak := leAt e 40 4 })

def readSupply (es : List (List Byte)) : SupplyTable :=
  let e := es.headD []
  { hk := leAt e 0 1, vFloor := leAt e 2 2, rSrc := leAt e 4 2, eta := leAt e 6 2, iQ := leAt e 8 2
    release := leAt e 10 2, mask := leAt e 12 4, points := es.tail.map (fun p => (leAt p 0 2, leAt p 4 4)) }

def readRetireMap (es : List (List Byte)) : List MapEntry :=
  es.map (fun e => { port := leAt e 0 1, source := leAt e 2 2
                     targets := (List.range (leAt e 1 1)).map (fun j => (leAt e (4 + 4 * j) 1, sAt e (6 + 4 * j))) })

def readTdmMap (es : List (List Byte)) : List TdmBind :=
  es.map (fun e => { out := (leAt e 0 1).testBit 7, point := leAt e 0 1 % 32, port := leAt e 1 1, slot := leAt e 2 1 })

def readRingMap (es : List (List Byte)) : List RingBind :=
  es.map (fun e => { out := (leAt e 0 1).testBit 7, point := leAt e 0 1 % 32, wide := leAt e 1 1 == 1, slot := leAt e 2 2 })

/-- A curve table is kept at once, or from the next frame boundary where one in use is replaced (R317). -/
def installCurve (id : Nat) (c : List CurvePt) (cid : Nat) (s : State) : State × Status :=
  if curveUsed s id && s.prot.curves.any (fun x => x.1 == id) then
    let olds := (s.prot.newCurves.filter (fun x => x.1 == id)).map (fun x => x.2.2)
    (completeAll olds .superseded { s with prot.newCurves := putId id (c, cid) s.prot.newCurves }, .pending)
  else (volFollow none { s with prot.curves := putId id c s.prot.curves }, .ok)

/-- The same of a driver table (R318). -/
def installDriver (id : Nat) (d : List Driver) (cid : Nat) (s : State) : State × Status :=
  if driverUsed s id && s.prot.drivers.any (fun x => x.1 == id) then
    let olds := (s.prot.newDrivers.filter (fun x => x.1 == id)).map (fun x => x.2.2)
    (completeAll olds .superseded { s with prot.newDrivers := putId id (d, cid) s.prot.newDrivers }, .pending)
  else ({ s with prot.drivers := putId id d s.prot.drivers }, .ok)

/-- The same of a supply table (R324). -/
def installSupply (id : Nat) (t : SupplyTable) (cid : Nat) (s : State) : State × Status :=
  match s.prot.supplies.find? (fun x => x.id == id) with
  | some x =>
    if supplyUsed s id then
      let s := match x.next with | some o => completeWith o.2 .superseded 0 [] s | none => s
      (onSupply id (fun y => { y with next := some (t, cid) }) s, .pending)
    else (onSupply id (fun y => { y with table := t }) s, .ok)
  | none => ({ s with prot.supplies := s.prot.supplies ++ [({ id := id, table := t } : Supply)] }, .ok)

/-- A jack table becomes the user table and is selected at the next evaluation (R136). -/
def installJack (k : Nat) (es : List JackEntry) (s : State) : State × Status :=
  let keep := match (jackOf s k).select with | some (true, c) => c | _ => none
  let s := match (jackOf s k).select with | some (false, c) => complete c .superseded s | _ => s
  (onJack k (fun j => { j with user := some es, select := some (true, keep) }) s, .ok)

/-- A source table is selected at the next evaluation, in state 0 (R403). -/
def installSource (es : List JackEntry) (s : State) : State × Status :=
  ({ s with svc.user := some es, svc.restart := true }, .ok)

/-- A format table of a running port takes effect at the end of its frame (R222). -/
def installFormats (n : Nat) (fs : List TdmFormat) (cid : Nat) (s : State) : State × Status :=
  if (tdmOf s n).st = .running then
    let s := complete (tdmOf s n).fmtCid .superseded s
    (onTdm n (fun p => { p with newFormats := some fs, fmtCid := some cid }) s, .pending)
  else
    let old := tdmFormat s n
    let s := onTdm n (fun p => { p with formats := fs }) (tdmQuiet n s)
    (if tdmFormat s n = old then s else landFollow (tdmStart n s), .ok)

/-- A load table: for a port that is not STOPPED it takes effect at the next start-up (R297). -/
def installLoad (n : Nat) (e : List Byte) (s : State) : State × Status :=
  (onDrv n (fun p => { p with load := some e, loadPending := p.loadPending || p.st != .stopped }) s, .ok)

/-- A slot map takes effect on each running port at its next FSYNC (R224). -/
def installTdmMap (m : List TdmBind) (cid : Nat) (s : State) : State × Status :=
  let mine (n : Nat) : List TdmBind := m.filter (fun b => b.port == n)
  let later := (List.range 6).filter (fun n => (tdmOf s n).st == .running && mine n != (tdmOf s n).map)
  let olds := (List.range 6).filterMap (fun n => (tdmOf s n).mapCid)
  let s := completeAll olds .superseded s
  let s := landFollow ((List.range 6).foldl (fun s n =>
    if later.contains n then onTdm n (fun p => { p with newMap := some (mine n), mapCid := some cid }) s
    else onTdm n (fun p => { p with map := mine n, newMap := none, mapCid := none }) s) s)
  if later = [] then (s, .ok)
  else if later.length = 1 then (s, .pending)
  else ({ s with own.joint := s.own.joint ++ [(cid, later.length - 1)] }, .pending)

/-- The ring slot map takes effect at the next ring period boundary (R347). -/
def installRingMap (m : List RingBind) (cid : Nat) (s : State) : State × Status :=
  if ringRuns s then
    let s := complete s.ring.mapCid .superseded s
    ({ s with ring.newMap := some m, ring.mapCid := some cid }, .pending)
  else (ringMapTake { s with ring.newMap := some m }, .ok)

/-- A checked container is installed. -/
def tableInstall (b : List Byte) (cid : Nat) (s : State) : State × Status :=
  let id := leAt b 2 2
  match tableType (leAt b 0 2) id with
  | none => (s, .badParam)
  | some t =>
    let es := entriesOf t.shape.1 (leAt b 6 2) (b.drop 16)
    match t with
    | .curve => installCurve id (readCurve es) cid s
    | .jack k => installJack k (readStates es) s
    | .source => installSource (readStates es) s
    | .format n => installFormats n (readFormats es) cid s
    | .load n => installLoad n (es.headD []) s
    | .driver => installDriver id (readDrivers es) cid s
    | .supply => installSupply id (readSupply es) cid s
    | .retireMap => ({ s with prot.map := readRetireMap es }, .ok)
    | .tdmMap => installTdmMap (readTdmMap es) cid s
    | .ringMap => installRingMap (readRingMap es) cid s

/-- Tables replaced in use take effect at a frame boundary (R317, R318, R324). -/
def tablesTake (s : State) : State :=
  let c := s.prot.newCurves
  let d := s.prot.newDrivers
  let x := s.prot.supplies.filterMap (fun y => y.next.map (fun n => n.2))
  if c.isEmpty && d.isEmpty && x.isEmpty then s
  else
    let s := { s with
      prot.curves := c.foldl (fun l y => putId y.1 y.2.1 l) s.prot.curves
      prot.drivers := d.foldl (fun l y => putId y.1 y.2.1 l) s.prot.drivers
      prot.supplies := s.prot.supplies.map (fun y => match y.next with
        | some n => { y with table := n.1, next := none }
        | none => y)
      prot.newCurves := [], prot.newDrivers := [] }
    let s := completeAll (c.map (fun y => y.2.2) ++ d.map (fun y => y.2.2) ++ x) .ok s
    if c.isEmpty then s else volFollow none s

/-! ### Commands -/

/-- SYS_TABLE_WRITE (R57): OFFSET 0 empties the buffer first. -/
def execSysTableWrite (q : Req) (s : State) : Out :=
  .next (serve { code := 0x0182, owner := true, len := fun k => within 9 248 k,
                 fields := fun q s => zeros q 4 4 && decide (q.u32 0 + (q.len - 8) ≤ 32768)
                   && (q.u32 0 == 0 || q.u32 0 == (portOf s q.m).staging.length) }
    (fun _ q s =>
      let base := if q.u32 0 = 0 then [] else (portOf s q.m).staging
      (onPort q.m (fun p => { p with staging := base ++ q.payload.drop 8 }) s, ans .ok)) q s)

/-- REASON, ENTRY and two reserved bytes. -/
def tableResp (reason entry : Nat) : List Byte := b1 reason ++ b1 entry ++ rz 2

/-- SYS_TABLE_COMMIT (R57): the staging buffer is emptied whatever the outcome. -/
def execSysTableCommit (q : Req) (s : State) : Out :=
  .next (serve { code := 0x0183, owner := true, len := lenIs 8, fields := fun q _ => zeros q 4 4 }
    (fun cid q s =>
      let b := (portOf s q.m).staging
      let s := onPort q.m (fun p => { p with staging := [] }) s
      match tableFail b (q.u32 0) s with
      | some (r, e) => (s, ans .badParam (tableResp r e))
      | none =>
        let r := tableInstall b cid s
        (r.1, ans r.2 (tableResp 0 0))) q s)

end Sys2Proof.Machine
end

