-- ==== Sys2Proof/Machine/FrameRow.lean ====
section
/-! DEFINITION. What happens at a frame boundary (R189, R242): frames are numbered and judged, what waited for the
boundary takes effect, Yarrow and Tansy take their step; and the switch to a committed image (R255). -/

namespace Sys2Proof.Machine

open Sys2Proof

/-! ### Yarrow (R319 to R322) -/

/-- Lanes that end at a port mute or unmute with the coil (R322). -/
def laneGuardStep (n : Nat) (e : Driver) (s : State) : State :=
  let t := coilTemp (protOf s n)
  let mine := (List.range 8).filter (fun j => laneLive (laneOf s j) && (laneOf s j).snk == 6 + n && !laneMute s j)
  if laneGuard s && e.thermal && decide ((e.tMax : Rat) / 10 < t) && !(protOf s n).lanesMuted then
    onProt n (fun p => { p with lanesMuted := true }) (mine.foldl (fun s j => laneMuteRamp j true s) s)
  else if (protOf s n).lanesMuted && (!laneGuard s || decide (t < (e.tMax : Rat) / 10 - (e.tMargin : Rat) / 10)) then
    mine.foldl (fun s j => laneMuteRamp j false s) (onProt n (fun p => { p with lanesMuted := false }) s)
  else s

/-- Gains of a port: g_t and g_x of its SPEAKER_MODEL port, 1 where a limiter is off or there is none. -/
def yarrowGains (s : State) (n : Nat) : Rat × Rat :=
  match modelEntry s n with
  | some e => (if e.thermal then (protOf s n).gt else 1, if e.excursion then (protOf s n).gx else 1)
  | none => (1, 1)

/-- The input of the SUPPLY_LIMIT node in force that a port is, with g_s squared. -/
def supplyGain2 (s : State) (n : Nat) : Rat :=
  match limitNode s, limitSupply s with
  | some x, some y => if x.2.contains n then y.gs2 else 1
  | _, _ => 1

/-- The supply clamp acts on a port. -/
def clampedNow (s : State) (n : Nat) : Bool :=
  match limitSupply s with
  | some x => clampActs s x && x.table.mask.testBit n && (drvOf s n).st == .running
  | none => false

/-- Total reduction of a port, its cause and event 4n + 2 (R321). Where two factors are equally small, which is the
cause is open. -/
def reductionStep (n : Nat) (s : State) : State :=
  let g := yarrowGains s n
  let gs2 := supplyGain2 s n
  let gy := min g.1 g.2
  let tot2 := gy * gy * gs2
  let hard := clampedNow s n
  let low := min (gy * gy) gs2
  let codes := (if g.1 * g.1 = low then [1] else []) ++ (if g.2 * g.2 = low then [2] else []) ++ (if gs2 = low then [3] else [])
  let above := hard || downBy 1 tot2
  let pick := freshNat s
  let s := if above && !hard && decide (1 < codes.length) then pick.2 else s
  let cause := if hard then 3 else if above then codes.getD (pick.1 % codes.length) 1 else 0
  let red := if hard then max 12 (stepsDown tot2) else stepsDown tot2
  let p := protOf s n
  let s := onProt n (fun p => { p with red := red, cause := cause }) s
  if above then
    let tell := !p.limiting || p.toldCause != cause
    let s := onProt n (fun p => { p with limiting := true, toldCause := cause, holdFrom := none }) s
    let s := { s with svc.sorrel := s.svc.sorrel.map (fun r => if r.step = 4 then { r with limited := true } else r) }
    if tell then raise (4 * n + 2) (cause * 256 + red) s else s
  else if p.limiting && p.holdFrom.isNone then onProt n (fun p => { p with holdFrom := some s.time.now }) s
  else s

/-- The SPEAKER_MODEL node and port of it that a drive port is in the image in force. -/
def modelSite (s : State) (n : Nat) : Option (Nat × Nat) :=
  match s.gra.image with
  | some im => im.indexed.findSome? (fun x =>
      if x.2.type = 16 then
        ((List.range x.2.nin).find? (fun p => x.2.u8 (4 + 4 * p) == n)).map (fun p => (x.1, p))
      else none)
  | none => none

/-- One port's SPEAKER_MODEL over one frame: the thermal state, what the node found of the port, and the squares of the model's
current and of i_L in the running window of R320. -/
def modelStep (n : Nat) (s : State) : State :=
  match modelEntry s n, modelSite s n with
  | some e, some site =>
    let r := s.gra.nodes.getD site.1 {}
    let found := r.ports.getD site.2 { gt := (protOf s n).gt, gx := (protOf s n).gx, exc := (protOf s n).exc }
    let pred := r.pred.getD site.2 []
    let l := (drvOf s n).load_
    let s := if (protOf s n).modelled then s else onProt n (fun p => { p with
      rmsFrom := s.time.now, rmsModel := 0, rmsModelN := 0, rmsSense := 0, rmsSenseN := 0 }) s
    let s := if e.thermal then onProt n (thermalStep s e n) s else onProt n (fun p => { p with modelled := true }) s
    let s := onProt n (fun p => { p with
      exc := found.exc, gt := found.gt, gx := found.gx
      rmsModel := p.rmsModel + (pred.map (fun i => i * i)).foldl (· + ·) 0, rmsModelN := p.rmsModelN + pred.length
      rmsSense := p.rmsSense + l.sumI2, rmsSenseN := p.rmsSenseN + l.count }) s
    if e.thermal then laneGuardStep n e s else s
  | _, _ => s

/-- PROT_TEMP_SET takes effect (R319). -/
def tempSetTake (n : Nat) (s : State) : State :=
  match (protOf s n).set with
  | some x =>
    completeWith x.2.2 .ok 0 [] (onProt n (fun p => { p with dVc := x.1, dM := x.2.1, set := none }) s)
  | none => s

/-! ### Tansy (R325 to R327) -/

/-- E231 (R326). -/
def tansyTell (id : Nat) (s : State) : State :=
  match s.prot.supplies.find? (fun x => x.id == id) with
  | none => s
  | some x =>
    let red := stepsDown x.gs2
    let above := downBy 1 x.gs2
    let moved := match x.told with | some r => decide (r + 2 ≤ red ∨ red + 2 ≤ r) | none => above
    let s := if moved then raise 231 red (onSupply id (fun y => { y with told := some red }) s) else s
    onSupply id (fun y => { y with
      holdFrom := if above || y.told.isNone then none
                  else match y.holdFrom with | some t => some t | none => some s.time.now }) s

/-- What the SUPPLY_LIMIT node in force found of its supply in the frame processed last; before its first frame the budget
without predictions. -/
def limitFound (s : State) (x : Supply) (inputs : List Nat) : SupplyFrame :=
  match s.gra.image with
  | some im => ((im.indexed.find? (fun y => y.2.type == 17)).bind (fun y => (s.gra.nodes.getD y.1 {}).supply)).getD
      (tansyFigures s x inputs 0)
  | none => tansyFigures s x inputs 0

/-- Tansy's step at a frame boundary, while a SUPPLY_LIMIT node runs. -/
def tansyStep (s : State) : State :=
  match limitNode s, limitSupply s with
  | some n, some x =>
    let g := limitFound s x n.2
    tansyTell x.id (onSupply x.id (fun y => { y with
      vs := g.vs, voc := g.voc, budget := g.budget, meas := g.meas, peak := g.peak, gs2 := g.gs2, short := g.short }) s)
  | _, _ => s

/-- Clamps that nothing lets act any more are over (R328): SUPPLY_CLAMP is clear, or no SUPPLY_LIMIT node names the supply. -/
def clampsFollow (s : State) : State :=
  let named (x : Supply) : Bool := supplyClampOn s && (match limitNode s with | some n => n.1 == x.id | none => false)
  { s with prot.supplies := s.prot.supplies.map (fun x =>
      if named x then x else { x with clamp := false, riseFrom := none, clearFrom := none }) }

/-- Yarrow's and Tansy's step over the frame that ended. A port that nothing names any more takes it too while it still
reports a reduction, so that its limiting ends (R321). -/
def protectStep (s : State) : State :=
  let s := if graphRuns s then (List.range 24).foldl (fun s n => modelStep n s) s else s
  let s := (List.range 24).foldl (fun s n => tempSetTake n s) s
  let s := clampsFollow (tansyStep s)
  let named (n : Nat) : Bool := (modelOf s n).isSome || (match limitNode s with | some x => x.2.contains n | none => false)
    || (protOf s n).limiting || (protOf s n).red != 0
  if graphRuns s then ((List.range 24).filter named).foldl (fun s n => reductionStep n s) s else s

/-! ### The boundary -/

/-- The frame gathered from this boundary gets its number (R242). -/
def frameNumber (s : State) : State :=
  { s with gra.lastBoundary := some (boundaryTu s), gra.frameNo := (sampleNo s - s.gra.gridBase) / frameSize s }

/-- SINK nodes told late at this boundary already (R244). -/
def lateTold (s : State) : List Nat :=
  if 2 ≤ s.gra.frameNo ∧ frameRuns s (s.gra.frameNo - 2) then s.gra.lateSinks else []

/-- Loss of CSYN lock: the frames are late, each SINK told once, and the output is muted (Table 4.11 step 2). -/
def csynFrame (s : State) : State :=
  if s.clk.csynLost && !s.gra.muted then
    let s := { s with gra.muted := true }
    match s.gra.image with
    | some im =>
      lateTell (((im.indexed.filter (fun x => x.2.type == 1)).map (fun x => x.1)).filter (fun n => !(lateTold s).contains n)) s
    | none => s
  else s

/-- At the first frame boundary after CSYN's lock the output comes back, rising from zero over 10 ms (Table 4.11 step 4). -/
def csynFrameBack (s : State) : State :=
  if !s.clk.csynLost && s.gra.muted then { s with gra.muted := false, gra.rise := 0 } else s

/-- A drain begins at a frame boundary (R280 step 1). -/
def drainFrame (s : State) : State :=
  if s.gra.pause.testBit causeDrain && !s.sch.draining then drainCheck { s with sch.draining := true, sch.drained := false }
  else s

/-- Pages whose fields act at a frame boundary (R337, R399). -/
def pagesTake (s : State) : State :=
  let s := match s.prot.waiting1100 with
    | some (v, c) => complete c .ok { s with prot.page1100 := BitVec.ofNat 32 v, prot.waiting1100 := none }
    | none => s
  match s.pwr.waiting1400 with
  | some (v, c) =>
    autoHold (complete c .ok { s with
      pwr.page1400 := BitVec.ofNat 160 (mergeBits s.pwr.page1400.toNat v powerLate), pwr.waiting1400 := none })
  | none => s

/-- Everything that waits for a frame boundary, in order. -/
def frameTake (s : State) : State :=
  let s := completeAll s.gra.runs .ok { s with gra.runs := [] }
  let s := drainFrame (sorrelBoundary (paramApply (pauseResume s)))
  let s := railsTake (pagesTake (tablesTake s))
  let s := pointsTake (landRelease (movesFed (s.gra.lastBoundary.getD 0) s))
  { frameSums (protectStep (csynFrame (levelFrame s))) with pwr.evalPoint := true }

/-- FRAME_BOUNDARY (R242). In a change of Fh this is step 2 of Table 8.8, and what waits goes on waiting (R216) until the
boundary at which the graph resumes and the change completes. While device time is held no frame is numbered; the boundary is where the graph pauses (Table 4.12 step 3). -/
def execFrameBoundary (_ : Computed) (s : State) : Out :=
  .next (
    if s.time.held then (if active s then pauseTell s else s)
    else if !(active s && boundaryDue s) then s
    else match s.fab.fhChange with
      | some c =>
        if c.step = 1 then
          let s := fhApply c.target (oldFramePresent (pauseTell (frameStep (csynFrameBack (frameNumber s)))))
          { s with fab.fhChange := some { c with step := 3 }, pwr.evalPoint := true }
        else if c.step = 4 then
          let s := frameTake (pauseTell (frameStep (csynFrameBack (frameNumber { s with fab.fhChange := none }))))
          complete c.cid .ok s
        else s
      | none => frameTake (pauseTell (frameStep (csynFrameBack (frameNumber s)))))

/-! ### The switch -/

/-- The thermal states of a port that the first graph after a wake names (R323). -/
def thermalBack (n : Nat) (s : State) : State :=
  match (protOf s n).saved, modelEntry s n with
  | some (vc, m, t, ep), some e =>
    let same := ep == s.time.epoch
    let sec : Rat := ((devTime s - t : Nat) : Rat) / 24576000
    onProt n (fun p => { p with
      dVc := if same then vc * expDecay sec ((e.tauVc : Rat) / 100) else vc
      dM := if same then m * expDecay sec (e.tauM : Rat) else m
      restored := true, noTime := !same, saved := none }) s
  | _, _ => s

/-- Ports that the image names no more lose what the models showed of them. -/
def unnamed (n : Nat) (s : State) : State :=
  if (modelOf s n).isSome then s else onProt n (fun p => { p with modelled := false, exc := 0, gt := 1, gx := 1 }) s

/-- R334 again for each retired port, at the first E215 after a wake (R335). -/
def remapRedo (s : State) : State :=
  if s.prot.redo then
    ((List.range 24).filter (fun n => (faultOf s 0 n).st == FaultState.retired)).foldl (fun s n => remapPort n s)
      { s with prot.redo := false }
  else s

/-- The new image is in force: what hangs on E215. -/
def graphStarted (s : State) : State :=
  let s := (List.range 24).foldl (fun s n => thermalBack n (unnamed n s)) (remapRedo s)
  autoHold (volFollow none { s with svc.gEff := none, svc.gHp := none })

/-- GRAPH_LOADED (R255): the switch at boundary B. -/
def execGraphLoaded (s : State) : Out :=
  .next (
    if switchDue s && active s then
      let r := graphSwitch (sorrelAbort s)
      if r.2 then graphStarted r.1 else r.1
    else s)

end Sys2Proof.Machine
end

