-- ==== Sys2Proof/Machine/HostRows.lean ====
section
/-! DEFINITION. Meanings of the host-port rows (chapter 02). -/

namespace Sys2Proof.Machine

open Sys2Proof

/-- REGISTER_WRITE (R7, R34, R35). -/
def execRegisterWrite (m : Fin 4) (offset : Byte) (value : Word) (s : State) : Out := .next (hostWrite m offset value s)

/-- The instructions of Table 2.2. -/
def spiKnown (opcode : Byte) : Bool := opcode == 0x02 || opcode == 0x03 || opcode == 0x32 || opcode == 0x6B

/-- SPI_BAD_INSTRUCTION (R33). -/
def execSpiBadInstruction (opcode : Byte) (s : State) : Out :=
  .next (if portsLive s && !spiKnown opcode then protocolError 1 s else s)

/-- SPI_CS_RISE (R35). -/
def execSpiCsRise (how : XferEnd) (s : State) : Out := .next (xferEnd 0 how s)

/-- I2C_STOP_OR_RESTART (R36): port A is M1, port B M2. -/
def execI2cStopOrRestart (port : Fin 2) (how : XferEnd) (s : State) : Out :=
  .next (xferEnd (if port = 0 then 1 else 2) how s)

/-- PP_CLAIM_WRITE (R60). -/
def execPpClaimWrite (m : Fin 4) (value : Word) (s : State) : Out := .next (hostWrite m 0x10 value s)

/-- DOORBELL_REQ (R39, R44). -/
def execDoorbellReq (m : Fin 4) (s : State) : Out := .next (hostWrite m 0x14 1 s)

/-- DOORBELL_RSP_ACK (R44). -/
def execDoorbellRspAck (m : Fin 4) (s : State) : Out := .next (hostWrite m 0x14 2 s)

/-- An address byte that reaches a register, with the bits of `offset` that must be zero. -/
def atReg (reg offset : Byte) : Byte := reg ||| (offset &&& 0x83)

/-- MBX_DATA_WRITE (R40): bits 7, 1 and 0 of `offset` are those of the address byte. -/
def execMbxDataWrite (m : Fin 4) (offset : Byte) (value : Word) (s : State) : Out :=
  .next (hostWrite m (atReg 0x1C offset) value s)

/-- MBX_DATA_READ (Table 2.12). -/
def execMbxDataRead (m : Fin 4) (offset : Byte) (s : State) : Out := .next (hostRead m (atReg 0x1C offset) s)

/-- STREAM_READ (R41, R152). -/
def execStreamRead (m : Fin 4) (offset : Byte) (s : State) : Out := .next (hostRead m (atReg 0x20 offset) s)

/-- TIME_LO_READ (Table 2.16). -/
def execTimeLoRead (m : Fin 4) (offset : Byte) (s : State) : Out := .next (hostRead m (atReg 0x28 offset) s)

/-- PP_RESET with its key and a KIND (Table 2.17). -/
def resetWord (kind : Nat) : Word := BitVec.ofNat 32 (0xA5C3 * 2 ^ 16 + kind)

/-- MAILBOX_RESET (R43). -/
def execMailboxReset (m : Fin 4) (s : State) : Out := .next (hostWrite m 0x30 (resetWord 1) s)

/-- MAILBOX_RESET_DONE (R43). -/
def execMailboxResetDone (m : Fin 4) (s : State) : Out :=
  .next (onPort m (fun p => if p.resetWait && !p.reqBusy then mbxClear p else p) s)

/-- FIRMWARE_RESTART (R43). -/
def execFirmwareRestart (m : Fin 4) (s : State) : Out := .next (hostWrite m 0x30 (resetWord 2) s)

/-- PP_FULL_RESET (R43). -/
def execPpFullReset (m : Fin 4) (s : State) : Out := .next (hostWrite m 0x30 (resetWord 3) s)

end Sys2Proof.Machine
end

