-- ==== Sys2Proof/Machine/Dispatch.lean ====
section
/-! DEFINITION. One arm per command: a direct call of its meaning. -/

namespace Sys2Proof.Machine

open Sys2Proof

/-- The effect of a command on everything but the queue. -/
def exec (i : Instr) (s : State) : Host.Outcome State Fault Refusal :=
  match i with
  | .sysResultGet q => Sys2Proof.Machine.execSysResultGet q s
  | .sysPageRead q => Sys2Proof.Machine.execSysPageRead q s
  | .sysPageWrite q => Sys2Proof.Machine.execSysPageWrite q s
  | .sysTableWrite q => Sys2Proof.Machine.execSysTableWrite q s
  | .sysTableCommit q => Sys2Proof.Machine.execSysTableCommit q s
  | .ownGet q => Sys2Proof.Machine.execOwnGet q s
  | .ownHeartbeat q => Sys2Proof.Machine.execOwnHeartbeat q s
  | .ownHandover q => Sys2Proof.Machine.execOwnHandover q s
  | .ownAccept q => Sys2Proof.Machine.execOwnAccept q s
  | .evtRecordRead q => Sys2Proof.Machine.execEvtRecordRead q s
  | .evtRouteGet q => Sys2Proof.Machine.execEvtRouteGet q s
  | .evtRouteSet q => Sys2Proof.Machine.execEvtRouteSet q s
  | .evtSlotSet q => Sys2Proof.Machine.execEvtSlotSet q s
  | .evtTimeGet q => Sys2Proof.Machine.execEvtTimeGet q s
  | .clkStatusGet q => Sys2Proof.Machine.execClkStatusGet q s
  | .clkRefSelect q => Sys2Proof.Machine.execClkRefSelect q s
  | .clkOutSet q => Sys2Proof.Machine.execClkOutSet q s
  | .anaStatusGet q => Sys2Proof.Machine.execAnaStatusGet q s
  | .anaInSet q => Sys2Proof.Machine.execAnaInSet q s
  | .anaOutEnable q => Sys2Proof.Machine.execAnaOutEnable q s
  | .anaMicbiasSet q => Sys2Proof.Machine.execAnaMicbiasSet q s
  | .anaPgaDirect q => Sys2Proof.Machine.execAnaPgaDirect q s
  | .jackStatusGet q => Sys2Proof.Machine.execJackStatusGet q s
  | .jackHostSignal q => Sys2Proof.Machine.execJackHostSignal q s
  | .jackHpMeasure q => Sys2Proof.Machine.execJackHpMeasure q s
  | .jackTableSelect q => Sys2Proof.Machine.execJackTableSelect q s
  | .micStatusGet q => Sys2Proof.Machine.execMicStatusGet q s
  | .micEnable q => Sys2Proof.Machine.execMicEnable q s
  | .wakeStatusGet q => Sys2Proof.Machine.execWakeStatusGet q s
  | .wakeEnable q => Sys2Proof.Machine.execWakeEnable q s
  | .wakeRelease q => Sys2Proof.Machine.execWakeRelease q s
  | .wakeHistoryRead q => Sys2Proof.Machine.execWakeHistoryRead q s
  | .fltStatusGet q => Sys2Proof.Machine.execFltStatusGet q s
  | .fltTrimSet q => Sys2Proof.Machine.execFltTrimSet q s
  | .fltDelaySet q => Sys2Proof.Machine.execFltDelaySet q s
  | .fltBankLoad q => Sys2Proof.Machine.execFltBankLoad q s
  | .fltBankSwap q => Sys2Proof.Machine.execFltBankSwap q s
  | .fltChainSync q => Sys2Proof.Machine.execFltChainSync q s
  | .fltBankRead q => Sys2Proof.Machine.execFltBankRead q s
  | .routeGet q => Sys2Proof.Machine.execRouteGet q s
  | .routeSet q => Sys2Proof.Machine.execRouteSet q s
  | .routeDirect q => Sys2Proof.Machine.execRouteDirect q s
  | .routeDomainSet q => Sys2Proof.Machine.execRouteDomainSet q s
  | .routeLandingGet q => Sys2Proof.Machine.execRouteLandingGet q s
  | .routeLandingSet q => Sys2Proof.Machine.execRouteLandingSet q s
  | .routeSilenceGet q => Sys2Proof.Machine.execRouteSilenceGet q s
  | .routeSilenceSet q => Sys2Proof.Machine.execRouteSilenceSet q s
  | .routeLaneGet q => Sys2Proof.Machine.execRouteLaneGet q s
  | .routeLaneSet q => Sys2Proof.Machine.execRouteLaneSet q s
  | .gainGet q => Sys2Proof.Machine.execGainGet q s
  | .gainSet q => Sys2Proof.Machine.execGainSet q s
  | .gainDirect q => Sys2Proof.Machine.execGainDirect q s
  | .tdmStatusGet q => Sys2Proof.Machine.execTdmStatusGet q s
  | .tdmPortSet q => Sys2Proof.Machine.execTdmPortSet q s
  | .spdifStatusGet q => Sys2Proof.Machine.execSpdifStatusGet q s
  | .spdifInSet q => Sys2Proof.Machine.execSpdifInSet q s
  | .spdifCsRead q => Sys2Proof.Machine.execSpdifCsRead q s
  | .spdifOutSet q => Sys2Proof.Machine.execSpdifOutSet q s
  | .spdifOutCsSet q => Sys2Proof.Machine.execSpdifOutCsSet q s
  | .graphStatusGet q => Sys2Proof.Machine.execGraphStatusGet q s
  | .graphRun q => Sys2Proof.Machine.execGraphRun q s
  | .graphMeterRead q => Sys2Proof.Machine.execGraphMeterRead q s
  | .graphImageWrite q => Sys2Proof.Machine.execGraphImageWrite q s
  | .graphImageCommit q => Sys2Proof.Machine.execGraphImageCommit q s
  | .graphParamWrite q => Sys2Proof.Machine.execGraphParamWrite q s
  | .graphParamRead q => Sys2Proof.Machine.execGraphParamRead q s
  | .schedStatusGet q => Sys2Proof.Machine.execSchedStatusGet q s
  | .schedHistRead q => Sys2Proof.Machine.execSchedHistRead q s
  | .schedTaskRead q => Sys2Proof.Machine.execSchedTaskRead q s
  | .schedTaskControl q => Sys2Proof.Machine.execSchedTaskControl q s
  | .schedDelaySet q => Sys2Proof.Machine.execSchedDelaySet q s
  | .drvStatusGet q => Sys2Proof.Machine.execDrvStatusGet q s
  | .drvEnable q => Sys2Proof.Machine.execDrvEnable q s
  | .drvGroupEnable q => Sys2Proof.Machine.execDrvGroupEnable q s
  | .drvCharacterise q => Sys2Proof.Machine.execDrvCharacterise q s
  | .drvLoadRead q => Sys2Proof.Machine.execDrvLoadRead q s
  | .drvLoopRead q => Sys2Proof.Machine.execDrvLoopRead q s
  | .protStatusGet q => Sys2Proof.Machine.execProtStatusGet q s
  | .protSupplyGet q => Sys2Proof.Machine.execProtSupplyGet q s
  | .protFaultGet q => Sys2Proof.Machine.execProtFaultGet q s
  | .protRestore q => Sys2Proof.Machine.execProtRestore q s
  | .protTempSet q => Sys2Proof.Machine.execProtTempSet q s
  | .ringStatusGet q => Sys2Proof.Machine.execRingStatusGet q s
  | .ringRosterGet q => Sys2Proof.Machine.execRingRosterGet q s
  | .ringPpAccess q => Sys2Proof.Machine.execRingPpAccess q s
  | .ringBulkSend q => Sys2Proof.Machine.execRingBulkSend q s
  | .ringLinkTrain q => Sys2Proof.Machine.execRingLinkTrain q s
  | .hkStatusGet q => Sys2Proof.Machine.execHkStatusGet q s
  | .hkResultRead q => Sys2Proof.Machine.execHkResultRead q s
  | .hkTrigger q => Sys2Proof.Machine.execHkTrigger q s
  | .hkCalibrate q => Sys2Proof.Machine.execHkCalibrate q s
  | .pwrStatusGet q => Sys2Proof.Machine.execPwrStatusGet q s
  | .pwrLevelSet q => Sys2Proof.Machine.execPwrLevelSet q s
  | .pwrSleep q => Sys2Proof.Machine.execPwrSleep q s
  | .pwrGrantGet q => Sys2Proof.Machine.execPwrGrantGet q s
  | .svcStatusGet q => Sys2Proof.Machine.execSvcStatusGet q s
  | .svcSourceSelect q => Sys2Proof.Machine.execSvcSourceSelect q s
  | .svcVolumeSet q => Sys2Proof.Machine.execSvcVolumeSet q s
  | .svcSorrelStart q => Sys2Proof.Machine.execSvcSorrelStart q s
  | .svcSorrelStop q => Sys2Proof.Machine.execSvcSorrelStop q s
  | .svcSorrelRead q => Sys2Proof.Machine.execSvcSorrelRead q s
  | .bootStatusGet q => Sys2Proof.Machine.execBootStatusGet q s
  | .bootConfirm q => Sys2Proof.Machine.execBootConfirm q s
  | .bootImageWrite q => Sys2Proof.Machine.execBootImageWrite q s
  | .bootImageCommit q => Sys2Proof.Machine.execBootImageCommit q s
  | .bootRollbackAdvance q => Sys2Proof.Machine.execBootRollbackAdvance q s
  | .idGet q => Sys2Proof.Machine.execIdGet q s
  | .idCertRead q => Sys2Proof.Machine.execIdCertRead q s
  | .idAttest q => Sys2Proof.Machine.execIdAttest q s
  | .registerWrite m offset value => Sys2Proof.Machine.execRegisterWrite m offset value s
  | .spiBadInstruction opcode => Sys2Proof.Machine.execSpiBadInstruction opcode s
  | .spiCsRise how => Sys2Proof.Machine.execSpiCsRise how s
  | .i2cStopOrRestart port how => Sys2Proof.Machine.execI2cStopOrRestart port how s
  | .ppClaimWrite m value => Sys2Proof.Machine.execPpClaimWrite m value s
  | .doorbellReq m => Sys2Proof.Machine.execDoorbellReq m s
  | .doorbellRspAck m => Sys2Proof.Machine.execDoorbellRspAck m s
  | .mbxDataWrite m offset value => Sys2Proof.Machine.execMbxDataWrite m offset value s
  | .mbxDataRead m offset => Sys2Proof.Machine.execMbxDataRead m offset s
  | .streamRead m offset => Sys2Proof.Machine.execStreamRead m offset s
  | .timeLoRead m offset => Sys2Proof.Machine.execTimeLoRead m offset s
  | .mailboxReset m => Sys2Proof.Machine.execMailboxReset m s
  | .mailboxResetDone m => Sys2Proof.Machine.execMailboxResetDone m s
  | .firmwareRestart m => Sys2Proof.Machine.execFirmwareRestart m s
  | .ppFullReset m => Sys2Proof.Machine.execPpFullReset m s
  | .claimWindowClose => Sys2Proof.Machine.execClaimWindowClose s
  | .ownHeartbeatLapsed => Sys2Proof.Machine.execOwnHeartbeatLapsed s
  | .ownHandoverFailed => Sys2Proof.Machine.execOwnHandoverFailed s
  | .recordRelease => Sys2Proof.Machine.execRecordRelease s
  | .hirqPulseEnd ball => Sys2Proof.Machine.execHirqPulseEnd ball s
  | .routeGpioPulseEnd g => Sys2Proof.Machine.execRouteGpioPulseEnd g s
  | .gpioEvent slot => Sys2Proof.Machine.execGpioEvent slot s
  | .refMeasured freq ok errPpb => Sys2Proof.Machine.execRefMeasured freq ok errPpb s
  | .asynLocked band => Sys2Proof.Machine.execAsynLocked band s
  | .asynLockAttemptFail => Sys2Proof.Machine.execAsynLockAttemptFail s
  | .refLost cause => Sys2Proof.Machine.execRefLost cause s
  | .refReturned freq errPpb => Sys2Proof.Machine.execRefReturned freq errPpb s
  | .refPhaseJump jump => Sys2Proof.Machine.execRefPhaseJump jump s
  | .phaseAligned => Sys2Proof.Machine.execPhaseAligned s
  | .asynLockLost => Sys2Proof.Machine.execAsynLockLost s
  | .csynLockLost => Sys2Proof.Machine.execCsynLockLost s
  | .csynLocked band => Sys2Proof.Machine.execCsynLocked band s
  | .csynLockAttemptFail => Sys2Proof.Machine.execCsynLockAttemptFail s
  | .edgeLineLost => Sys2Proof.Machine.execEdgeLineLost s
  | .edgeLineLocked => Sys2Proof.Machine.execEdgeLineLocked s
  | .clkoutState k => Sys2Proof.Machine.execClkoutState k s
  | .xtalFail => Sys2Proof.Machine.execXtalFail s
  | .clockRebased source freq errPpb band csynBand => Sys2Proof.Machine.execClockRebased source freq errPpb band csynBand s
  | .xtalRestored => Sys2Proof.Machine.execXtalRestored s
  | .pgaGainStep ch => Sys2Proof.Machine.execPgaGainStep ch s
  | .pgaStepTimeout ch => Sys2Proof.Machine.execPgaStepTimeout ch s
  | .ainOverload ch => Sys2Proof.Machine.execAinOverload ch s
  | .ainDisableDone ch => Sys2Proof.Machine.execAinDisableDone ch s
  | .anaStageEnd fn => Sys2Proof.Machine.execAnaStageEnd fn s
  | .micbiasFault k => Sys2Proof.Machine.execMicbiasFault k s
  | .hpShort right => Sys2Proof.Machine.execHpShort right s
  | .cpFault => Sys2Proof.Machine.execCpFault s
  | .hpLoadMeasured left right => Sys2Proof.Machine.execHpLoadMeasured left right s
  | .hpMeasureHoldEnd => Sys2Proof.Machine.execHpMeasureHoldEnd s
  | .jdLevelChange k level => Sys2Proof.Machine.execJdLevelChange k level s
  | .jdDebounceEnd k => Sys2Proof.Machine.execJdDebounceEnd k s
  | .jackEvaluation k => Sys2Proof.Machine.execJackEvaluation k s
  | .jackStateTimer k => Sys2Proof.Machine.execJackStateTimer k s
  | .micStartupEnd ch => Sys2Proof.Machine.execMicStartupEnd ch s
  | .micFault ch kind => Sys2Proof.Machine.execMicFault ch kind s
  | .detectionFrameEnd e0 e1 e2 e3 samples => Sys2Proof.Machine.execDetectionFrameEnd e0 e1 e2 e3 samples s
  | .hangoverEnd => Sys2Proof.Machine.execHangoverEnd s
  | .historyOpen => Sys2Proof.Machine.execHistoryOpen s
  | .historyReleaseTimeout => Sys2Proof.Machine.execHistoryReleaseTimeout s
  | .historyEraseDone => Sys2Proof.Machine.execHistoryEraseDone s
  | .streamBlockReady => Sys2Proof.Machine.execStreamBlockReady s
  | .micMuteOn => Sys2Proof.Machine.execMicMuteOn s
  | .micMuteFall => Sys2Proof.Machine.execMicMuteFall s
  | .micMuteOff => Sys2Proof.Machine.execMicMuteOff s
  | .pdmClk0RateChange => Sys2Proof.Machine.execPdmClk0RateChange s
  | .filterSettled c => Sys2Proof.Machine.execFilterSettled c s
  | .bankSwapTakeEffect c => Sys2Proof.Machine.execBankSwapTakeEffect c s
  | .bankSwapDone c => Sys2Proof.Machine.execBankSwapDone c s
  | .delayFadeEnd c => Sys2Proof.Machine.execDelayFadeEnd c s
  | .fhChangeComplete => Sys2Proof.Machine.execFhChangeComplete s
  | .landingSetTimeout k => Sys2Proof.Machine.execLandingSetTimeout k s
  | .laneAutoRestart j => Sys2Proof.Machine.execLaneAutoRestart j s
  | .gainZeroCrossing x => Sys2Proof.Machine.execGainZeroCrossing x s
  | .gainRamped x => Sys2Proof.Machine.execGainRamped x s
  | .gainRampEnd x => Sys2Proof.Machine.execGainRampEnd x s
  | .routeApplied t => Sys2Proof.Machine.execRouteApplied t s
  | .routeFadeEnd t => Sys2Proof.Machine.execRouteFadeEnd t s
  | .landingLock k ppm => Sys2Proof.Machine.execLandingLock k ppm s
  | .landingRatio k ppm => Sys2Proof.Machine.execLandingRatio k ppm s
  | .landingLockLost k => Sys2Proof.Machine.execLandingLockLost k s
  | .silenceStart p first => Sys2Proof.Machine.execSilenceStart p first s
  | .silenceEnd p => Sys2Proof.Machine.execSilenceEnd p s
  | .mixerClip m => Sys2Proof.Machine.execMixerClip m s
  | .tdmFormatTakeEffect n => Sys2Proof.Machine.execTdmFormatTakeEffect n s
  | .tdmSlotMapTakeEffect n => Sys2Proof.Machine.execTdmSlotMapTakeEffect n s
  | .tdmSlaveAcquired n rate => Sys2Proof.Machine.execTdmSlaveAcquired n rate s
  | .tdmSlotError n => Sys2Proof.Machine.execTdmSlotError n s
  | .tdmClockLost n => Sys2Proof.Machine.execTdmClockLost n s
  | .spdifInLock k rate nonPcm => Sys2Proof.Machine.execSpdifInLock k rate nonPcm s
  | .spdifInUnlock k => Sys2Proof.Machine.execSpdifInUnlock k s
  | .spdifSubframeError k => Sys2Proof.Machine.execSpdifSubframeError k s
  | .spdifNonpcmDetected k pc bits16 => Sys2Proof.Machine.execSpdifNonpcmDetected k pc bits16 s
  | .spdifPcmReturn k => Sys2Proof.Machine.execSpdifPcmReturn k s
  | .spdifBlockEnd k good status user => Sys2Proof.Machine.execSpdifBlockEnd k good status user s
  | .spdifOutBlockStart valid => Sys2Proof.Machine.execSpdifOutBlockStart valid s
  | .spdifOutUnderrun => Sys2Proof.Machine.execSpdifOutUnderrun s
  | .frameBoundary f => Sys2Proof.Machine.execFrameBoundary f s
  | .graphLoaded => Sys2Proof.Machine.execGraphLoaded s
  | .graphSwitchFillDone => Sys2Proof.Machine.execGraphSwitchFillDone s
  | .taskReady t => Sys2Proof.Machine.execTaskReady t s
  | .itemDispatch core => Sys2Proof.Machine.execItemDispatch core s
  | .operationRetire op nonFinite histRead level => Sys2Proof.Machine.execOperationRetire op nonFinite histRead level s
  | .delayEntryFire list slot => Sys2Proof.Machine.execDelayEntryFire list slot s
  | .spillRefill => Sys2Proof.Machine.execSpillRefill s
  | .taskHeldRelease => Sys2Proof.Machine.execTaskHeldRelease s
  | .coreLoadWindow l0 l1 l2 l3 l4 l5 l6 l7 => Sys2Proof.Machine.execCoreLoadWindow l0 l1 l2 l3 l4 l5 l6 l7 s
  | .drvStageEnd n => Sys2Proof.Machine.execDrvStageEnd n s
  | .psgStageEnd g flt => Sys2Proof.Machine.execPsgStageEnd g flt s
  | .quietStopEnd n => Sys2Proof.Machine.execQuietStopEnd n s
  | .currentLimitTrip n positive => Sys2Proof.Machine.execCurrentLimitTrip n positive s
  | .drvStageFault n cause => Sys2Proof.Machine.execDrvStageFault n cause s
  | .psgFltAssert g => Sys2Proof.Machine.execPsgFltAssert g s
  | .characterisePortDone n l c rl le dcr tripped => Sys2Proof.Machine.execCharacterisePortDone n l c rl le dcr tripped s
  | .faultBackoffEnd cls ch => Sys2Proof.Machine.execFaultBackoffEnd cls ch s
  | .faultWindowEnd cls ch => Sys2Proof.Machine.execFaultWindowEnd cls ch s
  | .retryReask cls ch => Sys2Proof.Machine.execRetryReask cls ch s
  | .remapMixerMove mixer => Sys2Proof.Machine.execRemapMixerMove mixer s
  | .protLimitHoldEnd n => Sys2Proof.Machine.execProtLimitHoldEnd n s
  | .tansyLimitHoldEnd => Sys2Proof.Machine.execTansyLimitHoldEnd s
  | .mismatchWindowEnd n differs => Sys2Proof.Machine.execMismatchWindowEnd n differs s
  | .supplyClampRelease => Sys2Proof.Machine.execSupplyClampRelease s
  | .ringPeriodReceived p ok t age free => Sys2Proof.Machine.execRingPeriodReceived p ok t age free s
  | .ringDeadlineMiss k => Sys2Proof.Machine.execRingDeadlineMiss k s
  | .ringLinkDown p => Sys2Proof.Machine.execRingLinkDown p s
  | .ringSignalPoll p signal => Sys2Proof.Machine.execRingSignalPoll p signal s
  | .ringLinkUp p uid peer delay own => Sys2Proof.Machine.execRingLinkUp p uid peer delay own s
  | .ringTrainFail p mismatch => Sys2Proof.Machine.execRingTrainFail p mismatch s
  | .headTimingLost => Sys2Proof.Machine.execHeadTimingLost s
  | .headArbitrationDone => Sys2Proof.Machine.execHeadArbitrationDone s
  | .ringUnfolded => Sys2Proof.Machine.execRingUnfolded s
  | .presChangeBoundary => Sys2Proof.Machine.execPresChangeBoundary s
  | .ringClockLost => Sys2Proof.Machine.execRingClockLost s
  | .ringPpWriteMsg src payload => Sys2Proof.Machine.execRingPpWriteMsg src payload s
  | .ringPpReadMsg src seq payload => Sys2Proof.Machine.execRingPpReadMsg src seq payload s
  | .ringReadReplyMsg src seq payload => Sys2Proof.Machine.execRingReadReplyMsg src seq payload s
  | .ringEventRecordMsg src payload => Sys2Proof.Machine.execRingEventRecordMsg src payload s
  | .ringBulkStartMsg src payload => Sys2Proof.Machine.execRingBulkStartMsg src payload s
  | .ringBulkDataMsg src payload => Sys2Proof.Machine.execRingBulkDataMsg src payload s
  | .ringBulkAckMsg src payload => Sys2Proof.Machine.execRingBulkAckMsg src payload s
  | .ringArbitrationMsg payload => Sys2Proof.Machine.execRingArbitrationMsg payload s
  | .ringDepartureMsg src payload => Sys2Proof.Machine.execRingDepartureMsg src payload s
  | .ringPpAccessTimeout => Sys2Proof.Machine.execRingPpAccessTimeout s
  | .ringBulkTimeout => Sys2Proof.Machine.execRingBulkTimeout s
  | .hkSeqTrigger => Sys2Proof.Machine.execHkSeqTrigger s
  | .hkInjTrigger slot => Sys2Proof.Machine.execHkInjTrigger slot s
  | .hkConversionEnd raw => Sys2Proof.Machine.execHkConversionEnd raw s
  | .hkCalDone offset gain => Sys2Proof.Machine.execHkCalDone offset gain s
  | .hkRefSettled mv => Sys2Proof.Machine.execHkRefSettled mv s
  | .grantEvaluation => Sys2Proof.Machine.execGrantEvaluation s
  | .grantRefused => Sys2Proof.Machine.execGrantRefused s
  | .dvddSettled => Sys2Proof.Machine.execDvddSettled s
  | .dvddWaitTimeout => Sys2Proof.Machine.execDvddWaitTimeout s
  | .dvddOkLost => Sys2Proof.Machine.execDvddOkLost s
  | .supplyFaultReset => Sys2Proof.Machine.execSupplyFaultReset s
  | .idleExpired => Sys2Proof.Machine.execIdleExpired s
  | .sleepStepEnd => Sys2Proof.Machine.execSleepStepEnd s
  | .sleepDrainTimeout => Sys2Proof.Machine.execSleepDrainTimeout s
  | .hostActivityWake m => Sys2Proof.Machine.execHostActivityWake m s
  | .timedWake => Sys2Proof.Machine.execTimedWake s
  | .offGpioWake => Sys2Proof.Machine.execOffGpioWake s
  | .wakeStepEnd => Sys2Proof.Machine.execWakeStepEnd s
  | .sourceMachineEval lost => Sys2Proof.Machine.execSourceMachineEval lost s
  | .sourceStateTimer => Sys2Proof.Machine.execSourceStateTimer s
  | .volumeCapUpdate mv => Sys2Proof.Machine.execVolumeCapUpdate mv s
  | .sorrelStepEnd => Sys2Proof.Machine.execSorrelStepEnd s
  | .sorrelAnalysisDone clipped snr residual delay sections => Sys2Proof.Machine.execSorrelAnalysisDone clipped snr residual delay sections s
  | .powerOnReset => Sys2Proof.Machine.execPowerOnReset s
  | .powerOnResetRelease bootsel addr => Sys2Proof.Machine.execPowerOnResetRelease bootsel addr s
  | .resetNLow => Sys2Proof.Machine.execResetNLow s
  | .bootXtalTimeout => Sys2Proof.Machine.execBootXtalTimeout s
  | .bootComplete octal asynBand csynBand => Sys2Proof.Machine.execBootComplete octal asynBand csynBand s
  | .flashInstallDone ok => Sys2Proof.Machine.execFlashInstallDone ok s
  | .gpioEdgeObserved g level => Sys2Proof.Machine.execGpioEdgeObserved g level s
  | .ringSignalPresent p => Sys2Proof.Machine.execRingSignalPresent p s
  | .laneRampEnd j => Sys2Proof.Machine.execLaneRampEnd j s
  | .firmwareRestartReady => Sys2Proof.Machine.execFirmwareRestartReady s
  | .fwVerifyDone => Sys2Proof.Machine.execFwVerifyDone s
  | .confirmRecordWritten ok => Sys2Proof.Machine.execConfirmRecordWritten ok s
  | .otpBitsBlown => Sys2Proof.Machine.execOtpBitsBlown s
  | .attestationSigned => Sys2Proof.Machine.execAttestationSigned s
  | .chainSyncDue c => Sys2Proof.Machine.execChainSyncDue c s
  | .xt32StopDetected => Sys2Proof.Machine.execXt32StopDetected s
  | .wakeXtalTimeout => Sys2Proof.Machine.execWakeXtalTimeout s
  | .wakeRegulatorRetry => Sys2Proof.Machine.execWakeRegulatorRetry s
  | .powerOnThresholdPassed => Sys2Proof.Machine.execPowerOnThresholdPassed s
  | .ringPeriodStart got free => Sys2Proof.Machine.execRingPeriodStart got free s

end Sys2Proof.Machine
end

