-- ==== Sys2Proof/Machine/Instant.lean ====
section
/-! DEFINITION. The sample path of one tu, in the order of Table 1.3. -/

namespace Sys2Proof.Machine

open Sys2Proof

/-- Everything the audio halls do at this tu, before time goes on: what commands and rows did at this tu acts on the
samples of this tu. -/
def sampleTick (s : State) : State :=
  let s := (List.range 98).foldl (fun s c => chainStep c s) s
  let s := landsEnter false (ringInStep (landsStep (micRampEnds s)))
  let s := if onTick s (fhHz s) then captureTake (gatherRow (fabricStep (oldFramePresent (fineStep s)))) else s
  let s := landsEnter true s
  let s := captureStep (spdifFrames (tdmFrames s))
  if onTick s (fiHz s) then lanesStep s else s

/-- The drive ports, on whatever clock HALL_DRV has. -/
def driveAll (s : State) : State :=
  if hallRuns s hDRV then (List.range 24).foldl (fun s n => driveStep n s) s else s

/-- The sample path, while its halls run: the carriers of the drive ports on whatever clock they have, the audio halls on
ASYN. -/
def sampleStep (s : State) : State :=
  let s := if asynRuns s && hallRuns s hAUD then sampleTick s else s
  driveAll s

end Sys2Proof.Machine
end

