-- ==== Sys2Proof/Machine/Tick.lean ====
section
/-! DEFINITION. What the block does when no command waits (DESIGN CHOICE, log 2): the firmware takes the oldest request a
doorbell announced (R44 to R47, R416), or time passes. -/

namespace Sys2Proof.Machine

open Sys2Proof

/-! ### Taking a request -/

/-- Codes the boot ROM accepts (R416). -/
def romCodes : List Nat := [0x1600, 0x1680, 0x1681, 0x1700, 0x1701]

/-- A request may be taken: the firmware is ready, or the boot ROM waits for a load by this master. -/
def mayTake (m : Fin 4) (s : State) : Bool := s.boot.ready || romMaster s == some m

/-- A request whose bytes name no command is answered at once with its status (R46). -/
def answerUnread (b : List Byte) (m : Fin 4) (st : Status) (s : State) : State :=
  respond (leAt b 0 2) (readReq m b) { status := st } s

/-- The oldest request: a typed command for the queue, or an answer at once. -/
def takeRequest (m : Fin 4) (s : State) : State :=
  let b := slotBytes (portOf s m).reqSlot
  match decodeRequest m b with
  | .ok i =>
    if !s.boot.ready && !romCodes.contains (leAt b 0 2) then answerUnread b m .badCommand s
    else { s with pending := [i] }
  | .error .badLength => answerUnread b m .badLength s
  | .error .badCommand => answerUnread b m .badCommand s

/-! ### Time -/

/-- The comparator of OFF_GPIO_WAKE sees the wake level on GPIO0 (R387). -/
def offLevelSeen (s : State) : Bool := offGpioWake s && s.ev.gpioIn.getLsbD 0 == offGpioPol s

/-- The comparator's count of ticks. -/
def offLevelTick (s : State) : State :=
  { s with pwr.offLevelTicks := if offLevelSeen s then s.pwr.offLevelTicks + 1 else 0 }

/-- Device time stands still and ticks of 32.768 kHz are counted: RETAIN and OFF, from the commit point on, until step 3 of
the wake (R79 gives no tu between the commit point and the regulator's step: DESIGN CHOICE, log entry "Ticks from the
commit point"). -/
def tickCounted (s : State) : Bool :=
  match s.pwr.asleep, s.pwr.wake with
  | some sl, some w => decide (3 ≤ sl.target ∧ w.step ≤ 3)
  | some sl, none => decide (3 ≤ sl.target)
  | none, _ => false

/-- The entry in progress, if any, leads to OFF. -/
def entryOff (s : State) : Bool := match s.pwr.entry with | some e => e.target == 4 | none => false

/-- One tick of 32.768 kHz. -/
def slowTick (s : State) : State :=
  let off := match s.pwr.asleep with | some sl => sl.target == 4 | none => false
  let s := { s with pwr.asleep := s.pwr.asleep.map (fun sl => { sl with ticks := sl.ticks + 1 }) }
  if off then offLevelTick s else s

/-- Lanes and landings lose an end at once (R194, R215), while their hall runs. -/
def pathTick (s : State) : State := if hallRuns s hAUD then ringDepart (pathFollow s) else s

/-- The channels of the supervisor: class and index. -/
def faultChannels : List (Nat × Nat) :=
  ([(0, 24), (1, 16), (2, 2), (3, 6), (4, 24)] : List (Nat × Nat)).flatMap (fun c =>
    (List.range c.2).map (fun i => (c.1, i)))

/-- Windows whose end is the tu that begins close before anything else of that tu (R82, Table 3.15): grant timeouts,
back-offs, the release timeout of the history, the idle window, the stages of analog functions and drive ports, the hold after a measurement and silence windows. Their rows then find the closing done
(DESIGN CHOICE, log entry "Closings at the tick"). -/
def closeWindows (s : State) : State :=
  if !active s then s
  else
    let s := faultChannels.foldl (fun s c => backoffClose c.1 c.2 s) (refuseDue s)
    let s := idleExpire (histSettle s)
    let s := if hallRuns s hANA then anaSettle s else s
    let s := if hallRuns s hDRV then drvStagesClose s else s
    if hallRuns s hAUD then anaAutoOff (autoOff (silencesClose s)) else s

/-- One tu (R76): the samples of the present tu, then time; a lasting activity moves the idle window (R391). -/
def fastTick (s : State) : State :=
  let s := pathTick (stepTake s)
  let heard := hallRuns s hAUD && onTick s (fhHz s)
  let s := sampleStep s
  let s := lowStep (if heard then silencesSee s else s)
  let s := listenTick { busyTick s with time.now := s.time.now + 1 }
  let s := if s.time.now % tuPerTick = 0 ∧ entryOff s then offLevelTick s else s
  let s := ticksTurn s
  closeWindows (if active s && lastingActivity s then { s with pwr.lastActivity := s.time.now } else s)

/-- Time passes: one tu, one 32.768 kHz tick while only those are counted, or one period of HALL_CTRL's clock while device
time is held (R80). In power-on reset and while RESET_N is low nothing counts. -/
def passTime (s : State) : State :=
  if s.boot.life == .off || s.boot.life == .resetLow then s
  else if tickCounted s then slowTick s
  else if s.time.held then
    let s := pathTick s
    driveAll { s with time.heldTicks := s.time.heldTicks + 1 }
  else fastTick s

/-- The block with no command waiting. -/
def idle (s : State) : State :=
  match s.own.inbox with
  | (_, m) :: rest => if mayTake m s then takeRequest m { s with own.inbox := rest } else passTime s
  | [] => passTime s

end Sys2Proof.Machine
end

