-- ==== Sys2Proof/WellFormed.lean ====
section
/-! DEFINITION. What a sender of commands can bring: the sizes and ranges the spec gives to what a command carries. -/

namespace Sys2Proof

/-- A request fits its slot: LENGTH is at most 248 (R45). -/
def Req.wf (q : Req) : Bool := decide (q.payload.length ≤ 248)

/-- A ring control message fits: LEN is at most 1,012 (Table 14.6). -/
def ringPayloadWf (b : List Byte) : Bool := decide (b.length ≤ 1012)

/-- What a row that is no mailbox command brings. -/
def operandsWf : Instr → Bool
  | .spdifBlockEnd _ _ status user => status.length == 48 && user.length == 48
  | .ringPpWriteMsg _ b => ringPayloadWf b
  | .ringPpReadMsg _ _ b => ringPayloadWf b
  | .ringReadReplyMsg _ _ b => ringPayloadWf b
  | .ringEventRecordMsg _ b => ringPayloadWf b
  | .ringBulkStartMsg _ b => ringPayloadWf b
  | .ringBulkDataMsg _ b => ringPayloadWf b
  | .ringBulkAckMsg _ b => ringPayloadWf b
  | .ringArbitrationMsg b => ringPayloadWf b
  | .ringDepartureMsg _ b => ringPayloadWf b
  | _ => true

/-- A command a sender can bring. -/
def Instr.wf (i : Instr) : Bool :=
  match requestOf i with
  | some (_, q) => q.wf
  | none => operandsWf i

end Sys2Proof
end

