-- ==== Sys2Proof/Safety.lean ====
section
/-! DEFINITION. What a safe run is, in the terms the statements use: the state keeps its bounds and canonical forms,
a request is in a state to be served, a response stands in its slot. -/

namespace Sys2Proof.Machine

open Sys2Proof

/-! ### Serving a request -/

/-- No ownership window closes at this tu (R61, R62, R63). -/
def OwnQuiet (s : State) : Prop :=
  closedO s.own.claimEnd s = false ∧ (s.own.hbPeriod = 0 ∨ closed s.own.hbDue s = false)
    ∧ (∀ h, s.own.handover = some h → closed h.due s = false)

/-- What a request must meet whatever its command (R44, R46, R52): the firmware is READY, the response slot is free,
fewer than 8 commands of the master are PENDING, no hall has CLOSED crossings, LENGTH is at most 248, and STATUS and the
reserved FLAGS bits are zero. -/
structure CanServe (q : Req) (s : State) : Prop where
  ready : s.boot.ready = true
  quiet : OwnQuiet s
  slot : (portOf s q.m).rspReady = false
  room : (portOf s q.m).pend.length < 8
  halls : hallsOpen 0x7F s = true
  len : q.len ≤ 248
  status : q.status = 0
  flags : q.flags.toNat ≤ 1

/-- The same for an owner-only command (R46 check 3). -/
structure CanServeOwner (q : Req) (s : State) : Prop extends CanServe q s where
  owner : s.own.owner = some q.m

/-- The response of a command stands in the slot of its master: RSP_READY is 1 and REQ_BUSY is 0 (R44, R45). -/
def Replied (code : Nat) (q : Req) (st : Status) (payload : List Byte) (t : State) : Prop :=
  (portOf t q.m).rspSlot = slotWords (Resp.bytes
      { code := code, seq := q.seq.toNat, flags := 0, status := st, payload := payload })
    ∧ (portOf t q.m).rspReady = true ∧ (portOf t q.m).reqBusy = false

/-- The state after an answer into the free slot of the master: the response in the slot, RSP_READY risen, REQ_BUSY fallen
(R44 step 4), and nothing else. -/
def answered (code : Nat) (q : Req) (st : Status) (payload : List Byte) (s : State) : State :=
  onPort q.m (writeRsp { code := code, seq := q.seq.toNat, flags := 0, status := st, payload := payload }) s

/-- The state after a command that only reports and succeeds (R50). -/
def reported (code : Nat) (q : Req) (payload : List Byte) (s : State) : State := answered code q .ok payload s

/-- From `s` to `t` nothing changed but the page of the master that asked and the marks of its activity: the other
masters' pages, and every register, queue and timer of the part, are those of `s` (R50, R391). The model's own number for
commands moves on. -/
def MailFrame (q : Req) (t s : State) : Prop :=
  t = { s with
    ports := t.ports, own := { s.own with nextCid := t.own.nextCid }
    pwr := { s.pwr with lastActivity := t.pwr.lastActivity, abortBy := t.pwr.abortBy } }
  ∧ ∀ m : Fin 4, m ≠ q.m → portOf t m = portOf s m

/-- The command of the request stands as PENDING, behind those that did before (R52). -/
def Stands (code : Nat) (q : Req) (t s : State) : Prop :=
  (portOf t q.m).pend = (portOf s q.m).pend ++
    [{ cid := s.own.nextCid, seq := q.seq.toNat, code := code, quiet := q.flags.getLsbD 0 }]

/-! ### Events -/

/-- The part is awake and every hall's crossings are OPEN, so that an event reaches the pages when it occurs (R19, R64,
R69). -/
def Awake (s : State) : Prop := s.pwr.asleep = none ∧ hallsOpen 0x7F s = true

/-- The part runs: awake, with no supply fault, its firmware running, no sleep entry in progress, and every hall powered
and clocked, its crossings OPEN (`HallsStand` says that the halls follow from the rest). -/
structure Runs (s : State) : Prop where
  awake : s.pwr.asleep = none
  supply : s.pwr.supplyFault = false
  life : s.boot.life = .firmware
  entry : s.pwr.entry = none
  halls : ∀ h, h < 7 → hallRuns s h = true
  cross : hallsOpen 0x7F s = true

/-- The firmware runs or restarts, and the supply holds. -/
def Live (s : State) : Prop := (s.boot.life = .firmware ∨ s.boot.life = .restarting) ∧ s.pwr.supplyFault = false

/-- Every hall has its power. -/
def AllPowered (s : State) : Prop := ∀ h, h < 7 → (hallOf s h).powered = true

/-- Every hall is powered and clocked. -/
def AllRun (s : State) : Prop := ∀ h, h < 7 → hallRuns s h = true

/-- Power, clock and crossings of the halls follow the power state (R19, R22): HALL_AO always runs; every hall runs while the
part is active, up to step 7 of a sleep entry, and its crossings are OPEN up to step 6; DOZE keeps the power; after step 5 of
a wake from DOZE, LISTEN or RETAIN every hall runs again.  With it, what a sleep, an entry and a wake exclude of each other. -/
structure HallsStand (s : State) : Prop where
  ao : hallRuns s hAO = true
  aoOpen : (hallOf s hAO).cross = .opened
  powered : Live s → s.pwr.asleep = none → AllPowered s
  run : Live s → s.pwr.asleep = none → (∀ e, s.pwr.entry = some e → e.step < 7) → AllRun s
  cross : Live s → s.pwr.asleep = none → (∀ e, s.pwr.entry = some e → e.step < 6) → hallsOpen 0x7F s = true
  doze : ∀ sl, s.pwr.asleep = some sl → sl.target = 1 → Live s → sl.settled = true ∧ AllPowered s
  woken : ∀ w, s.pwr.wake = some w → w.step = 6 → w.leaving ≠ 4 → Live s → AllRun s ∧ hallsOpen 0x7F s = true
  sleeping : s.pwr.asleep.isSome = true → s.pwr.entry = none ∧ s.boot.ready = false
  wakes : ∀ w, s.pwr.wake = some w → ∃ sl, s.pwr.asleep = some sl ∧ w.leaving = sl.target
  readies : s.boot.ready = true → s.boot.life = .firmware
  boots : s.boot.life ≠ .firmware → s.boot.life ≠ .restarting →
    s.pwr.entry = none ∧ (s.pwr.asleep.isSome = true → s.pwr.wake.isSome = true)

/-- The summary bit of an event stands on every master's page (R64). -/
def Raised (ev : Nat) (t : State) : Prop := ∀ m : Fin 4, (portOf t m).evsum.getLsbD ev = true

/-! ### The boot state -/

/-- What holds of the boot state in every reachable state: the flash is listed in its canonical form, no rollback level
exceeds 64 (R418, R419), and READY stands only while the firmware runs (R414, R415). -/
structure BootSound (s : State) : Prop where
  flash : memWf s.boot.flash = true
  otp : s.boot.otpLevel ≤ 64
  image : s.boot.imgLevel ≤ 64
  loaded : ∀ im, s.boot.loaded = some im → fwLevelOf im ≤ 64
  ready : s.boot.ready = true → s.boot.life = .firmware

end Sys2Proof.Machine
end

