-- ==== Sys2Proof/Certificates/Slice0/Obligations.lean ====
section
/-! DEFINITION. The statements for the provers: what the commands do, family by family, and what holds of the machine
as a whole. -/

open Sys2Proof Sys2Proof.Machine

/-- For every state and every command at the front of its queue, a step is the command's meaning on the state with
the rest of the queue. The queue is the model's (log 1); R47 has requests taken one at a time, in order. -/
def Obligations.StepRunsFront : Prop :=
  ∀ (c : Instr) (rest : List Instr) (s : State),
    step { s with pending := c :: rest } = exec c { s with pending := rest }

/-- With an empty queue a step gives a next state: where a doorbell announced a request and the firmware is READY,
the request leaves the inbox and its command, read from the request slot, waits in the queue; where none is
announced and device time runs, one tu passes: the count of tu rises by one, the epoch, its beginning and the hold
of device time are as they were, and no command comes into the queue (the model's choice, log 2). -/
def Obligations.EmptyQueueStep : Prop :=
  (∀ (s : State) (d : Nat) (m : Fin 4) (rest : List (Nat × Fin 4)) (i : Instr),
    s.pending = [] → s.own.inbox = (d, m) :: rest → s.boot.ready = true →
    decodeRequest m (slotBytes (portOf s m).reqSlot) = .ok i →
    step s = .next { s with own.inbox := rest, pending := [i] })
  ∧ (∀ s : State, s.pending = [] → s.own.inbox = [] → s.boot.life = .firmware → s.time.held = false →
      Awake s → ∃ t, step s = .next t ∧ t.time.now = s.time.now + 1
        ∧ t.time.epoch = s.time.epoch ∧ t.time.start = s.time.start ∧ t.time.held = false ∧ t.pending = [])

/-- For every well-formed mailbox command, whatever SEQ, FLAGS, STATUS and payload it carries, the bytes of its
request, whatever stands behind them in the slot, decode to that command with every operand. -/
def Obligations.RequestRoundTrip : Prop :=
  ∀ (i : Instr) (code : Nat) (q : Req) (rest : List Byte), requestOf i = some (code, q) → Instr.wf i = true →
    decodeRequest q.m (encode i ++ rest) = .ok i

/-- OWN_GET, EVT_TIME_GET, CLK_STATUS_GET, ANA_STATUS_GET, JACK_STATUS_GET, MIC_STATUS_GET, WAKE_STATUS_GET,
ROUTE_SILENCE_GET, ROUTE_LANE_GET, PROT_STATUS_GET, RING_ROSTER_GET, PWR_STATUS_GET, SVC_STATUS_GET, BOOT_STATUS_GET
and ID_GET, served with LENGTH 0 by the firmware, answer OK with a report of the command's length in the response
slot of the master that asked; RSP_READY rises, REQ_BUSY falls, and every other register, queue, timer and page of
the part is unchanged. PWR_GRANT_GET does the same with 4 bytes and 8 for each grant it lists, at most 30. -/
def Obligations.PlainReports : Prop :=
  (∀ e ∈ ([(Instr.ownGet, 0x0200, 12), (Instr.evtTimeGet, 0x0302, 16), (Instr.clkStatusGet, 0x0400, 24),
      (Instr.anaStatusGet, 0x0500, 36), (Instr.jackStatusGet, 0x0600, 16), (Instr.micStatusGet, 0x0700, 20),
      (Instr.wakeStatusGet, 0x0800, 24), (Instr.routeSilenceGet, 0x0A05, 64), (Instr.routeLaneGet, 0x0A07, 32),
      (Instr.protStatusGet, 0x1100, 192), (Instr.ringRosterGet, 0x1201, 40), (Instr.pwrStatusGet, 0x1400, 28),
      (Instr.svcStatusGet, 0x1500, 16), (Instr.bootStatusGet, 0x1600, 24), (Instr.idGet, 0x1700, 20)] :
        List ((Req → Instr) × Nat × Nat)),
    ∀ (q : Req) (s : State), CanServe q s → q.payload = [] → s.boot.life = .firmware →
      ∃ p : List Byte, p.length = e.2.2 ∧ exec (e.1 q) s = .next (reported e.2.1 q p s))
  ∧ ∀ (q : Req) (s : State), CanServe q s → q.payload = [] →
      ∃ p : List Byte, p.length = 4 + 8 * min 30 (s.pwr.held.length + s.pwr.queue.length)
        ∧ exec (.pwrGrantGet q) s = .next (reported 0x1403 q p s)

/-- With LENGTH and fields as the facts tables state, EVT_ROUTE_GET answers COUNT route words from FIRST behind the
request's own bytes; SYS_PAGE_READ COUNT bytes of a page from OFFSET; FLT_BANK_READ COUNT bytes of a bank image;
SCHED_TASK_READ COUNT task descriptors of 32 bytes; DRV_LOAD_READ the 32 bytes of the load entry WHICH of PORT with
its validity; PROT_FAULT_GET the channels of CLASS, 8 bytes each; ID_CERT_READ COUNT bytes of the certificate. Each
leaves everything but the response slot of the master unchanged. -/
def Obligations.OperandReports : Prop :=
  ∀ (q : Req) (s : State), CanServe q s → s.boot.life = .firmware →
    (q.len = 4 → 1 ≤ q.u8 2 → q.u8 2 ≤ 60 → q.u16 0 + q.u8 2 ≤ 256 → zeros q 3 1 = true →
      exec (.evtRouteGet q) s = .next (reported 0x0301 q
        (q.payload ++ (List.range (q.u8 2)).flatMap (fun k => leBytes 4 (vget s.ev.route (q.u16 0 + k)).toNat)) s))
    ∧ (∀ n v, pageLive s (q.u16 0) = some (n, v) → q.len = 8 → 1 ≤ q.u16 4 → q.u16 4 ≤ 240 → q.u16 2 + q.u16 4 ≤ n →
      zeros q 6 2 = true →
      exec (.sysPageRead q) s = .next (reported 0x0180 q
        (leBytes 2 (q.u16 0) ++ leBytes 2 (q.u16 2) ++ leBytes 2 n ++ leBytes 2 0
          ++ leBytes (q.u16 4) (v >>> (8 * q.u16 2))) s))
    ∧ (∀ img, img = (if q.u8 1 = 0 then (chainOf s (q.u8 0)).bankA else (chainOf s (q.u8 0)).bankB).image →
      q.len = 8 → trimChain (q.u8 0) = true → q.u8 1 ≤ 1 → 1 ≤ q.u16 4 → q.u16 4 ≤ 240 → zeros q 6 2 = true →
      q.u16 2 + q.u16 4 ≤ img.length →
      exec (.fltBankRead q) s = .next (reported 0x0983 q (q.payload.take 8 ++ (img.drop (q.u16 2)).take (q.u16 4)) s))
    ∧ (q.len = 4 → 1 ≤ q.u8 2 → q.u8 2 ≤ 7 → q.u16 0 + q.u8 2 ≤ 1024 → zeros q 3 1 = true →
      ∃ p : List Byte, p.length = 8 + 32 * q.u8 2 ∧ exec (.schedTaskRead q) s = .next (reported 0x0F80 q p s))
    ∧ (∀ e, e = (if q.u8 1 = 0 then (drvOf s (q.u8 0)).load else (drvOf s (q.u8 0)).measured) →
      q.len = 4 → q.u8 0 < 24 → q.u8 1 < 2 → zeros q 2 2 = true →
      exec (.drvLoadRead q) s = .next (reported 0x1004 q
        (leBytes 1 (if e.isSome then 1 else 0) ++ List.replicate 3 0 ++ e.getD (List.replicate 32 0)) s))
    ∧ (q.len = 4 → q.u8 0 < 5 → zeros q 1 3 = true →
      ∃ p : List Byte, p.length = 4 + 8 * classSize (q.u8 0) ∧ exec (.protFaultGet q) s = .next (reported 0x1102 q p s))
    ∧ (q.len = 8 → 1 ≤ q.u16 2 → q.u16 2 ≤ 240 → zeros q 4 4 = true → q.u16 0 + q.u16 2 ≤ Config.cert.length →
      exec (.idCertRead q) s = .next (reported 0x1701 q
        (q.payload ++ (Config.cert.drop (q.u16 0)).take (q.u16 2)) s))

/-- SYS_RESULT_GET removes the recorded final statuses it answers; EVT_RECORD_READ removes the records it answers
and clears the count of drops; FLT_STATUS_GET clears CLIP of the chain; GAIN_GET clears MIXER_CLIPS; TDM_STATUS_GET
the SLOT_ERRS of the ports; SPDIF_STATUS_GET the ERRS of the receivers; GRAPH_STATUS_GET LATE; SCHED_STATUS_GET
MISSES and STEALS; DRV_STATUS_GET TRIPS and CLIPS; RING_STATUS_GET MISSES and CRC_ERRS; HK_STATUS_GET OVERRUN,
REFUSED and INJ_OVR. Each answers OK with a report of its length and leaves everything else as it was. -/
def Obligations.ClearingReports : Prop :=
  ∀ (q : Req) (s : State), CanServe q s →
    (q.len = 0 → ∃ p : List Byte, p.length = 4 + 4 * (portOf s q.m).results.length ∧
      exec (.sysResultGet q) s = .next (reported 0x0101 q p (onPort q.m (fun x => { x with results := [] }) s)))
    ∧ (q.len = 4 → 1 ≤ q.u8 0 → q.u8 0 ≤ 15 → zeros q 1 3 = true →
      ∃ p : List Byte, p.length = 8 + 16 * min (q.u8 0) (portOf s q.m).queue.length ∧
        exec (.evtRecordRead q) s = .next (reported 0x0300 q p
          (onPort q.m (fun x => { x with queue := x.queue.drop (q.u8 0), dropped := 0 }) s)))
    ∧ (q.len = 4 → q.u8 0 < 98 → zeros q 1 3 = true → ∃ p : List Byte, p.length = 20 ∧
        exec (.fltStatusGet q) s = .next (reported 0x0900 q p (onChain (q.u8 0) (fun k => { k with clip := 0 }) s)))
    ∧ (q.len = 4 → 1 ≤ q.u8 2 → q.u8 2 ≤ 60 → q.u16 0 + q.u8 2 ≤ 1280 → zeros q 3 1 = true →
        ∃ p : List Byte, p.length = 8 + 4 * q.u8 2 ∧
          exec (.gainGet q) s = .next (reported 0x0B00 q p { s with fab.mixerClips := 0 }))
    ∧ (q.len = 0 → ∃ p : List Byte, p.length = 48 ∧ exec (.tdmStatusGet q) s = .next (reported 0x0C00 q p
        { s with tdm.ports := s.tdm.ports.map (fun x => { x with slotErrs := 0 }) }))
    ∧ (q.len = 0 → ∃ p : List Byte, p.length = 20 ∧ exec (.spdifStatusGet q) s = .next (reported 0x0D00 q p
        { s with tdm.rx := s.tdm.rx.map (fun x => { x with errs := 0 }) }))
    ∧ (q.len = 0 → ∃ p : List Byte, p.length = 24 ∧
        exec (.graphStatusGet q) s = .next (reported 0x0E00 q p { s with gra.late := 0 }))
    ∧ (q.len = 0 → ∃ p : List Byte, p.length = 104 ∧ exec (.schedStatusGet q) s = .next (reported 0x0F00 q p
        { s with sch.misses := 0, sch.steals := Vector.replicate 8 0 }))
    ∧ (q.len = 0 → ∃ p : List Byte, p.length = 204 ∧ exec (.drvStatusGet q) s = .next (reported 0x1000 q p
        { s with drv.ports := s.drv.ports.map (fun x => { x with trips := 0, clips := 0 }) }))
    ∧ (q.len = 0 → ∃ p : List Byte, p.length = 28 ∧
        exec (.ringStatusGet q) s = .next (reported 0x1200 q p { s with ring.misses := 0, ring.crcErrs := 0 }))
    ∧ (q.len = 0 → ∃ p : List Byte, p.length = 20 ∧ exec (.hkStatusGet q) s = .next (reported 0x1300 q p
        { s with hk.overrun := 0, hk.refused := 0, hk.injOvr := Vector.replicate 4 0 }))

/-- ROUTE_GET answers COUNT targets from FIRST and clears CLIP of those targets only; HK_RESULT_READ answers COUNT
channels from FIRST and clears NEW of those channels only; SCHED_HIST_READ answers the sixteen counts of a core and
clears them when CLEAR is 1; PROT_SUPPLY_GET clears CLAMPS of the supply it answers. Each answers OK and leaves
everything else unchanged. -/
def Obligations.EntryReports : Prop :=
  ∀ (q : Req) (s : State), CanServe q s →
    (q.len = 4 → 1 ≤ q.u8 2 → q.u8 2 ≤ 30 → q.u16 0 + q.u8 2 ≤ 1152 → zeros q 3 1 = true →
      ∃ t p, exec (.routeGet q) s = .next (reported 0x0A00 q p t) ∧ p.length = 8 + 8 * q.u8 2
        ∧ t = { s with fab.targets := t.fab.targets }
        ∧ ∀ k < 1152, targetOf t k =
            (if q.u16 0 ≤ k ∧ k < q.u16 0 + q.u8 2 then { targetOf s k with clip := 0 } else targetOf s k))
    ∧ (q.len = 4 → 1 ≤ q.u8 1 → q.u8 1 ≤ 20 → q.u8 0 + q.u8 1 ≤ 24 → zeros q 2 2 = true →
      ∃ t p, exec (.hkResultRead q) s = .next (reported 0x1301 q p t) ∧ p.length = 8 + 12 * q.u8 1
        ∧ t = { s with hk.chans := t.hk.chans }
        ∧ ∀ k < 24, hkCh t k =
            (if q.u8 0 ≤ k ∧ k < q.u8 0 + q.u8 1 then { hkCh s k with new := false } else hkCh s k))
    ∧ (q.len = 4 → q.u8 0 < 8 → q.u8 1 ≤ 1 → zeros q 2 2 = true →
      exec (.schedHistRead q) s = .next (reported 0x0F01 q
        (leBytes 1 (q.u8 0) ++ List.replicate 3 0 ++ (vget s.sch.hist (q.u8 0)).toList.flatMap (leBytes 4))
        (if q.u8 1 = 1 then { s with sch.hist := vset s.sch.hist (q.u8 0) (Vector.replicate 16 0) } else s)))
    ∧ (∀ x, s.prot.supplies.find? (fun y => y.id == q.u16 0) = some x → q.len = 4 → zeros q 2 2 = true →
      ∃ p : List Byte, p.length = 20 ∧ exec (.protSupplyGet q) s = .next (reported 0x1101 q p
        { s with prot.supplies := s.prot.supplies.map (fun y => if y.id = x.id then { y with clamps := 0 } else y) }))

/-- DRV_LOOP_READ answers 16 bytes where the port's loop is LC and a load entry is in force or selected, and
NOT_READY where there is none; SPDIF_CS_READ answers the 48 bytes sent for the output, the 96 bytes of the last
block for a receiver, and NOT_READY before a block was received; SVC_SORREL_READ answers the result of the channel,
and NOT_READY before one; GRAPH_PARAM_READ COUNT bytes of a node's parameter block, GRAPH_METER_READ the levels of a
METER node and starts PEAK again, each NOT_READY with no graph loaded; ROUTE_LANDING_GET 16 bytes; WAKE_HISTORY_READ
the samples asked for where the history is open for the master and holds them, and PRIVACY with E115 where it is not
open, the history LOCKED again first where its release timeout has closed. Nothing else changes. -/
def Obligations.ConditionalReports : Prop :=
  ∀ (q : Req) (s : State), CanServe q s →
    (q.len = 4 → q.u8 0 < 24 → zeros q 1 3 = true → ∀ e, presentEntry s (q.u8 0) = some e → drvLoop s (q.u8 0) = 0 →
      (loadEntry s (q.u8 0)).isSome = true →
      ∃ p : List Byte, p.length = 16 ∧ exec (.drvLoopRead q) s = .next (reported 0x1080 q p s))
    ∧ (q.len = 4 → q.u8 0 < 24 → zeros q 1 3 = true → presentEntry s (q.u8 0) = none →
      exec (.drvLoopRead q) s = .next (answered 0x1080 q .notReady [] s))
    ∧ (q.len = 4 → q.u8 0 = 2 → zeros q 1 3 = true →
      exec (.spdifCsRead q) s = .next (reported 0x0D02 q (outSent s) s))
    ∧ (q.len = 4 → q.u8 0 < 2 → zeros q 1 3 = true → ∀ b u, (rxOf s (q.u8 0)).status = some b →
      (rxOf s (q.u8 0)).user = some u → exec (.spdifCsRead q) s = .next (reported 0x0D02 q (b ++ u) s))
    ∧ (q.len = 4 → q.u8 0 < 2 → zeros q 1 3 = true → (rxOf s (q.u8 0)).status = none →
      exec (.spdifCsRead q) s = .next (answered 0x0D02 q .notReady [] s))
    ∧ (q.len = 4 → q.u8 0 ≤ 15 → zeros q 1 3 = true → ∀ r, vget s.svc.results (q.u8 0) = some r →
      ∃ p : List Byte, exec (.svcSorrelRead q) s = .next (reported 0x1505 q p s)
        ∧ p.take 12 = leBytes 1 r.result ++ (p.drop 1).take 1 ++ leBytes 2 (sat 16 r.residual)
            ++ leBytes 4 (sat 32 r.delay) ++ leBytes 2 (sat 16 r.snr) ++ [0, 0])
    ∧ (q.len = 4 → q.u8 0 ≤ 15 → zeros q 1 3 = true → vget s.svc.results (q.u8 0) = none →
      exec (.svcSorrelRead q) s = .next (answered 0x1505 q .notReady [] s))
    ∧ (q.len = 12 → zeros q 2 2 = true → 1 ≤ q.u16 8 → q.u16 8 ≤ 232 → zeros q 10 2 = true → ∀ im, s.gra.image = some im →
      q.u16 0 < im.nodes.length → q.u32 4 + q.u16 8 ≤ (nodeAt im (q.u16 0)).param.length →
      exec (.graphParamRead q) s = .next (reported 0x0E83 q
        (q.payload ++ ((nodeAt im (q.u16 0)).param.drop (q.u32 4)).take (q.u16 8)) s))
    ∧ (q.len = 12 → zeros q 2 2 = true → 1 ≤ q.u16 8 → q.u16 8 ≤ 232 → zeros q 10 2 = true → s.gra.image = none →
      exec (.graphParamRead q) s = .next (answered 0x0E83 q .notReady [] s))
    ∧ (q.len = 4 → zeros q 2 2 = true → ∀ im, s.gra.image = some im → q.u16 0 < im.nodes.length →
      (nodeAt im (q.u16 0)).type = 12 →
      ∃ p : List Byte, p.length = 4 + 4 * (nodeAt im (q.u16 0)).nin ∧ exec (.graphMeterRead q) s = .next (reported 0x0E02 q p
        { s with gra.meters := s.gra.meters.map (fun m =>
            if m.1 = q.u16 0 then (m.1, m.2.1, { m.2.2 with peak := m.2.2.level }) else m) }))
    ∧ (q.len = 4 → q.u8 0 < 4 → zeros q 1 3 = true →
      ∃ t p, p.length = 16 ∧ exec (.routeLandingGet q) s = .next (reported 0x0A03 q p t) ∧ t = { s with free := t.free })
    ∧ (q.len = 8 → 1 ≤ q.u8 4 → q.u8 4 ≤ 30 → zeros q 5 3 = true → streamOpen s q.m = true → oldestInstant s ≤ q.u32 0 →
      q.u32 0 + q.u8 4 ≤ writeIndex s →
      exec (.wakeHistoryRead q) s = .next (reported 0x0803 q
        (q.payload ++ (List.range (q.u8 4)).flatMap (fun k => leBytes 8 (instantAt s (q.u32 0 + k)).toNat)) s))
    ∧ (q.len = 8 → 1 ≤ q.u8 4 → q.u8 4 ≤ 30 → zeros q 5 3 = true → streamOpen s q.m = false →
      exec (.wakeHistoryRead q) s = .next (answered 0x0803 q .privacy (q.payload ++ List.replicate (8 * q.u8 4) 0)
        (raise 115 q.m.val (histSettle s))))

/-- With the port pages live, a write of PP_STATUS clears exactly the latched bits TIME_DISC, EVQ_OVF and DB_OVERRUN
at which it holds 1; PP_MBX_PTR takes SLOT and WORD; PP_IRQCFG, written by the owner or while no owner is elected,
takes the bits that are not reserved; a write of PP_EVSUMk clears exactly the bits at which it holds 1, a write of
PP_EVMASKk replaces the 32 bits of the word, and every other bit of the group and every other page and register is
unchanged. An offset with bit 7, 1 or 0 set reaches the register of the remaining bits and raises E244 with ARG 2. -/
def Obligations.RegisterWrites : Prop :=
  ∀ (m : Fin 4) (v : Word) (s : State), portsLive s = true →
    exec (.registerWrite m 0x08 v) s = .next (onPort m (fun p => { p with
        timeDisc := p.timeDisc && !v.getLsbD 29, evqOvf := p.evqOvf && !v.getLsbD 28
        dbOverrun := p.dbOverrun && !v.getLsbD 4 }) s)
    ∧ exec (.registerWrite m 0x18 v) s = .next (onPort m (fun p => { p with
        ptrSlot := v.getLsbD 8, ptrWord := Fin.ofNat 64 (v.toNat / 4) }) s)
    ∧ (s.own.owner = none ∨ s.own.owner = some m →
        exec (.registerWrite m 0x24 v) s = .next { s with own.irqcfg := v &&& 0x00FF3F3F })
    ∧ (∀ k < 8, ∃ t, exec (.registerWrite m (BitVec.ofNat 8 (0x40 + 4 * k)) v) s = .next t
        ∧ t = onPort m (fun p => { p with evsum := (portOf t m).evsum }) s
        ∧ ∀ j < 256, (portOf t m).evsum.getLsbD j
            = ((portOf s m).evsum.getLsbD j && !(decide (j / 32 = k) && v.getLsbD (j % 32))))
    ∧ (∀ k < 8, ∃ t, exec (.registerWrite m (BitVec.ofNat 8 (0x60 + 4 * k)) v) s = .next t
        ∧ t = onPort m (fun p => { p with evmask := (portOf t m).evmask }) s
        ∧ ∀ j < 256, (portOf t m).evmask.getLsbD j
            = (if j / 32 = k then v.getLsbD (j % 32) else (portOf s m).evmask.getLsbD j))
    ∧ (∀ offset : Byte, offset &&& 0x83 ≠ 0 →
        exec (.registerWrite m offset v) s = exec (.registerWrite m (offset &&& 0x7C) v) (raise 244 2 s))

/-- With the port pages live, an SPI instruction that Table 2.2 does not list raises E244 with ARG 1; a transaction
of SPI that ends before its instruction and address are complete, and one of SPI or of an I2C port that ends in the
middle of a word being written, raise E244 with ARG 3, after an E244 with ARG 2 where the address byte of that word
was misaligned. Nothing else changes but what the event itself does. -/
def Obligations.ProtocolErrors : Prop :=
  ∀ s : State, portsLive s = true →
    (∀ opcode : Byte, opcode ∉ ([0x02, 0x03, 0x32, 0x6B] : List Byte) →
      exec (.spiBadInstruction opcode) s = .next (raise 244 1 s))
    ∧ exec (.spiCsRise .void) s = .next (raise 244 3 s)
    ∧ (∀ offset : Byte, exec (.spiCsRise (.partialWrite offset)) s
        = .next (raise 244 3 (if offset &&& 0x83 = 0 then s else raise 244 2 s)))
    ∧ (∀ (port : Fin 2) (offset : Byte), exec (.i2cStopOrRestart port (.partialWrite offset)) s
        = .next (raise 244 3 (if offset &&& 0x83 = 0 then s else raise 244 2 s)))

/-- With the port pages live: a write of PP_MBX_DATA with PP_MBX_PTR in the request slot and REQ_BUSY 0 writes the
word the pointer names and moves the pointer on by one word, modulo 64; a read returns the word the pointer names
and moves the pointer on; a read of PP_STREAM of the master served removes and returns the next word while the
stream has one, and of any other master, or once the release timeout has closed (the history is LOCKED again first),
returns zero and raises E115; a read of PP_TIME_LO returns the low word of device time and holds the high word in
PP_TIME_HI. Nothing else changes. -/
def Obligations.SlotAccess : Prop :=
  ∀ (m : Fin 4) (s : State), portsLive s = true →
    (∀ v : Word, (portOf s m).ptrSlot = false → (portOf s m).reqBusy = false →
      exec (.mbxDataWrite m 0 v) s = .next (onPort m (fun p => { p with
        reqSlot := p.reqSlot.set p.ptrWord.val v p.ptrWord.isLt, ptrWord := p.ptrWord + 1 }) s))
    ∧ (∀ v : Word, (portOf s m).ptrSlot = true ∨ (portOf s m).reqBusy = true → exec (.mbxDataWrite m 0 v) s = .next s)
    ∧ exec (.mbxDataRead m 0) s = .next (onPort m (fun p => { p with
        dataOut := if p.ptrSlot then p.rspSlot.get p.ptrWord else p.reqSlot.get p.ptrWord
        ptrWord := p.ptrWord + 1 }) s)
    ∧ (∀ w ws, streamOpen s m = true → s.mic.stream = w :: ws →
      exec (.streamRead m 0) s = .next (onPort m (fun p => { p with dataOut := w }) { s with mic.stream := ws }))
    ∧ (streamOpen s m = false →
      exec (.streamRead m 0) s = .next (onPort m (fun p => { p with dataOut := 0 }) (raise 115 m.val (histSettle s))))
    ∧ exec (.timeLoRead m 0) s = .next (onPort m (fun p => { p with
        timeHi := BitVec.ofNat 32 (devTime s / 2 ^ 32), dataOut := BitVec.ofNat 32 (devTime s) }) s)

/-- With the port pages live and the firmware READY, REQ with REQ_BUSY 0 raises REQ_BUSY and puts the master behind
every doorbell of an earlier tu and behind the masters of lower index of the same tu; REQ with REQ_BUSY 1 sets
DB_OVERRUN, raises E244 with ARG 4 and takes no request; RSP_ACK lowers RSP_READY, and where a response was held for
the slot it enters the slot and RSP_READY rises again with it. -/
def Obligations.Doorbells : Prop :=
  ∀ (m : Fin 4) (s : State), portsLive s = true →
    (s.boot.ready = true → (portOf s m).reqBusy = false →
      (∀ x ∈ s.own.inbox, x.1 < s.time.now ∨ (x.1 = s.time.now ∧ x.2.val ≤ m.val)) →
      exec (.doorbellReq m) s = .next { onPort m (fun p => { p with reqBusy := true }) s with
        own.inbox := s.own.inbox ++ [(s.time.now, m)] })
    ∧ (s.boot.ready = true → (portOf s m).reqBusy = true →
      exec (.doorbellReq m) s = .next (raise 244 4 (onPort m (fun p => { p with dbOverrun := true }) s)))
    ∧ ((portOf s m).rspReady = true → (portOf s m).heldRsp = none →
      exec (.doorbellRspAck m) s = .next (onPort m (fun p => { p with rspReady := false }) s))
    ∧ (∀ r, (portOf s m).rspReady = true → (portOf s m).heldRsp = some r →
      exec (.doorbellRspAck m) s = .next (onPort m (fun p => { p with
        rspSlot := slotWords r.bytes, rspReady := true, reqBusy := false, heldRsp := none }) s))

/-- With the port pages live, a mailbox reset with REQ_BUSY 0 clears the slots, the bits, the pointer and the
PENDING list of the master's page; with REQ_BUSY 1 it waits, and MAILBOX_RESET_DONE carries it out once REQ_BUSY is
0. A firmware restart by the owner or while there is none lowers READY and BOOTED, leaves no owner, no heartbeat, no
handover and an empty service order. A full reset gives the reset state with the boot ROM running and RESET_CAUSE 2;
the flash and the anti-rollback level are kept. -/
def Obligations.PageResets : Prop :=
  ∀ (m : Fin 4) (s : State), portsLive s = true →
    ((portOf s m).reqBusy = false → exec (.mailboxReset m) s = .next (onPort m (fun p => { p with
        reqSlot := Vector.replicate 64 0, rspSlot := Vector.replicate 64 0, reqBusy := false, rspReady := false
        heldRsp := none, pend := [], ptrSlot := false, ptrWord := 0, resetWait := false }) s))
    ∧ ((portOf s m).reqBusy = true → exec (.mailboxReset m) s = .next (onPort m (fun p => { p with resetWait := true }) s))
    ∧ ((portOf s m).reqBusy = false → (portOf s m).resetWait = true → ∃ t, exec (.mailboxResetDone m) s = .next t
        ∧ (portOf t m).resetWait = false ∧ (portOf t m).pend = [] ∧ (portOf t m).rspReady = false
        ∧ (portOf t m).ptrWord = 0 ∧ t = onPort m (fun _ => portOf t m) s)
    ∧ (s.boot.life = .firmware → (s.own.owner = none ∨ s.own.owner = some m) → ∃ t, exec (.firmwareRestart m) s = .next t
        ∧ t.boot.ready = false ∧ t.boot.booted = false ∧ t.boot.life = .restarting
        ∧ t.own.owner = none ∧ t.own.hbPeriod = 0 ∧ t.own.handover = none ∧ t.own.inbox = [])
    ∧ ((s.own.owner = none ∨ s.own.owner = some m) → ∃ t, exec (.ppFullReset m) s = .next t
        ∧ t.ports = State.reset.ports ∧ t.time = State.reset.time ∧ t.own.owner = none ∧ t.boot.ready = false
        ∧ t.boot.life = .rom ∧ t.pwr.resetCause = 2 ∧ t.pwr.level = 0
        ∧ t.boot.flash = s.boot.flash ∧ t.boot.otpLevel = s.boot.otpLevel)

/-- OWN_HEARTBEAT by the owner with PERIOD_MS 100 to 10,000 opens a window of that many ms and answers OK with the
device time of its end, and with PERIOD_MS 0 supervision stops. OWN_HANDOVER to another master with no handover open
answers PENDING and opens a window of 100 ms to that master. OWN_ACCEPT by the target, naming the owner, while the
window is open makes it the owner at that tu: ELECTIONS counts, no handover is open, supervision is off and E240 is
raised. -/
def Obligations.OwnershipCommands : Prop :=
  ∀ (q : Req) (s : State), q.len = 4 →
    (CanServeOwner q s → 100 ≤ q.u16 0 → q.u16 0 ≤ 10000 → zeros q 2 2 = true → ∃ t, exec (.ownHeartbeat q) s = .next t
      ∧ MailFrame q t { s with own.hbPeriod := q.u16 0, own.hbDue := s.time.now + 24576 * q.u16 0 }
      ∧ Replied 0x0201 q .ok (leBytes 8 (s.time.now + 24576 * q.u16 0 - s.time.start)) t)
    ∧ (CanServeOwner q s → q.u16 0 = 0 → zeros q 2 2 = true → ∃ t, exec (.ownHeartbeat q) s = .next t
      ∧ MailFrame q t { s with own.hbPeriod := 0, own.hbDue := 0 } ∧ Replied 0x0201 q .ok (leBytes 8 0) t)
    ∧ (∀ k : Fin 4, CanServeOwner q s → q.u8 0 = k.val → k ≠ q.m → zeros q 1 3 = true → s.own.handover = none →
      ∃ t, exec (.ownHandover q) s = .next t
        ∧ MailFrame q t { s with
            own.handover := some { target := k, due := s.time.now + 100 * 24576, cid := s.own.nextCid }
            own.expired := none }
        ∧ Stands 0x0202 q t s ∧ Replied 0x0202 q .pending [] t)
    ∧ (∀ (h : Handover) (k : Fin 4), CanServe q s → Awake s → s.own.handover = some h → h.target = q.m →
      s.own.owner = some k → k ≠ q.m → q.u8 0 = k.val → zeros q 1 3 = true →
      ∃ t, exec (.ownAccept q) s = .next t ∧ t.own.owner = some q.m ∧ t.own.elections = s.own.elections + 1
        ∧ t.own.handover = none ∧ t.own.hbPeriod = 0 ∧ Raised 240 t ∧ Replied 0x0203 q .ok [] t)

/-- CLAIM_WINDOW_CLOSE at the end of the window with no owner and exactly one claimant makes that claimant the owner
and raises E240; OWN_HEARTBEAT_LAPSED at the end of the heartbeat window clears the owner's CLAIM and raises E242,
and with no other claimant the part has no owner; OWN_HANDOVER_FAILED at the end of the handover window leaves the
owner as it was, closes the handover and raises E243. Each before its end changes nothing. -/
def Obligations.OwnershipWindows : Prop :=
  ∀ s : State,
    (∀ (d : Nat) (m : Fin 4), Awake s → s.own.claimEnd = some d → d ≤ s.time.now → s.own.owner = none →
      s.own.handover = none →
      (portOf s m).claim = true → (∀ k : Fin 4, k ≠ m → (portOf s k).claim = false) →
      ∃ t, exec .claimWindowClose s = .next t ∧ t.own.owner = some m ∧ t.own.claimEnd = none
        ∧ t.own.elections = s.own.elections + 1 ∧ Raised 240 t)
    ∧ (∀ m : Fin 4, Runs s → s.own.owner = some m → s.own.hbPeriod ≠ 0 →
      s.own.hbDue ≤ s.time.now → s.own.handover = none → (∀ k : Fin 4, k ≠ m → (portOf s k).claim = false) →
      ∃ t, exec .ownHeartbeatLapsed s = .next t ∧ t.own.owner = none ∧ (portOf t m).claim = false
        ∧ t.own.hbPeriod = 0 ∧ Raised 242 t ∧ Raised 240 t)
    ∧ (∀ h : Handover, Awake s → s.own.handover = some h → h.due ≤ s.time.now →
      ∃ t, exec .ownHandoverFailed s = .next t ∧ t.own.owner = s.own.owner ∧ t.own.handover = none ∧ Raised 243 t)
    ∧ (∀ d : Nat, s.own.claimEnd = some d → s.time.now < d → exec .claimWindowClose s = .next s)
    ∧ (∀ h : Handover, s.own.handover = some h → s.time.now < h.due → exec .ownHandoverFailed s = .next s)

/-- With the port pages live, the firmware READY, no claim window open and nothing due, PP_CLAIM written with CLAIM
1 stores CLAIM and PRIO; where the part has no owner and no other claimant, the writer becomes the owner and E240 is
raised; where another master owns the part, the ownership stays. -/
def Obligations.ClaimWrites : Prop :=
  ∀ (m : Fin 4) (v : Word) (s : State), portsLive s = true → s.boot.ready = true → OwnQuiet s → s.own.claimEnd = none →
    s.own.handover = none → v.getLsbD 31 = true →
    (s.own.owner = none → (∀ k : Fin 4, k ≠ m → (portOf s k).claim = false) →
      ∃ t, exec (.ppClaimWrite m v) s = .next t ∧ t.own.owner = some m ∧ (portOf t m).claim = true
        ∧ (portOf t m).prio = v.setWidth 4 ∧ Raised 240 t)
    ∧ (∀ k : Fin 4, s.own.owner = some k → k ≠ m → exec (.ppClaimWrite m v) s = .next (onPort m (fun p => { p with
        claim := true, prio := v.setWidth 4 }) s))

/-- EVT_ROUTE_SET by the owner with legal words writes the COUNT route words from FIRST and no other; EVT_SLOT_SET
gives a slot a GPIO that is in no output use, its edges and its debounce time, and with GPIO 0xFF disables it.
HIRQ_PULSE_END and ROUTE_GPIO_PULSE_END at the end of a pulse end it, the GPIO going low. Nothing else changes. -/
def Obligations.EventRouting : Prop :=
  (∀ (q : Req) (s : State), CanServeOwner q s → 1 ≤ q.u8 2 → q.u8 2 ≤ 60 → q.u16 0 + q.u8 2 ≤ 256 →
      zeros q 3 1 = true → q.len = 4 + 4 * q.u8 2 → (∀ k < q.u8 2, routeWordOk s (q.u32 (4 + 4 * k)) = true) →
      ∃ t, exec (.evtRouteSet q) s = .next t ∧ Replied 0x0380 q .ok [] t
        ∧ MailFrame q t { s with ev.route := t.ev.route }
        ∧ ∀ e < 256, vget t.ev.route e = (if q.u16 0 ≤ e ∧ e < q.u16 0 + q.u8 2
            then BitVec.ofNat 32 (q.u32 (4 + 4 * (e - q.u16 0))) else vget s.ev.route e))
  ∧ (∀ (q : Req) (g : Fin 24) (s : State), CanServeOwner q s → q.len = 4 → q.u8 0 < 8 → q.u8 1 = g.val → 1 ≤ q.u8 2 →
      q.u8 2 ≤ 3 → gpioOutUse s g.val = false →
      ∃ t, exec (.evtSlotSet q) s = .next t ∧ Replied 0x0303 q .ok [] t
        ∧ MailFrame q t { s with
            ev.slots := (vset s.ev.slots (q.u8 0) { gpio := some g, edge := q.u8 2, debounce := q.u8 3, window := none }) })
  ∧ (∀ (q : Req) (s : State), CanServeOwner q s → q.len = 4 → q.u8 0 < 8 → q.u8 1 = 0xFF →
      ∃ t, exec (.evtSlotSet q) s = .next t ∧ Replied 0x0303 q .ok [] t
        ∧ MailFrame q t { s with ev.slots := vset s.ev.slots (q.u8 0) {} })
  ∧ (∀ (ball : Fin 2) (d : Nat) (s : State), vget s.ev.hirqPulse ball.val = some d → d ≤ s.time.now →
      exec (.hirqPulseEnd ball) s = .next { s with ev.hirqPulse := vset s.ev.hirqPulse ball.val none })
  ∧ (∀ (g : Fin 24) (d : Nat) (s : State), vget s.ev.gpioPulse g.val = some d → d ≤ s.time.now →
      ∃ t, exec (.routeGpioPulseEnd g) s = .next t ∧ vget t.ev.gpioPulse g.val = none
        ∧ t.ev.gpioOut.getLsbD g.val = false ∧ (∀ k : Fin 24, k ≠ g → t.ev.gpioOut.getLsbD k.val = s.ev.gpioOut.getLsbD k.val)
        ∧ t = { s with ev.gpioPulse := t.ev.gpioPulse, ev.gpioOut := t.ev.gpioOut })

/-- GPIO_EDGE_OBSERVED takes the new level of the ball and opens, in every slot that names it, a window of DEBOUNCE
ticks from the change, abandoning one that is still open (none has just closed: that one is closed first); a level
that does not change is no edge. GPIO_EVENT at the end of a slot's window closes it; where the slot counts that
edge, event 248 + slot is raised. -/
def Obligations.GpioEdges : Prop :=
  (∀ (g : Fin 24) (level : Bool) (s : State), s.ev.gpioIn.getLsbD g.val = level →
      exec (.gpioEdgeObserved g level) s = .next s)
  ∧ (∀ (g : Fin 24) (level : Bool) (s : State), s.ev.gpioIn.getLsbD g.val ≠ level → Runs s → s.time.held = false →
      (∀ n < 8, ∀ w, (vget s.ev.slots n).window = some w → s.time.now < w.due) →
      ∃ t, exec (.gpioEdgeObserved g level) s = .next t ∧ t.ev.gpioIn.getLsbD g.val = level
        ∧ (∀ k : Fin 24, k ≠ g → t.ev.gpioIn.getLsbD k.val = s.ev.gpioIn.getLsbD k.val)
        ∧ (∀ n < 8, vget t.ev.slots n = (if (vget s.ev.slots n).gpio = some g
            then { vget s.ev.slots n with
              window := some { start := devTime s, epoch := s.time.epoch, born := s.time.now, heldAt := s.time.heldTicks
                               level := level, due := s.time.now + 750 * (vget s.ev.slots n).debounce } }
            else vget s.ev.slots n))
        ∧ t = { s with
            ev.gpioIn := t.ev.gpioIn, ev.slots := t.ev.slots, pwr.offLevelTicks := 0, clk.marks := t.clk.marks
            clk.syncGap := t.clk.syncGap }
        ∧ ((syncGpio s ≠ g.val ∨ level = false) → t.clk = s.clk)
        ∧ (syncGpio s = g.val → level = true → vget t.clk.marks 1 = some s.time.now))
  ∧ (∀ (slot : Fin 8) (g : Fin 24) (w : SlotWindow) (s : State), Runs s →
      (vget s.ev.slots slot.val).gpio = some g → (vget s.ev.slots slot.val).window = some w → w.due ≤ s.time.now →
      ((vget s.ev.slots slot.val).edge.testBit (if w.level then 0 else 1) = false →
        exec (.gpioEvent slot) s = .next { s with
          ev.slots := vset s.ev.slots slot.val { vget s.ev.slots slot.val with window := none } })
      ∧ ((vget s.ev.slots slot.val).edge.testBit (if w.level then 0 else 1) = true → swPtt s ≠ slot.val →
        ∃ t, exec (.gpioEvent slot) s = .next t ∧ Raised (248 + slot.val) t
          ∧ (vget t.ev.slots slot.val).window = none))

/-- RECORD_RELEASE, with the part running and the oldest record held 64 tu or more and no debounce window open,
takes the record out of the hold; each master whose mask enabled the event when it occurred gets it at its place in
the order of stamps and events among its unread records where fewer than 64 wait and no unread record merges with
it; where 64 wait the oldest is dropped, EVQ_OVF is set and the drop counted; a master whose mask did not enable it
keeps its page as it was. -/
def Obligations.RecordRelease : Prop :=
  ∀ (r : Record) (rest : List Record) (s : State), Runs s → s.ev.held = r :: rest →
    s.time.held = false → r.born + 64 ≤ s.time.now →
    (∀ n < 8, (vget s.ev.slots n).window = none) →
    ∃ t, exec .recordRelease s = .next t ∧ t.ev.held = rest
      ∧ t = { s with ev.held := rest, ports := t.ports }
      ∧ ∀ m : Fin 4, (r.masters.testBit m.val = false → portOf t m = portOf s m)
        ∧ (r.masters.testBit m.val = true → mergeable r.ev = false → (portOf s m).queue.length < 64 →
            portOf t m = { portOf s m with queue := insertRecord r (portOf s m).queue })
        ∧ (r.masters.testBit m.val = true → mergeable r.ev = false → 64 ≤ (portOf s m).queue.length →
            portOf t m = { portOf s m with
              queue := insertRecord r (portOf s m).queue.tail, evqOvf := true
              dropped := min 65535 ((portOf s m).dropped + 1) })

/-- With ASYN locked and no change of family: CLK_REF_SELECT of the reference in use answers OK and changes nothing;
of the crystal while another reference is in use, with no selection waiting, it answers PENDING, ASYN coasts and the
crystal is the reference. CLK_OUT_SET with EN 0 of an output that is off writes its CLKOUT word and answers OK; with
EN 1 of an output that is off it answers PENDING and the output waits for its base tick with that word.
ROUTE_DOMAIN_SET of the Fh in force answers OK and changes nothing; of the other Fh of the family, with no change of
Fh running, it answers PENDING and the change begins at its step 1; of an Fh of the other family it answers
BAD_PARAM and changes nothing. -/
def Obligations.ClockCommands : Prop :=
  ∀ (q : Req) (s : State), CanServeOwner q s → s.clk.asyn = .locked → s.clk.familyChange = false →
    s.clk.famCheck = none → s.clk.xtalFailed = false → s.clk.rebased = none →
    (q.len = 4 → q.u8 0 = s.clk.ref → q.u8 0 ≤ 16 → q.u8 1 ≤ 2 → zeros q 2 2 = true →
      ∃ t, exec (.clkRefSelect q) s = .next t ∧ MailFrame q t s ∧ Replied 0x0401 q .ok (List.replicate 8 0) t)
    ∧ (q.len = 4 → q.u8 0 = 0 → s.clk.ref ≠ 0 → q.u8 1 ≤ 2 → zeros q 2 2 = true → s.clk.cid = none →
      ∃ t, exec (.clkRefSelect q) s = .next t ∧ t.clk.ref = 0 ∧ t.clk.asyn = .coasting ∧ t.clk.lost = true
        ∧ t.clk.cid = some s.own.nextCid ∧ Stands 0x0401 q t s ∧ Replied 0x0401 q .pending (List.replicate 8 0) t
        ∧ MailFrame q t { s with clk := t.clk })
    ∧ (∀ k < 4, q.len = 8 → q.u8 0 = k → q.u8 1 = 0 → 1 ≤ q.u16 2 → q.u16 2 ≤ 4096 → q.u16 4 ≤ 4095 → q.u8 6 ≤ 63 →
      zeros q 7 1 = true → (outOf s k).on = false → (outOf s k).start = none →
      ∃ t, exec (.clkOutSet q) s = .next t ∧ Replied 0x0402 q .ok [] t ∧ MailFrame q t { s with
        clk.page := Page.put s.clk.page (64 + 32 * k) 32 ((q.u16 2 - 1) * 2 ^ 18 + q.u16 4 * 2 ^ 6 + q.u8 6) })
    ∧ (∀ k < 4, q.len = 8 → q.u8 0 = k → q.u8 1 = 1 → 1 ≤ q.u16 2 → q.u16 2 ≤ 4096 → q.u16 4 ≤ 4095 → q.u8 6 ≤ 63 →
      zeros q 7 1 = true → (outOf s k).on = false →
      ∃ t, exec (.clkOutSet q) s = .next t ∧ Replied 0x0402 q .pending [] t ∧ Stands 0x0402 q t s
        ∧ MailFrame q t { s with clk.outs := t.clk.outs }
        ∧ (outOf t k).start = some (2 ^ 31 + (q.u16 2 - 1) * 2 ^ 18 + q.u16 4 * 2 ^ 6 + q.u8 6)
        ∧ (outOf t k).stopping = false ∧ ∀ j < 4, j ≠ k → outOf t j = outOf s j)
    ∧ (q.len = 4 → q.u8 0 ≤ 3 → zeros q 1 3 = true → q.u8 0 % 2 ≠ b2n (famOf s) → s.fab.fhChange = none →
      (q.u8 0 = fhCode s → ∃ t, exec (.routeDomainSet q) s = .next t ∧ MailFrame q t s ∧ Replied 0x0A02 q .ok [] t)
      ∧ (q.u8 0 ≠ fhCode s → ∃ t, exec (.routeDomainSet q) s = .next t
        ∧ t.fab.fhChange = some { target := q.u8 0, step := 1, cid := some s.own.nextCid }
        ∧ Replied 0x0A02 q .pending [] t))
    ∧ (q.len = 4 → q.u8 0 ≤ 3 → zeros q 1 3 = true → q.u8 0 % 2 = b2n (famOf s) →
      ∃ t, exec (.routeDomainSet q) s = .next t ∧ MailFrame q t s ∧ Replied 0x0A02 q .badParam [] t)

/-- With the part running: REF_MEASURED at the end of the measurement of a reference that meets R87 begins the
search; ASYN_LOCKED ends the search with ASYN and the edge line locked, the band found and no attempts counted;
ASYN_LOCK_ATTEMPT_FAIL counts an attempt on an external reference, and at the third raises E149 with cause 2 and
turns to the crystal; REF_LOST of the reference in use lets ASYN coast and raises E149 with the reference and the
cause; REF_RETURNED while it coasts, 24,576 tu or more after the loss, raises E150; REF_PHASE_JUMP, once the 8
reference periods have passed, of more than 1/16 tu after its reduction modulo the alignment period raises E148 and
ASYN rejoins; PHASE_ALIGNED at its end raises E151 and ASYN is locked; ASYN_LOCK_LOST begins a new search with a
relock grant held at priority 7. -/
def Obligations.AsynLoop : Prop :=
  ∀ s : State, Runs s →
    (∀ (freq : Nat) (e : Int), s.clk.asyn = .measuring → s.clk.measureDue ≤ s.time.now → s.clk.newWord = none →
      s.clk.famCheck = none → refMeets (famOf s) freq e = true →
      exec (.refMeasured freq true e) s = .next { s with clk.asyn := .search, clk.refFreq := freq, clk.refErr := e })
    ∧ (∀ band : Fin 64, s.clk.asyn = .search → s.clk.rejoinRef = none → s.clk.newWord = none →
      ∃ t, exec (.asynLocked band) s = .next t ∧ t.clk.asyn = .locked ∧ t.clk.asynBand = band ∧ t.clk.edge = true
        ∧ t.clk.attempts = 0 ∧ t.clk.ref = s.clk.target ∧ t.clk.lost = false)
    ∧ (s.clk.asyn = .search → s.clk.target ≠ 0 → s.clk.attempts + 1 < 3 →
      exec .asynLockAttemptFail s = .next { s with clk.attempts := s.clk.attempts + 1 })
    ∧ (s.clk.asyn = .search → s.clk.target ≠ 0 → s.clk.attempts = 2 →
      exec .asynLockAttemptFail s = .next (raise 149 (s.clk.target * 256 + 2) { s with
        clk.attempts := 0, clk.rejoinRef := some s.clk.target, clk.target := 0, clk.lostFrom := s.time.now }))
    ∧ (∀ cause : Fin 2, s.clk.asyn = .locked → s.clk.ref ≠ 0 →
      exec (.refLost cause) s = .next (raise 149 (s.clk.ref * 256 + (cause.val + 1)) { s with
        clk.asyn := .coasting, clk.lost := true, clk.returning := false, clk.lostFrom := s.time.now
        clk.stepAt := none }))
    ∧ (∀ (freq : Nat) (e : Int), s.clk.asyn = .coasting → s.clk.lost = true → refMeets (famOf s) freq e = true →
      s.clk.cid = none → s.clk.lostFrom + 24576 ≤ s.time.now →
      exec (.refReturned freq e) s = .next (raise 150 s.clk.ref { s with
        clk.lost := false, clk.returning := true, clk.refFreq := freq, clk.refErr := e
        clk.measureDue := s.time.now + (if s.clk.ref = 0 then 8 else cdiv (8 * 24576000) freq)
        clk.stepMode := Page.bit s.clk.page 15 }))
    ∧ (∀ raw jump : Int, s.clk.asyn = .coasting → s.clk.returning = true → s.clk.measureDue ≤ s.time.now →
      jump = phaseReduce (alignPeriod s) raw → 1 < jump.natAbs →
      ∃ t, exec (.refPhaseJump raw) s = .next t ∧ t.clk.asyn = .rejoining
        ∧ t.clk.jump = jump ∧ Raised 148 t ∧ t.time.now = s.time.now
        ∧ t.time.start = s.time.start
        ∧ t = { s with clk := t.clk, ev := t.ev, ports := t.ports, sch := t.sch, free := t.free, pwr := t.pwr
                       time := t.time })
    ∧ (s.clk.asyn = .rejoining → s.clk.famCheck = none → s.clk.alignDue ≤ s.time.now →
      ∃ t, exec .phaseAligned s = .next t ∧ t.clk.asyn = .locked ∧ t.clk.cid = none ∧ Raised 151 t)
    ∧ (s.clk.asyn = .locked → ∃ t, exec .asynLockLost s = .next t ∧ t.clk.asyn = .search ∧ t.clk.attempts = 0
        ∧ (t.pwr.held.any (fun g => g.work == .relockAsyn && g.prio == 7)) = true)

/-- With the part running and no level change in progress: CSYN_LOCK_LOST begins a search with a relock grant held
at priority 7; CSYN_LOCKED ends it with the band found, no attempts counted, E147 raised and HALL_CTRL and HALL_DSP
on CSYN; CSYN_LOCK_ATTEMPT_FAIL counts the first two attempts; EDGE_LINE_LOST with ASYN locked opens the line;
EDGE_LINE_LOCKED locks it again. CLKOUT_STATE of an output that stops leaves it off with E158, and of one whose base
tick has come with ASYN and the line locked lets it run with its word and E158. -/
def Obligations.CsynLoop : Prop :=
  ∀ s : State, Runs s →
    (s.clk.csyn = .locked → s.pwr.change = none → ∃ t, exec .csynLockLost s = .next t ∧ t.clk.csyn = .search
        ∧ t.clk.csynLost = true ∧ t.clk.csynAttempts = 0 ∧ t.clk.csynLevel = s.pwr.level ∧ Raised 145 t
        ∧ (t.pwr.held.any (fun g => g.work == .relockCsyn && g.prio == 7)) = true)
    ∧ (∀ band : Fin 64, s.clk.csyn = .search → s.pwr.change = none → s.clk.waitCsyn = false → s.clk.csynFell = false →
      ∃ t, exec (.csynLocked band) s = .next t ∧ t.clk.csyn = .locked ∧ t.clk.csynBand = band ∧ t.clk.csynAttempts = 0
        ∧ Raised 147 t ∧ (hallOf t 1).clk = .normal ∧ (hallOf t 2).clk = .normal ∧ t.time = s.time)
    ∧ (s.clk.csyn = .search → s.clk.csynFell = false → s.clk.csynAttempts + 1 < 3 →
      exec .csynLockAttemptFail s = .next { s with clk.csynAttempts := s.clk.csynAttempts + 1 })
    ∧ (s.clk.asyn = .locked → s.clk.edge = true → ∃ t, exec .edgeLineLost s = .next t ∧ t.clk.edge = false
        ∧ t.clk.asyn = .locked)
    ∧ (s.clk.asyn = .locked → s.clk.edge = false → ∃ t, exec .edgeLineLocked s = .next t ∧ t.clk.edge = true
        ∧ t.clk.asyn = .locked)
    ∧ (∀ k : Fin 4, (outOf s k.val).on = true → (outOf s k.val).stopping = true → (outOf s k.val).start = none →
      (outOf s k.val).word = none → ∃ t, exec (.clkoutState k) s = .next t ∧ (outOf t k.val).on = false
        ∧ (outOf t k.val).stopping = false ∧ Raised 158 t ∧ ∀ j < 4, j ≠ k.val → outOf t j = outOf s j)
    ∧ (∀ (k : Fin 4) (w : Nat), (outOf s k.val).on = false → (outOf s k.val).start = some w →
      (outOf s k.val).stopping = false → (outOf s k.val).due ≤ s.time.now → s.clk.asyn = .locked →
      s.clk.edge = true → ∃ t, exec (.clkoutState k) s = .next t ∧ (outOf t k.val).on = true
        ∧ (outOf t k.val).start = none ∧ (outOf t k.val).cids = [] ∧ Page.get t.clk.page (64 + 32 * k.val) 32 = w % 2 ^ 32
        ∧ Raised 158 t)

/-- With the part running: XTAL_FAIL takes both loops out of lock, notes the crystal as failed and holds device
time; CLOCK_REBASED while it is failed, from the ring or from an MCLK_IN measured within 1,000 ppm of 24.576 MHz,
begins a new epoch with device time running again, names the source and notes its frequency; XTAL_RESTORED on a part
that was not re-based notes the crystal as running, begins a new epoch and both loops search again.
FH_CHANGE_COMPLETE at the last step of a change of Fh ends the change where the graph was not paused; where the
change alone pauses a graph that has the new Fh, the pause cause ends and the change stands until the graph resumes
at the next frame boundary (R246). -/
def Obligations.CrystalFailure : Prop :=
  ∀ s : State, Runs s →
    (s.clk.xtal = true → ∃ t, exec .xtalFail s = .next t ∧ t.clk.xtal = false ∧ t.clk.xtalFailed = true
        ∧ t.clk.asyn = .off ∧ t.clk.csyn = .off ∧ t.time.held = true ∧ t.time.now = s.time.now)
    ∧ (∀ (source : Fin 2) (freq : Nat) (e : Int) (b c : Fin 64), s.clk.xtalFailed = true → s.clk.xtal = false →
      s.clk.rebased = none → s.time.held = true → (source.val = 0 → 24551424 ≤ freq ∧ freq ≤ 24600576) →
      ∃ t, exec (.clockRebased source freq e b c) s = .next t ∧ t.clk.refFreq = freq
        ∧ t.time.held = false ∧ t.time.epoch = (s.time.epoch + 1) % 65536 ∧ t.clk.csyn = .locked ∧ t.clk.csynBand = c
        ∧ t.clk.rebased = some (source.val + 1))
    ∧ (s.clk.xtalFailed = true → s.clk.xtal = false → s.clk.rebased = none → s.time.held = true →
      ∃ t, exec .xtalRestored s = .next t ∧ t.clk.xtal = true ∧ t.clk.xtalFailed = false ∧ t.time.held = false
        ∧ t.time.epoch = (s.time.epoch + 1) % 65536 ∧ t.clk.csyn = .search)
    ∧ (∀ f : FhChange, s.fab.fhChange = some f → f.step = 3 → s.clk.asyn = .locked → s.gra.paused = false →
      ∃ t, exec .fhChangeComplete s = .next t ∧ t.fab.fhChange = none)
    ∧ (∀ f : FhChange, s.fab.fhChange = some f → f.step = 3 → s.clk.asyn = .locked → s.gra.paused = true →
      graphFits s = true → s.gra.pause = 2 ^ causeFh →
      ∃ t, exec .fhChangeComplete s = .next t ∧ t.fab.fhChange = some { f with step := 4 } ∧ t.gra.pause = 0)

/-- ANA_IN_SET with EN 1 of an input that stands still starts it with the GAIN, IMPED and RATE given, its overload
count cleared, and leaves the other inputs as they were. ANA_OUT_ENABLE of one line output that is OFF, while no
stage of a function and no hold after a measurement has just ended, answers PENDING and the output enters stage 0x11
with E141. ANA_MICBIAS_SET writes the voltage code of its supply. ANA_PGA_DIRECT of a running input sets its gain at
once and cancels pending steps. -/
def Obligations.AnalogCommands : Prop :=
  ∀ (q : Req) (s : State), CanServeOwner q s → Awake s →
    (∀ k < 4, q.len = 8 → q.u8 0 = k → q.u8 1 = 1 → q.u8 2 ≤ 84 → q.u8 3 < 4 → rateInFamily (famOf s) (q.u8 4) = true →
      zeros q 5 3 = true → (lineOf s k).running = false →
      ∃ t, exec (.anaInSet q) s = .next t ∧ (lineOf t k).running = true ∧ (lineOf t k).gain = q.u8 2
        ∧ (lineOf t k).target = q.u8 2 ∧ (lineOf t k).overload = 0 ∧ (lineOf t k).stepEnd = none ∧ ainEn t k = true
        ∧ ainGain t k = q.u8 2 ∧ ainImped t k = q.u8 3 ∧ ainRate t k = q.u8 4 ∧ (∀ j < 4, j ≠ k → lineOf t j = lineOf s j)
        ∧ Replied 0x0501 q .ok [] t)
    ∧ (∀ i < 4, q.len = 4 → q.u16 0 = 2 ^ i → q.u8 2 = 1 → zeros q 3 1 = true → s.pwr.shut = false →
      (fnOf s i).st = .off → (∀ j < 9, closedO (fnOf s j).due s = false) → closedO s.ana.holdEnd s = false → ∃ t, exec (.anaOutEnable q) s = .next t ∧ (fnOf t i).st = .starting
        ∧ (fnOf t i).stage = 0x11 ∧ (fnOf t i).due = some (s.time.now + 24576) ∧ Raised 141 t
        ∧ (∀ j < 9, j ≠ i → fnOf t j = fnOf s j) ∧ Replied 0x0502 q .pending [] t)
    ∧ (q.len = 4 → q.u8 0 < 2 → q.u8 1 ≤ 10 → zeros q 2 2 = true → ∃ t, exec (.anaMicbiasSet q) s = .next t
        ∧ MailFrame q t { s with ana.page0501 := Page.put s.ana.page0501 (80 + 4 * q.u8 0) 4 (q.u8 1) }
        ∧ Replied 0x0503 q .ok [] t)
    ∧ (∀ k < 4, q.len = 4 → q.u8 0 = k → q.u8 1 ≤ 84 → zeros q 2 2 = true → (lineOf s k).running = true →
      ∃ t, exec (.anaPgaDirect q) s = .next t ∧ Replied 0x0580 q .ok [] t
        ∧ MailFrame q t { s with ana.ins := t.ana.ins, ana.page0500 := t.ana.page0500 } ∧ ainGain t k = q.u8 1
        ∧ lineOf t k = { lineOf s k with gain := q.u8 1, target := q.u8 1, stepEnd := none }
        ∧ ∀ j < 4, j ≠ k → lineOf t j = lineOf s j)

/-- JACK_HOST_SIGNAL latches HOST_GO for SIGNAL 1 and HOST_STOP for 2 in the machine it names. JACK_HP_MEASURE with
both channels on and no measurement running answers PENDING with 8 zero bytes, and both channels ramp from stage
0x01. JACK_TABLE_SELECT of the default table with no selection waiting answers PENDING and the selection waits for
the machine's next evaluation. -/
def Obligations.JackCommands : Prop :=
  ∀ (q : Req) (s : State), CanServeOwner q s → Awake s →
    (q.len = 4 → q.u8 0 < 2 → q.u8 1 = 1 → zeros q 2 2 = true → ∃ t, exec (.jackHostSignal q) s = .next t
        ∧ MailFrame q t { s with ana.jacks := vupd s.ana.jacks (q.u8 0) (fun j => { j with latch.hostGo := true }) }
        ∧ Replied 0x0601 q .ok [] t)
    ∧ (q.len = 4 → q.u8 0 < 2 → q.u8 1 = 2 → zeros q 2 2 = true → ∃ t, exec (.jackHostSignal q) s = .next t
        ∧ MailFrame q t { s with ana.jacks := vupd s.ana.jacks (q.u8 0) (fun j => { j with latch.hostStop := true }) }
        ∧ Replied 0x0601 q .ok [] t)
    ∧ (q.len = 0 → s.ana.measure = none → s.ana.holdEnd = none → (∀ i, i = 4 ∨ i = 5 → (fnOf s i).st = .on ∧ (fnOf s i).stage = 0x20 ∧ (fnOf s i).due = none) →
      s.pwr.shut = false → ∃ t, exec (.jackHpMeasure q) s = .next t
        ∧ t.ana.measure = some { step := 0, wasOn := true, due := none, cid := some s.own.nextCid }
        ∧ (fnOf t 4).stage = 0x01 ∧ (fnOf t 5).stage = 0x01 ∧ Raised 141 t ∧ Stands 0x0602 q t s
        ∧ Replied 0x0602 q .pending (List.replicate 8 0) t)
    ∧ (q.len = 4 → q.u8 0 < 2 → q.u8 1 = 0 → zeros q 2 2 = true → (jackOf s (q.u8 0)).select = none →
      ∃ t, exec (.jackTableSelect q) s = .next t ∧ Stands 0x0680 q t s ∧ Replied 0x0680 q .pending [] t
        ∧ MailFrame q t { s with ana.jacks := vupd s.ana.jacks (q.u8 0) (fun j => { j with
            select := some (false, some s.own.nextCid) }) })

/-- With the part running: ANA_STAGE_END at the end of the ramp 0x14 of a line output that starts leaves it ON at
stage 0x20 with E141. MICBIAS_FAULT of a supply that is ON raises E142 and shuts it down from stage 3 towards FAULT;
HP_SHORT of a channel that is ON raises E139 and shuts it down from stage 2 towards FAULT; CP_FAULT with the pump ON
raises E140 and shuts it down towards FAULT. HP_LOAD_MEASURED at the end of the tone reports both loads and their
classes with E138 and ends the measurement; HP_MEASURE_HOLD_END at the end of the hold, with the left channel ON and
the right one not starting for the measurement alone, ends the hold and changes no function. While HALL_ANA runs:
PGA_GAIN_STEP with a step pending whose timeout has not ended, and PGA_STEP_TIMEOUT when it has, move the gain one
step of 0.5 dB towards its target, the next step starting a new timeout, and none where the target is reached.
AIN_OVERLOAD of a running input counts, saturating at 255, and raises E143 where none was raised in the last 100 ms.
AIN_DISABLE_DONE at the end of the ramp stops an input that is not enabled again. No other input changes. -/
def Obligations.AnalogEvents : Prop :=
  (∀ s : State, Runs s →
      (∀ i : Fin 9, i.val < 4 → (fnOf s i.val).st = .starting → (fnOf s i.val).stage = 0x14 →
        (∃ d, (fnOf s i.val).due = some d ∧ d ≤ s.time.now) →
        ∃ t, exec (.anaStageEnd i) s = .next t ∧ (fnOf t i.val).st = .on ∧ (fnOf t i.val).stage = 0x20
          ∧ (fnOf t i.val).due = none ∧ Raised 141 t)
      ∧ (∀ k : Fin 2, (fnOf s (7 + k.val)).st = .on →
        ∃ t, exec (.micbiasFault k) s = .next t ∧ (fnOf t (7 + k.val)).toFault = true ∧ (fnOf t (7 + k.val)).stage = 0x03
          ∧ Raised 142 t)
      ∧ (∀ right : Bool, (fnOf s (if right then 5 else 4)).st = .on → ∃ t, exec (.hpShort right) s = .next t
          ∧ (fnOf t (if right then 5 else 4)).toFault = true ∧ (fnOf t (if right then 5 else 4)).stage = 0x02 ∧ Raised 139 t
          ∧ ∀ k < 2, (jackOf t k).latch.hpShort = true)
      ∧ ((fnOf s 6).st = .on → s.ana.measure = none → ∃ t, exec .cpFault s = .next t ∧ (fnOf t 6).toFault = true
          ∧ (fnOf t 6).stage = 0x03 ∧ Raised 140 t ∧ t.ana.holdEnd = none)
      ∧ (∀ (l r : Nat) (m : HpMeasure), s.ana.measure = some m → m.step = 2 → (∃ d, m.due = some d ∧ d ≤ s.time.now) →
        ∃ t, exec (.hpLoadMeasured l r) s = .next t ∧ t.ana.measure = none ∧ t.ana.zl = loadValue l
          ∧ t.ana.zr = loadValue r ∧ t.ana.classL = loadClass l ∧ t.ana.classR = loadClass r ∧ Raised 138 t)
      ∧ (∀ d, s.ana.holdEnd = some d → d ≤ s.time.now → (fnOf s 4).st = .on → 
        ((fnOf s 5).st = .starting → (fnOf s 5).probe = false) →
        ∃ t, exec .hpMeasureHoldEnd s = .next t ∧ t.ana.holdEnd = none ∧ t.ana.fns = s.ana.fns))
  ∧ (∀ (ch : Fin 4) (s : State), hallRuns s hANA = true →
      (∀ d, (lineOf s ch.val).stepEnd = some d → (lineOf s ch.val).gain < (lineOf s ch.val).target →
        ∃ t, (s.time.now < d → exec (.pgaGainStep ch) s = .next t) ∧ (d ≤ s.time.now → exec (.pgaStepTimeout ch) s = .next t)
          ∧ t = { s with ana.ins := t.ana.ins } ∧ (∀ j < 4, j ≠ ch.val → lineOf t j = lineOf s j)
          ∧ lineOf t ch.val = { lineOf s ch.val with
              gain := (lineOf s ch.val).gain + 1
              stepEnd := if (lineOf s ch.val).gain + 1 = (lineOf s ch.val).target then none
                         else some (s.time.now + zcTimeoutTu s) })
      ∧ ((lineOf s ch.val).stepEnd = none → exec (.pgaGainStep ch) s = .next s)
      ∧ (Awake s → (lineOf s ch.val).running = true → (lineOf s ch.val).quietTo = none →
        ∃ t, exec (.ainOverload ch) s = .next t ∧ Raised 143 t
          ∧ lineOf t ch.val = { lineOf s ch.val with
              overload := min 255 ((lineOf s ch.val).overload + 1), quietTo := some (s.time.now + 2457600) })
      ∧ (∀ d, (lineOf s ch.val).rampEnd = some d → d ≤ s.time.now → (lineOf s ch.val).again = false →
        ∃ t, exec (.ainDisableDone ch) s = .next t ∧ (lineOf t ch.val).running = false
          ∧ (lineOf t ch.val).rampEnd = none ∧ ∀ j < 4, j ≠ ch.val → lineOf t j = lineOf s j))

/-- With the detector enabled and HALL_ANA running: JD_LEVEL_CHANGE, while no window of the detector has just
closed, takes the level and opens a debounce window of DEBOUNCE_MS; JD_DEBOUNCE_END at the end of a window whose
level shows a plug takes PRESENT, and an insertion at the machine that controls the headphones gives the load class
NONE and value 0; JACK_EVALUATION on the millisecond, with the default table in state 0 and a plug present, enters
state 1 with event 136 + k and the timer of that state; JACK_STATE_TIMER at the end of the timer latches TIMER. -/
def Obligations.JackEvents : Prop :=
  ∀ (k : Fin 2) (s : State),
    (∀ level : Bool, jackRuns s k.val = true → (∀ d l, (jackOf s k.val).window = some (d, l) → s.time.now < d) → exec (.jdLevelChange k level) s = .next { s with
        ana.jacks := vupd s.ana.jacks k.val (fun j => { j with
          level := level, window := some (s.time.now + 24576 * jdDebounce s k.val, level) }) })
    ∧ (∀ (due : Nat) (level : Bool), jackRuns s k.val = true → (jackOf s k.val).window = some (due, level) →
      due ≤ s.time.now → plugAt s k.val level = true → ∃ t, exec (.jdDebounceEnd k) s = .next t
        ∧ t = { s with ana := t.ana }
        ∧ t.ana.jacks = vupd s.ana.jacks k.val (fun j => { j with window := none, present := true })
        ∧ (hpCtrl s ≠ k.val + 1 ∨ (jackOf s k.val).present = true → t.ana = { s.ana with jacks := t.ana.jacks })
        ∧ (hpCtrl s = k.val + 1 → (jackOf s k.val).present = false →
          t.ana = { s.ana with jacks := t.ana.jacks, zl := 0, zr := 0, classL := 0, classR := 0 }))
    ∧ (Awake s → jackRuns s k.val = true → devTime s % 24576 = 0 → (jackOf s k.val).useUser = false →
      (∀ j < 2, ∀ d l, (jackOf s j).window = some (d, l) → s.time.now < d) → (jackOf s k.val).timerEnd = none →
      (jackOf s k.val).select = none → (jackOf s k.val).state = 0 → (jackOf s k.val).present = true →
      ∃ t, exec (.jackEvaluation k) s = .next t ∧ (jackOf t k.val).state = 1 ∧ Raised (136 + k.val) t
        ∧ (jackOf t k.val).timerEnd = some (s.time.now + 24576 * (if k.val = 0 then 300 else 200)))
    ∧ (∀ d, hallRuns s hCTRL = true → hallRuns s hANA = true → (jackOf s k.val).timerEnd = some d → d ≤ s.time.now →
      exec (.jackStateTimer k) s = .next { s with
        ana.jacks := vupd s.ana.jacks k.val (fun j => { j with timerEnd := none, latch.timer := true }) })

/-- MIC_ENABLE with EN 1 of one channel that is off lets it start, sets its EN bit and leaves the other channels as
they are, and all else where no field of the page waits for its effect point. WAKE_ENABLE with EN 1 outside a mute,
no history being OPEN, gives THRESH_DB and TIMEOUT_S and lets Speedwell start with empty floors, no onset and an
empty history. WAKE_RELEASE of an open history relocks it, discards the unread words, raises E114 and answers the
state before. -/
def Obligations.MicrophoneCommands : Prop :=
  ∀ (q : Req) (s : State), CanServeOwner q s → Awake s →
    (∀ m < 16, q.len = 4 → q.u16 0 = 2 ^ m → q.u8 2 = 1 → zeros q 3 1 = true → (micOf s m).st = .off →
      ∃ t, exec (.micEnable q) s = .next t ∧ (micOf t m).st = .starting ∧ (micEn t).testBit m = true
        ∧ (∀ j < 16, j ≠ m → micOf t j = micOf s j ∧ (micEn t).testBit j = (micEn s).testBit j)
        ∧ (s.mic.late0700 = none → MailFrame q t { s with
            mic.page0700 := t.mic.page0700, mic.chans := t.mic.chans, mic.clk0 := t.mic.clk0, mic.modeMs := t.mic.modeMs })
        ∧ Replied 0x0701 q .ok [] t)
    ∧ (q.len = 4 → q.u8 0 = 1 → 3 ≤ q.u8 1 → q.u8 1 ≤ 30 → 1 ≤ q.u8 2 → q.u8 2 ≤ 60 → zeros q 3 1 = true →
      s.mic.mute = false → swEn s = false → s.mic.hist ≠ .opened → ∃ t, exec (.wakeEnable q) s = .next t ∧ swEn t = true
        ∧ swThresh t = q.u8 1 ∧ swTimeout t = q.u8 2 ∧ t.mic.floors = Vector.replicate 4 none ∧ t.mic.onset = 0
        ∧ t.mic.frames = [] ∧ t.mic.nextIndex = 0 ∧ Replied 0x0801 q .ok [] t)
    ∧ (q.len = 0 → s.mic.hist = .opened → s.time.now < s.mic.relockAt → ∃ t, exec (.wakeRelease q) s = .next t
        ∧ t.mic.hist = .locked ∧ t.mic.stream = [] ∧ Raised 114 t ∧ Replied 0x0802 q .ok [1, 0, 0, 0] t)

/-- With the part running: DETECTION_FRAME_END, while Speedwell works and the 160 instants of the frame have been
written, puts them as a frame at the head of the history, which keeps at most 200 frames, and the next frame begins
245,760 tu after this one; HANGOVER_END once every window has ended closes the hangover, and does nothing while one
is open; HISTORY_OPEN of a locked history with an opening waiting opens it for the master of STREAM_TO with E113, an
empty stream and LOST 0; HISTORY_RELEASE_TIMEOUT at its end relocks it with E114; HISTORY_ERASE_DONE leaves it
locked and empty; STREAM_BLOCK_READY with the stream empty and the next block whole and still held copies its 324
words and moves on by 160 instants. -/
def Obligations.ListeningEvents : Prop :=
  ∀ s : State, Runs s →
    (∀ e0 e1 e2 e3 : Rat, swRuns s = true → s.mic.clk0 ≠ 0 → 160 ≤ s.mic.running.length →
      ∃ t, exec (.detectionFrameEnd e0 e1 e2 e3 ()) s = .next t ∧ t.mic.running = s.mic.running.drop 160 ∧ t.mic.nextIndex = s.mic.nextIndex + 160
        ∧ t.mic.frameStart = s.mic.frameStart + 245760 ∧ t.mic.frames.length ≤ 200
        ∧ ∃ f, t.mic.frames.head? = some f ∧ f.index = s.mic.nextIndex ∧ f.samples = s.mic.running.take 160
          ∧ f.time = s.mic.frameStart + 1536 - s.time.start)
    ∧ ((∀ w ∈ s.mic.hangs, w.2 ≤ s.time.now) → exec .hangoverEnd s = .next { s with mic.hangover := false })
    ∧ ((∃ w ∈ s.mic.hangs, s.time.now < w.2) → exec .hangoverEnd s = .next s)
    ∧ (∀ w i, s.mic.wantOpen = some (w, i) → s.mic.hist = .locked → s.boot.ready = true → ∃ t,
      exec .historyOpen s = .next t ∧ t.mic.hist = .opened ∧ t.mic.wantOpen = none ∧ t.mic.stream = [] ∧ t.mic.lost = 0
        ∧ t.mic.served = (if swStreamOwner s then s.own.owner.getD 0 else Fin.ofNat 4 (swStreamMaster s))
        ∧ t.mic.relockAt = w + 24576000 * swTimeout s ∧ Raised 113 t)
    ∧ (s.mic.hist = .opened → s.mic.relockAt ≤ s.time.now → ∃ t, exec .historyReleaseTimeout s = .next t
        ∧ t.mic.hist = .locked ∧ t.mic.stream = [] ∧ Raised 114 t)
    ∧ (s.mic.hist = .erasing → exec .historyEraseDone s = .next { s with
        mic.hist := .locked, mic.frames := [], mic.markers := [], mic.nextIndex := 0, mic.running := []
        mic.frameStart := s.time.now })
    ∧ (s.mic.hist = .opened → s.mic.stream = [] → cdiv (oldestInstant s) 160 * 160 ≤ s.mic.nextBlock →
      s.mic.nextBlock + 160 ≤ s.mic.nextIndex → ∃ t, exec .streamBlockReady s = .next t ∧ t.mic.stream.length = 324
        ∧ t.mic.nextBlock = s.mic.nextBlock + 160 ∧ t.mic.gap = false)

/-- With the part running: MIC_STARTUP_END at the end of STARTUP_MS, its clock running, lets the channel run;
MIC_FAULT of a running, clocked channel whose fault detection is on raises E096 + m and the supervisor counts its
first fault and lets it back off; MIC_MUTE_ON with no sweep running mutes: the clock stops, the history is erased,
E116 is raised; MIC_MUTE_FALL opens a window of 10 ms, and MIC_MUTE_OFF at its end unmutes with E117;
PDM_CLK0_RATE_CHANGE at an instant boundary gives the clock the rate that Table 6.2 asks for. -/
def Obligations.MicrophoneEvents : Prop :=
  ∀ s : State, Runs s →
    (∀ (ch : Fin 16) (d : Nat), micClocked s ch.val = true → (micOf s ch.val).st = .starting → (micOf s ch.val).due = some d → d ≤ s.time.now →
      ∃ t, exec (.micStartupEnd ch) s = .next t ∧ (micOf t ch.val).st = .running
        ∧ ∀ j < 16, j ≠ ch.val → micOf t j = micOf s j)
    ∧ (∀ (ch : Fin 16) (kind : Fin 3), micWatched s ch.val = true → micClocked s ch.val = true → (micOf s ch.val).st = .running →
      (faultOf s 1 ch.val).st = .normal → (faultOf s 1 ch.val).windowEnd = none → ∃ t,
      exec (.micFault ch kind) s = .next t ∧ Raised (96 + ch.val) t ∧ (faultOf t 1 ch.val).st = .backoff
        ∧ (faultOf t 1 ch.val).count = 1 ∧ (faultOf t 1 ch.val).cause = kind.val + 1
        ∧ (faultOf t 1 ch.val).windowEnd = some (s.time.now + 49152000))
    ∧ (s.mic.mute = false → s.svc.sorrel = none → ∃ t, exec .micMuteOn s = .next t ∧ t.mic.mute = true
        ∧ t.mic.clk0 = 0 ∧ t.mic.hist = .erasing ∧ t.mic.stream = [] ∧ t.mic.hangs = [] ∧ Raised 116 t)
    ∧ (s.mic.mute = true → exec .micMuteFall s = .next { s with mic.muteBall := false, mic.muteRelease := some (s.time.now + 245760) })
    ∧ (∀ d, s.mic.muteRelease = some d → d ≤ s.time.now → ∃ t, exec .micMuteOff s = .next t ∧ t.mic.mute = false
        ∧ t.mic.muteRelease = none ∧ Raised 117 t)
    ∧ ((s.time.now - s.mic.frameStart) % 1536 = 0 → s.mic.clk0 ≠ 0 → clk0Want s ≠ 0 →
      ∃ t, exec .pdmClk0RateChange s = .next t ∧ t.mic.clk0 = clk0Want s)

/-- For a chain that is not retired and has no swap waiting or fading: FLT_BANK_LOAD without SEAL at offset 0 starts
the inactive bank with the bytes sent; FLT_TRIM_SET with TYPE 0 on a stopped chain makes the bank with the
pass-through section the active one with E198; FLT_DELAY_SET on a stopped chain sets the delay; FLT_BANK_SWAP with N
0 and WHEN 0 on a stopped chain with the inactive bank READY makes it the active one with E198, and with a later
WHEN waits, PENDING; FLT_CHAIN_SYNC of chains that all stand still answers OK, of running ones it waits, PENDING,
for their first output instant. -/
def Obligations.FilterCommands : Prop :=
  ∀ (q : Req) (s : State), CanServeOwner q s → Awake s → ∀ c < 98, trimChain c = true → (chainOf s c).retired = false →
    (chainOf s c).wait = none → (chainOf s c).fade = none →
    (9 ≤ q.len → q.u8 0 = c → q.u8 1 = 0 → q.u16 2 = 0 → zeros q 4 4 = true → ∃ t, exec (.fltBankLoad q) s = .next t
        ∧ idleBank (chainOf t c) = { idleBank (chainOf s c) with st := .loading, image := q.payload.drop 8 }
        ∧ activeBank (chainOf t c) = activeBank (chainOf s c) ∧ MailFrame q t { s with flt.chains := t.flt.chains }
        ∧ Replied 0x0980 q .ok [] t)
    ∧ (q.len = 12 → q.u8 0 = c → q.u8 1 ≤ 7 → q.u8 2 = 0 → zeros q 3 1 = true → 100 ≤ q.u32 4 →
      q.u32 4 < 49 * chainHz s c → withinI (-240) 240 (q.i16 8) = true → 100 ≤ q.u16 10 → q.u16 10 ≤ 20000 →
      (chainOf s c).resetAt = none → (idleBank (chainOf s c)).st ≠ .loading → ∃ t, exec (.fltTrimSet q) s = .next t
        ∧ (chainOf t c).active = !(chainOf s c).active ∧ Raised 198 t
        ∧ (activeBank (chainOf t c)).image = trimImage (activeBank (chainOf s c)).image (q.u8 1)
            (leBytes 4 (2 ^ 30) ++ List.replicate 16 0)
        ∧ Replied 0x0901 q .ok [] t)
    ∧ (q.len = 4 → q.u8 0 = c → zeros q 1 1 = true → q.u16 2 ≤ 16383 → (chainOf s c).delayFade = none →
      (chainOf s c).resetAt = none → ∃ t, exec (.fltDelaySet q) s = .next t ∧ chainDelayInt t c = q.u16 2 / 64
        ∧ chainDelayFrac t c = q.u16 2 % 64 ∧ MailFrame q t { s with flt.chains := t.flt.chains }
        ∧ (∀ j < 98, j ≠ c → chainOf t j = chainOf s j) ∧ Replied 0x0902 q .ok [] t)
    ∧ (q.len = 12 → q.u8 0 = c → q.u8 1 = 0 → q.u16 2 = 0 → q.u64 4 = 0 → (idleBank (chainOf s c)).st = .ready →
      (chainOf s c).resetAt = none → s.time.start ≤ s.time.now → ∃ t, exec (.fltBankSwap q) s = .next t
        ∧ (chainOf t c).active = !(chainOf s c).active ∧ (activeBank (chainOf t c)).st = .active
        ∧ (idleBank (chainOf t c)).st = .ready ∧ Raised 198 t ∧ (portOf t q.m).rspReady = true)
    ∧ (q.len = 12 → q.u8 0 = c → q.u8 1 = 0 → q.u16 2 = 0 → (idleBank (chainOf s c)).st = .ready → devTime s < q.u64 4 →
      q.u64 4 ≤ devTime s + 1474560000 → s.time.start ≤ s.time.now → ∃ t, exec (.fltBankSwap q) s = .next t
        ∧ (chainOf t c).wait = some { n := 0, at_ := s.time.start + q.u64 4, late := false, cid := some s.own.nextCid
                                      isSwap := true }
        ∧ Stands 0x0981 q t s ∧ MailFrame q t { s with flt.chains := t.flt.chains }
        ∧ Replied 0x0981 q .pending (swapPayload (!(chainOf s c).active) 0) t)
    ∧ (q.len = 24 → syncMask q = 2 ^ c → q.u64 16 = 0 → (chainOf s c).resetAt = none →
      ∃ t, exec (.fltChainSync q) s = .next t ∧ MailFrame q t s ∧ Replied 0x0982 q .ok [] t)
    ∧ (q.len = 24 → syncMask q = 2 ^ c → q.u64 16 = 0 → (chainOf s c).resetAt.isSome = true →
      s.time.start ≤ s.time.now → ∃ t, exec (.fltChainSync q) s = .next t
        ∧ MailFrame q t { s with flt.syncs := s.flt.syncs ++
            [{ mask := 2 ^ c, at_ := 0, late := false, cid := s.own.nextCid }] }
        ∧ Stands 0x0982 q t s ∧ Replied 0x0982 q .pending [] t)

/-- FILTER_SETTLED of a running chain once the output sample numbered D' + S' since the reset stands raises SETTLED
with E199, and before it does nothing; BANK_SWAP_TAKE_EFFECT of a HARD swap whose time has come, at an output
instant of the chain or on a stopped chain whose hall runs, makes the other bank the active one with E198;
BANK_SWAP_DONE with the last sample of a fade ends it at the bank it leads to, and with the last sample of a
reversal at the bank it came from, with E198; DELAY_FADE_END with the 64th sample ends the fade; CHAIN_SYNC_DUE at
an output instant of the one running chain a job names, its time come, resets that chain now and ends the job. At
every output sample of a chain its count rises by one. Samples before D' are exact zero with VALID low, as is every
sample over a crossing that is not OPEN; from D' on VALID is high, from D' + S' on SETTLED too. A sample lies within
full scale. A decimator of an ordinary chain whose active bank holds a pass image, with no cross-fade, gives its
input unchanged, or DELAY_INT samples late, and keeps the input at the head of its delay line. At the end of a
carrier period a sense converter that ran through it has COARSE_VALID 1, any other 0; the calibration last asked for
acts from there; no other chain changes. A sense sample has 24 bits, left-aligned and saturated; with calibration
zero a converter value of 24 bits is kept. -/
def Obligations.FilterEvents : Prop :=
  (∀ (c : Fin 98) (s : State), Awake s →
    ((chainOf s c.val).resetAt.isSome = true → (chainOf s c.val).settled = false →
      (chainReached s c.val ((chainOf s c.val).dPrime + (chainOf s c.val).sPrime) = true →
        exec (.filterSettled c) s = .next (raise 199 c.val { s with
          flt.chains := vupd s.flt.chains c.val (fun k => { k with settled := true }) }))
      ∧ (chainReached s c.val ((chainOf s c.val).dPrime + (chainOf s c.val).sPrime) = false →
        exec (.filterSettled c) s = .next s))
    ∧ (∀ w, (chainOf s c.val).wait = some w → w.at_ ≤ s.time.now → w.n = 0 → chainReady s c.val = true → ∃ t,
      exec (.bankSwapTakeEffect c) s = .next t ∧ (chainOf t c.val).active = !(chainOf s c.val).active
        ∧ (chainOf t c.val).wait = none ∧ Raised 198 t)
    ∧ (∀ f, (chainOf s c.val).fade = some f → f.forward = true → f.n = f.pos + 1 → chainTick s c.val = true → ∃ t,
      exec (.bankSwapDone c) s = .next t ∧ (chainOf t c.val).fade = none ∧ (chainOf t c.val).active = f.goal
        ∧ Raised 198 t)
    ∧ (∀ f, (chainOf s c.val).fade = some f → f.forward = false → f.pos = 0 → chainTick s c.val = true → ∃ t,
      exec (.bankSwapDone c) s = .next t ∧ (chainOf t c.val).fade = none ∧ (chainOf t c.val).active = !f.goal
        ∧ Raised 198 t)
    ∧ (∀ f, (chainOf s c.val).delayFade = some f → (chainOf s c.val).delayHeld = none → f.pos = 63 →
      chainTick s c.val = true → ∃ t, exec (.delayFadeEnd c) s = .next t
        ∧ (chainOf t c.val).delayFade = none ∧ ∀ j < 98, j ≠ c.val → chainOf t j = chainOf s j)
    ∧ (∀ j, s.flt.syncs = [j] → j.mask = 2 ^ c.val → j.at_ ≤ s.time.now → (chainOf s c.val).resetAt.isSome = true →
      chainTick s c.val = true → (chainOf s c.val).fade = none → ∃ t, exec (.chainSyncDue c) s = .next t ∧ t.flt.syncs = []
        ∧ (chainOf t c.val).resetAt = some s.time.now ∧ (chainOf t c.val).count = 0
        ∧ (chainOf t c.val).settled = false))
  ∧ (∀ (s : State) (c : Nat) (k : Chain), c < 98 → k = chainOf s c →
    (chainNext s c).count = k.count + 1
    ∧ ((k.count < k.dPrime ∨ chainOpen s c = false) → (chainNext s c).out = {})
    ∧ (k.dPrime ≤ k.count → chainOpen s c = true → (chainNext s c).out.valid = true
        ∧ ((chainNext s c).out.settled = true ↔ k.dPrime + k.sPrime ≤ k.count))
    ∧ (-(2 ^ 31) ≤ (chainNext s c).out.v ∧ (chainNext s c).out.v < 2 ^ 31)
    ∧ (∀ b, isInterp c = false → isSense c = false → k.fade = none → k.delayFade = none →
        b = (if k.active then k.bankB else k.bankA) → b.st = .active → imgNbq b.image = 0 → firTaps s c b.image = 0 →
        (chainNext s c).line.head? = some (chainInput s c) ∧ (chainNext s c).clip = min 65535 k.clip
        ∧ (k.dPrime ≤ k.count → chainOpen s c = true →
          (chainDelayInt s c = 0 → (chainNext s c).out.v = chainInput s c)
          ∧ (∀ d < 255, chainDelayInt s c = d + 1 → (chainNext s c).out.v = (satFull (k.line.getD d 0)).1))))
  ∧ ((∀ (s : State) (c : Nat), c < 98 →
    (chainOf (coarseStep c s) c).coarseOk = ((chainOf s c).resetAt.isSome && (chainOf s c).whole)
    ∧ (chainOf (coarseStep c s) c).whole = (chainOf s c).resetAt.isSome
    ∧ (∀ x, (chainOf s c).late = some x → (chainOf (coarseStep c s) c).cal = BitVec.ofNat 32 (x.v / 2 ^ 32))
    ∧ (∀ j < 98, j ≠ c → chainOf (coarseStep c s) j = chainOf s j)
    ∧ ((chainOf s c).late = none → (chainOf (coarseStep c s) c).cal = (chainOf s c).page.extractLsb' 32 32
      ∧ coarseStep c s = { s with flt := (coarseStep c s).flt }))
  ∧ (∀ (k : Chain) (raw : Int), (senseFine k raw % 256 = 0 ∧ -(2 ^ 31) ≤ senseFine k raw ∧ senseFine k raw < 2 ^ 31)
    ∧ (k.cal = 0 → ∀ v, raw = 256 * v → -(2 ^ 23) ≤ v → v < 2 ^ 23 → senseFine k raw = raw)))

/-- For a target and a source of no retired channel: ROUTE_SET answers PENDING and leaves the change waiting with
its source, gain and fade (FADE of page 0x0A00 for 0xFFFF), the route in force and every other target as they were;
ROUTE_DIRECT gives the target its source and gain at once, with no change waiting and no fade. GAIN_SET of the gain
in force with no change waiting answers OK and changes nothing; of another gain it answers PENDING and the change
waits for a zero crossing until ZC_TIMEOUT_MS from now; over a change that waits, it takes its place with the
timeout of the first. GAIN_DIRECT gives the index its gain at once and leaves every other gain as it was. -/
def Obligations.RouteCommands : Prop :=
  ∀ (q : Req) (s : State), CanServeOwner q s → Awake s →
    (q.len = 8 → q.u16 0 < 1152 → srcOk (q.u16 2) = true → gainOk (q.i16 4) = true →
      (q.u16 6 ≤ 256 ∨ q.u16 6 = 0xFFFF) → routeRetired s q = false →
      ∃ t, exec (.routeSet q) s = .next t ∧ gainJob t (q.u16 0) = none
        ∧ targetOf t (q.u16 0) = { targetOf s (q.u16 0) with
            wait := some ⟨srcOf (q.u16 2), q.i16 4, if q.u16 6 = 0xFFFF then defaultFade s else q.u16 6, s.time.now,
              some s.own.nextCid⟩ }
        ∧ (∀ k < 1152, k ≠ q.u16 0 → targetOf t k = targetOf s k)
        ∧ (gainJob s (q.u16 0) = none → (targetOf s (q.u16 0)).wait = none →
            MailFrame q t { s with fab.targets := t.fab.targets } ∧ Stands 0x0A01 q t s ∧ Replied 0x0A01 q .pending [] t))
    ∧ (q.len = 8 → q.u16 0 < 1152 → srcOk (q.u16 2) = true → gainOk (q.i16 4) = true → zeros q 6 2 = true →
      routeRetired s q = false → ∃ t, exec (.routeDirect q) s = .next t ∧ gainStored t (q.u16 0) = q.i16 4
        ∧ gainJob t (q.u16 0) = none
        ∧ targetOf t (q.u16 0) = { targetOf s (q.u16 0) with src := srcOf (q.u16 2), wait := none, fade := none }
        ∧ (∀ k < 1152, k ≠ q.u16 0 → targetOf t k = targetOf s k)
        ∧ (∀ i < 1280, i ≠ q.u16 0 → gainStored t i = gainStored s i))
    ∧ (q.len = 4 → q.u16 0 < 1280 → gainOk (q.i16 2) = true → gainRetired s (q.u16 0) = false →
      (gainJob s (q.u16 0) = none → gainStored s (q.u16 0) = q.i16 2 →
        ∃ t, exec (.gainSet q) s = .next t ∧ MailFrame q t s ∧ Replied 0x0B01 q .ok [] t)
      ∧ (gainJob s (q.u16 0) = none → gainStored s (q.u16 0) ≠ q.i16 2 →
        ∃ t, exec (.gainSet q) s = .next t ∧ MailFrame q t { s with fab.gainJobs := s.fab.gainJobs ++
            [{ index := q.u16 0, goal := q.i16 2, due := s.time.now + zcTimeoutTu s, cid := some s.own.nextCid }] }
          ∧ Stands 0x0B01 q t s ∧ Replied 0x0B01 q .pending [] t)
      ∧ (∀ j, gainJob s (q.u16 0) = some j → j.ramp = none → ∃ t, exec (.gainSet q) s = .next t
          ∧ gainJob t (q.u16 0) = some { j with goal := q.i16 2, cid := some s.own.nextCid } ∧ t.fab.gains = s.fab.gains)
      ∧ ∃ t, exec (.gainDirect q) s = .next t ∧ gainStored t (q.u16 0) = q.i16 2 ∧ gainJob t (q.u16 0) = none
          ∧ t.fab.targets = s.fab.targets ∧ ∀ i < 1280, i ≠ q.u16 0 → gainStored t i = gainStored s i)

/-- ROUTE_LANDING_SET with EN 1 of channels that make an acceptable landing, that no other landing carries and no
retired channel owns answers PENDING and the landing acquires with 100 ms for its lock; with EN 0 it is off, OK.
ROUTE_SILENCE_SET writes THRESH, HOLD and IDLE of COUNT points from FIRST on and of no others. ROUTE_LANE_SET with
EN 1 of a lane at rest whose ends run starts its 1 ms ramp, PENDING; with an end that does not run it answers
NOT_READY; with EN 0 a running lane falls for 1 ms, PENDING. -/
def Obligations.LandingAndLaneCommands : Prop :=
  ∀ (q : Req) (s : State), CanServeOwner q s → Awake s →
    (∀ k < 4, q.len = 16 → q.u8 0 = k → q.u8 1 ≤ 1 → q.u8 2 ≤ 1 → q.u8 3 ≤ 1 → q.u8 4 ≤ 8 → zeros q 5 3 = true →
      zeros q (8 + q.u8 4) (8 - q.u8 4) = true →
      (q.u8 1 = 0 → ∃ t, exec (.routeLandingSet q) s = .next t ∧ (landOf t k).st = .off ∧ landEn (landOf t k) = false
        ∧ (landOf t k).cid = none ∧ ∀ j < 4, j ≠ k → landOf t j = landOf s j)
      ∧ (q.u8 1 = 1 → landConfigOk s (q.u8 2 == 1) ((List.range (q.u8 4)).map (fun i => q.u8 (8 + i))) = true →
        (∀ i < q.u8 4, (∀ j < 4, j ≠ k → landHas (landOf s j) (q.u8 2 == 1) (q.u8 (8 + i)) = false)
          ∧ (if q.u8 2 = 1 then sinkRetired s (q.u8 (8 + i)) else sourceRetired s (q.u8 (8 + i))) = false) →
        ∃ t, exec (.routeLandingSet q) s = .next t ∧ (landOf t k).st = .acquiring ∧ landEn (landOf t k) = true
          ∧ landOut (landOf t k) = (q.u8 2 == 1) ∧ landTrack (landOf t k) = (q.u8 3 == 1)
          ∧ landChans (landOf t k) = (List.range (q.u8 4)).map (fun i => q.u8 (8 + i))
          ∧ (landOf t k).cid = some (s.own.nextCid, s.time.now + 100 * 24576)
          ∧ (∀ j < 4, j ≠ k → landOf t j = landOf s j)
          ∧ ((landOf s k).cid = none → (portOf t q.m).rspReady = true ∧ Stands 0x0A04 q t s)))
    ∧ (q.len = 8 → 1 ≤ q.u8 1 → q.u8 0 + q.u8 1 ≤ 256 → withinI (-120) (-40) (q.i8 2) = true → q.u8 3 ≤ 1 →
      1 ≤ q.u16 4 → q.u16 4 ≤ 1800 → zeros q 6 2 = true → ∃ t, exec (.routeSilenceSet q) s = .next t
        ∧ MailFrame q t { s with fab.silence := t.fab.silence } ∧ Replied 0x0A06 q .ok [] t
        ∧ ∀ p < 256, if q.u8 0 ≤ p ∧ p < q.u8 0 + q.u8 1
          then (silenceOf t p).thresh = q.i8 2 ∧ (silenceOf t p).hold = q.u16 4 ∧ (silenceOf t p).idle = (q.u8 3 == 1)
            ∧ (silenceOf t p).silent = (silenceOf s p).silent
          else silenceOf t p = silenceOf s p)
    ∧ (∀ j < 8, q.len = 8 → q.u8 0 = j → q.u8 1 = 1 → gainOk (q.i16 4) = true → q.u8 6 ≤ 1 → zeros q 7 1 = true →
      lanePoints (q.u8 2) (q.u8 3) = true → lanesAt s j (q.u8 3) < 2 → sourceRetired s (q.u8 2) = false →
      sinkRetired s (q.u8 3) = false → laneLive (laneOf s j) = false → (laneOf s j).ramp = none →
      (laneEnds s (q.u8 2) (q.u8 3) = true → ∃ t, exec (.routeLaneSet q) s = .next t
        ∧ laneOf t j = { laneOf s j with
            ramp := some (.start, s.time.now + 24576), src := q.u8 2, snk := q.u8 3, gain := q.i16 4, barred := false
            cid := some s.own.nextCid, levelFrom := 0
            levelTo := if q.u8 6 = 1 ∨ laneGuarded s (q.u8 3) = true then 0 else 24576 }
        ∧ laneEn t j = true ∧ laneSrc t j = q.u8 2 ∧ laneSnk t j = q.u8 3 ∧ laneMute t j = (q.u8 6 == 1)
        ∧ (∀ i < 8, i ≠ j → laneOf t i = laneOf s i)
        ∧ ((laneOf s j).cid = none → Stands 0x0A08 q t s ∧ Replied 0x0A08 q .pending [] t))
      ∧ (laneEnds s (q.u8 2) (q.u8 3) = false → ∃ t, exec (.routeLaneSet q) s = .next t
        ∧ (laneOf t j).ramp = none ∧ (laneOf t j).st = (laneOf s j).st ∧ Replied 0x0A08 q .notReady [] t))
    ∧ (∀ j < 8, q.len = 8 → q.u8 0 = j → q.u8 1 = 0 → gainOk (q.i16 4) = true → q.u8 6 ≤ 1 → zeros q 7 1 = true →
      lanePoints (q.u8 2) (q.u8 3) = true → sourceRetired s (q.u8 2) = false → sinkRetired s (q.u8 3) = false →
      laneLive (laneOf s j) = true → ∃ t, exec (.routeLaneSet q) s = .next t
        ∧ (laneOf t j).ramp = some (.stop false, s.time.now + 24576) ∧ (laneOf t j).st = (laneOf s j).st
        ∧ laneEn t j = false ∧ ∀ i < 8, i ≠ j → laneOf t i = laneOf s i)

/-- While the part is awake and HALL_AUD runs: ROUTE_APPLIED at a frame boundary after the change was taken, with no
fade running, gives the target its new source and gain, starts the fade and raises E200; ROUTE_FADE_END at the last
sample of a fade ends it; GAIN_ZERO_CROSSING within the timeout, at a sample of the input, gives the index the gain
asked for where that sample is a zero crossing (exact zero, another sign than the sample before, or VALID low) and
changes nothing where it is none; GAIN_RAMP_END at the end of a ramp gives the index the gain asked for; GAIN_RAMPED
at a sample once the timeout has ended starts the ramp from the gain in force with E203; MIXER_CLIP of a mixer that
has saturated raises E204 unless the mixer raised it within 2,457,600 tu, and of one that has not does nothing. At a
tick of the fabric a sink without source, or whose source carries VALID low, is zero with VALID low; one at 0 dB
takes the sample its source point held, with its VALID and SETTLED; a mixer without a connected input is zero with
VALID low. Every sink and mixer sample lies within full scale. While MIC_MUTE is asserted every PDM point whose
crossings are OPEN, landed or not, is exact zero with VALID high. -/
def Obligations.RouteEvents : Prop :=
  (∀ s : State, Awake s → hallRuns s hAUD = true →
    (∀ (k : Fin 1152) w, (targetOf s k.val).wait = some w → (targetOf s k.val).fade = none →
      boundarySince w.asked s = true → ∃ t, exec (.routeApplied k) s = .next t ∧ gainStored t k.val = w.gain
        ∧ targetOf t k.val = { targetOf s k.val with
            src := w.src, wait := none
            fade := if w.fade = 0 then none
              else some ⟨w.fade, s.time.now, (targetOf s k.val).src, gainStored s k.val, w.cid, 0⟩ }
        ∧ (∀ j < 1152, j ≠ k.val → targetOf t j = targetOf s j) ∧ Raised 200 t)
    ∧ (∀ (k : Fin 1152) f, (targetOf s k.val).fade = some f → f.began + samplesTu (fhHz s) (f.n - 1) ≤ s.time.now →
      ∃ t, exec (.routeFadeEnd k) s = .next t ∧ (targetOf t k.val).fade = none
        ∧ (targetOf t k.val).src = (targetOf s k.val).src ∧ ∀ j < 1152, j ≠ k.val → targetOf t j = targetOf s j)
    ∧ (∀ (i : Fin 1288) j, gainJob s i.val = some j → j.ramp = none → s.time.now < j.due → gainTick s i.val = true →
      (gainCross s i.val (gainInput s i.val) = true →
        ∃ t, exec (.gainZeroCrossing i) s = .next t ∧ gainStored t i.val = j.goal ∧ gainJob t i.val = none
          ∧ t.fab.targets = s.fab.targets ∧ ∀ k < 1280, k ≠ i.val → gainStored t k = gainStored s k)
      ∧ (gainCross s i.val (gainInput s i.val) = false → exec (.gainZeroCrossing i) s = .next s))
    ∧ (∀ (i : Nat) (a : Smp), gainCross s i a = true ↔ (a.valid = false ∨ a.v = 0 ∨ (a.v < 0 ↔ gainSign s i = false)))
    ∧ (∀ (i : Fin 1288) j, i.val < 1280 → gainJob s i.val = some j → j.ramp = none → j.due ≤ s.time.now →
      gainTick s i.val = true → ∃ t, exec (.gainRamped i) s = .next t
        ∧ gainJob t i.val = some { j with ramp := some (s.time.now, gainOf (gainStored s i.val)) }
        ∧ t.fab.gains = s.fab.gains ∧ t.fab.targets = s.fab.targets ∧ Raised 203 t)
    ∧ (∀ (i : Fin 1288) j b, gainJob s i.val = some j → j.ramp = some b →
      b.1 + samplesTu (rampHz s i.val) (rampLen i.val) ≤ s.time.now →
      ∃ t, exec (.gainRampEnd i) s = .next t ∧ gainStored t i.val = j.goal ∧ gainJob t i.val = none
        ∧ t.fab.targets = s.fab.targets ∧ ∀ k < 1280, k ≠ i.val → gainStored t k = gainStored s k)
    ∧ (∀ m : Fin 64, s.fab.mixClip.getLsbD m.val = true → s.fab.clipQuiet[m] ≤ s.time.now →
      ∃ t, exec (.mixerClip m) s = .next t ∧ Raised 204 t ∧ t.fab.mixClip.getLsbD m.val = false
        ∧ t.fab.clipQuiet = s.fab.clipQuiet.set m.val (s.time.now + 2457600) ∧ t.fab.mixerClips = s.fab.mixerClips
        ∧ ∀ k : Fin 64, k ≠ m → t.fab.mixClip.getLsbD k.val = s.fab.mixClip.getLsbD k.val)
    ∧ (∀ m : Fin 64, s.fab.mixClip.getLsbD m.val = true → s.time.now < s.fab.clipQuiet[m] →
      ∃ t, exec (.mixerClip m) s = .next t ∧ t = { s with fab.mixClip := t.fab.mixClip }
        ∧ t.fab.mixClip.getLsbD m.val = false
        ∧ ∀ k : Fin 64, k ≠ m → t.fab.mixClip.getLsbD k.val = s.fab.mixClip.getLsbD k.val)
    ∧ (∀ m : Fin 64, s.fab.mixClip.getLsbD m.val = false → exec (.mixerClip m) s = .next s))
  ∧ (∀ s : State,
    (∀ k < 128, (targetOf s k).fade = none →
      ((targetOf s k).src = none → vget (fabricStep s).fab.snk k = {})
      ∧ (∀ p < 192, (targetOf s k).src = some p →
        ((vget s.fab.src p).valid = false → vget (fabricStep s).fab.snk k = {})
        ∧ ((vget s.fab.src p).valid = true → s.fab.gainJobs = [] → gainNow s k = 0 → gainNow s (1152 + k) = 0 →
            vget (fabricStep s).fab.snk k = { v := (satFull (vget s.fab.src p).v).1, valid := true
                                              settled := (vget s.fab.src p).settled })))
    ∧ (∀ k < 128, -(2 ^ 31) ≤ (vget (fabricStep s).fab.snk k).v ∧ (vget (fabricStep s).fab.snk k).v < 2 ^ 31)
    ∧ (∀ m < 64, -(2 ^ 31) ≤ (vget (fabricStep s).fab.src (192 + m)).v ∧ (vget (fabricStep s).fab.src (192 + m)).v < 2 ^ 31
        ∧ ((∀ i < 16, (targetOf s (128 + 16 * m + i)).src = none ∧ (targetOf s (128 + 16 * m + i)).fade = none) →
            vget (fabricStep s).fab.src (192 + m) = {}))
    ∧ (∀ p, 4 ≤ p → p < 20 → s.mic.mute = true → sourceOpen s p = true →
        vget (fabricStep s).fab.src p = { v := 0, valid := true, settled := true }))

/-- With the part running: LANDING_LOCK of a landing that acquires, no longer falls, with its clock present and its
configuration still acceptable locks it, counts the lock, completes its command and raises E192 + k;
LANDING_SET_TIMEOUT after 100 ms ends its command only; LANDING_RATIO tracks an ASYNC landing, with E196 after more
than 100 ppm; LANDING_LOCK_LOST of a locked ASYNC landing lets its outputs fall over 32 samples and the landing
acquire again with E192 + k. SILENCE_START at the end of HOLD, counted from the first of the samples that are all
quiet, marks the point SILENT with E201; SILENCE_END, while no window of a point closes, at a sample with VALID high
whose value is 2^31 × 10^(THRESH/20) or more marks it not SILENT with E202. LANE_AUTO_RESTART of a lane that may
start begins its ramp, LANE_RAMP_END at its end brings it to running, or muted, or stopped with E205. -/
def Obligations.LandingAndLaneEvents : Prop :=
  ∀ s : State, Runs s →
    (∀ (k : Fin 4) (ppm : Int), (landOf s k.val).st = .acquiring → (landOf s k.val).fall = 0 → landClock s (landOf s k.val) = true →
      landConfigOk s (landOut (landOf s k.val)) (landChans (landOf s k.val)) = true → hallsOpen 8 s = true →
      ∃ t, exec (.landingLock k ppm) s = .next t ∧ (landOf t k.val).st = .locked ∧ (landOf t k.val).cid = none
        ∧ (landOf t k.val).locks = min 65535 ((landOf s k.val).locks + 1)
        ∧ (landOf t k.val).ppm = (if landAsync s (landOf s k.val) then ppm else 0)
        ∧ (∀ j < 4, j ≠ k.val → landOf t j = landOf s j) ∧ Raised (192 + k.val) t)
    ∧ (∀ (k : Fin 4) c due, (landOf s k.val).cid = some (c, due) → due ≤ s.time.now →
      ∃ t, exec (.landingSetTimeout k) s = .next t ∧ landOf t k.val = { landOf s k.val with cid := none }
        ∧ ∀ j < 4, j ≠ k.val → landOf t j = landOf s j)
    ∧ (∀ (k : Fin 4) (ppm : Int), (landOf s k.val).st = .locked → landAsync s (landOf s k.val) = true →
      hallsOpen 8 s = true →
      ((ppm - (landOf s k.val).mark).natAbs ≤ 100000 →
        exec (.landingRatio k ppm) s = .next (onLand k.val (fun l => { l with
          ppm := ppm, ppmAt := s.time.now, drifts := ratioDrifts s l ppm }) s))
      ∧ (100000 < (ppm - (landOf s k.val).mark).natAbs → exec (.landingRatio k ppm) s =
          .next (raise 196 k.val (onLand k.val (fun l => { l with
            ppm := ppm, mark := ppm, ppmAt := s.time.now, drifts := ratioDrifts s l ppm }) s)))
      ∧ exec (.landingLockLost k) s =
          .next (raise (192 + k.val) 0 (onLand k.val (fun l => { l with
            st := .acquiring, rise := 0, fall := 32, fallFrom := l.rise, fallOut := landOut l
            fallChans := landChans l, fallHz := landRates s l }) s)))
    ∧ (∀ (p : Fin 256) (first : Nat), (silenceOf s p.val).silent = false → (silenceOf s p.val).quietAt = some first →
      first + 24576000 * (silenceOf s p.val).hold ≤ s.time.now →
      ∃ t, exec (.silenceStart p first) s = .next t ∧ silenceOf t p.val = { silenceOf s p.val with silent := true }
        ∧ Raised 201 t ∧ ∀ j < 256, j ≠ p.val → silenceOf t j = silenceOf s j)
    ∧ (∀ p : Fin 256, (silenceOf s p.val).silent = true → (vget s.fab.src p.val).valid = true →
      2 ^ 620 ≤ (vget s.fab.src p.val).v.natAbs ^ 20 * 10 ^ (-(silenceOf s p.val).thresh).toNat →
      (∀ j < 256, ∀ d, (silenceOf s j).quietAt = some d → s.time.now < d + 24576000 * (silenceOf s j).hold) →
      ∃ t, exec (.silenceEnd p) s = .next t ∧ Raised 202 t
        ∧ silenceOf t p.val = { silenceOf s p.val with silent := false, quietAt := none }
        ∧ ∀ j < 256, j ≠ p.val → silenceOf t j = silenceOf s j)
    ∧ (∀ j : Fin 8, laneMayStart s j.val = true → ∃ t, exec (.laneAutoRestart j) s = .next t
        ∧ laneOf t j.val = { laneOf s j.val with
            ramp := some (.start, s.time.now + 24576), src := laneSrc s j.val, snk := laneSnk s j.val, levelFrom := 0
            levelTo := if laneMute s j.val || laneGuarded s (laneSnk s j.val) then 0 else 24576 }
        ∧ ∀ i < 8, i ≠ j.val → laneOf t i = laneOf s i)
    ∧ (∀ (j : Fin 8) what due, (laneOf s j.val).ramp = some (what, due) → due ≤ s.time.now →
      ∃ t, exec (.laneRampEnd j) s = .next t ∧ Raised 205 t ∧ (∀ i < 8, i ≠ j.val → laneOf t i = laneOf s i)
        ∧ match what with
          | .start => (laneOf t j.val).ramp = none ∧ (laneOf t j.val).cid = none ∧ (laneOf t j.val).st =
              (if laneMute s j.val || laneGuarded s (laneOf s j.val).snk then .muted else .running)
          | .mute => (laneOf t j.val).ramp = none ∧ (laneOf t j.val).cid = none ∧ (laneOf t j.val).st = .muted
          | .unmute => (laneOf t j.val).ramp = none ∧ (laneOf t j.val).cid = none ∧ (laneOf t j.val).st = .running
          | .stop again => (laneOf t j.val).st = .stopped ∧ (again = false → (laneOf t j.val).ramp = none))

/-- TDM_PORT_SET of a port that is not retired writes EN, MASTER and FORMAT; a change of EN brings a waiting format
table into force at once; with EN 0 of an enabled port it is off; with EN 1 of a disabled one a master runs while
ASYN does and is held otherwise, and a slave acquires. SPDIF_IN_SET writes the fields of the receiver, which is
unlocked when it was off and EN is 1, and off when EN is 0. SPDIF_OUT_SET writes EN, RATE, WORD and AUTO_CS, and EN
0 turns the transmitter off. SPDIF_OUT_CS_SET with the transmitter off answers NOT_READY and keeps the bytes; with
it enabled it answers PENDING and the bytes wait for the next block. -/
def Obligations.TdmAndSpdifCommands : Prop :=
  ∀ (q : Req) (s : State), CanServeOwner q s → Awake s →
    (∀ n < 6, q.len = 4 → q.u8 0 = n → q.u8 1 ≤ 1 → q.u8 2 ≤ 1 → q.u8 3 < 8 → q.u8 3 < (tdmOf s n).formats.length →
      (q.u8 2 = 0 ∨ tdmIsRef s n = false) → (tdmOf s n).st ≠ .retired → ∃ t, exec (.tdmPortSet q) s = .next t
        ∧ tdmEn t n = (q.u8 1 == 1) ∧ tdmMaster t n = (q.u8 2 == 1) ∧ Page.get (tdmOf t n).page 0 3 = q.u8 3
        ∧ tdmFaultEn t n = tdmFaultEn s n
        ∧ ((tdmOf s n).newFormats = none → (tdmOf t n).formats = (tdmOf s n).formats)
        ∧ (∀ j < 6, j ≠ n → tdmOf t j = tdmOf s j) ∧ t.tdm.rx = s.tdm.rx ∧ t.tdm.page0D00 = s.tdm.page0D00
        ∧ (q.u8 1 = 0 → tdmEn s n = true → (tdmOf t n).st = .off ∧ (tdmOf t n).rate = none)
        ∧ (q.u8 1 ≤ 1 → tdmEn s n ≠ (q.u8 1 == 1) → (tdmOf t n).newFormats = none
            ∧ (tdmOf t n).formats = (tdmOf s n).newFormats.getD (tdmOf s n).formats)
        ∧ (q.u8 1 = 1 → tdmEn s n = false → q.u8 2 = 1 → (tdmOf t n).st = (if asynRuns s then .running else .held)
            ∧ (tdmOf t n).rate =
                (((tdmOf s n).newFormats.getD (tdmOf s n).formats)[q.u8 3]?).map (fun f => f.rate))
        ∧ (q.u8 1 = 1 → tdmEn s n = false → q.u8 2 = 0 → (tdmOf t n).st = .acquiring ∧ (tdmOf t n).rate = none)
        ∧ (portOf t q.m).rspReady = true)
    ∧ (∀ k < 2, q.len = 8 → q.u8 0 = k → q.u8 1 ≤ 1 → q.u8 2 ≤ 1 → q.u8 3 ≤ 1 → q.u8 4 ≤ 1 → q.u8 5 ≤ 5 → q.u8 6 ≤ 30 →
      zeros q 7 1 = true → (q.u8 4 = 0 ∨ passConds s k (q.u8 5) = true) → ∃ t, exec (.spdifInSet q) s = .next t
        ∧ rxEn t k = (q.u8 1 == 1) ∧ rxPass t k = (q.u8 4 == 1) ∧ passPort t k = q.u8 5
        ∧ (q.u8 1 = 1 → (rxOf s k).st = .off → (rxOf t k).st = .unlocked)
        ∧ (q.u8 1 = 1 → (rxOf s k).st ≠ .off → rxOf t k = rxOf s k)
        ∧ (q.u8 1 = 0 → (rxOf t k).st = .off ∧ (rxOf t k).rate = none)
        ∧ (∀ j < 2, j ≠ k → rxOf t j = rxOf s j ∧ rxEn t j = rxEn s j ∧ rxPass t j = rxPass s j ∧ passPort t j = passPort s j)
        ∧ t.tdm.ports = s.tdm.ports ∧ outEn t = outEn s ∧ outRate t = outRate s)
    ∧ (q.len = 4 → q.u8 0 ≤ 1 → 5 ≤ q.u8 1 → q.u8 1 ≤ 11 → q.u8 2 ≤ 2 → q.u8 3 ≤ 1 → ∃ t, exec (.spdifOutSet q) s = .next t
        ∧ outEn t = (q.u8 0 == 1) ∧ outRate t = q.u8 1 ∧ outWord t = q.u8 2 ∧ outAuto t = (q.u8 3 == 1)
        ∧ (q.u8 0 = 0 → t.tdm.outState = 0) ∧ t.tdm.ports = s.tdm.ports ∧ t.tdm.rx = s.tdm.rx
        ∧ (∀ k < 2, rxEn t k = rxEn s k ∧ rxPass t k = rxPass s k ∧ passPort t k = passPort s k))
    ∧ (q.len = 96 → (q.u8 0).testBit 1 = false → (q.u8 24).testBit 1 = false →
      (outEn s = false → ∃ t, exec (.spdifOutCsSet q) s = .next t
        ∧ MailFrame q t { s with tdm.outBytes := q.payload } ∧ Replied 0x0D04 q .notReady [] t)
      ∧ (outEn s = true → ∃ t, exec (.spdifOutCsSet q) s = .next t ∧ Stands 0x0D04 q t s ∧ Replied 0x0D04 q .pending [] t
        ∧ MailFrame q t { s with tdm.outNext := some (q.payload,
            (match s.tdm.outNext with | some x => x.2 | none => []) ++ [s.own.nextCid]) }))

/-- With the part running: TDM_FORMAT_TAKE_EFFECT puts the waiting format table in force; TDM_SLOT_MAP_TAKE_EFFECT
puts the waiting bindings in force; TDM_SLAVE_ACQUIRED of an enabled slave that acquires or has lost its clock, when
64 frames can have passed, lets it run at the rate with E176 + n; the first TDM_SLOT_ERROR of a window counts and
raises E187, the third counts as a clock loss; TDM_CLOCK_LOST lets the port lose its clock, counts it, raises E176 +
n, lets ASYN coast where the port is its reference, and under FAULT_EN the supervisor counts its first fault and
backs off. -/
def Obligations.TdmEvents : Prop :=
  ∀ (n : Fin 6) (s : State), Runs s →
    (∀ fs, (tdmOf s n.val).newFormats = some fs → ∃ t, exec (.tdmFormatTakeEffect n) s = .next t
      ∧ (tdmOf t n.val).formats = fs ∧ (tdmOf t n.val).newFormats = none ∧ (tdmOf t n.val).fmtCid = none
      ∧ (tdmOf t n.val).page = (tdmOf s n.val).page ∧ ∀ j < 6, j ≠ n.val → tdmOf t j = tdmOf s j)
    ∧ (∀ m, (tdmOf s n.val).newMap = some m → ∃ t, exec (.tdmSlotMapTakeEffect n) s = .next t
      ∧ tdmOf t n.val = { tdmOf s n.val with map := m, newMap := none, mapCid := none }
      ∧ ∀ j < 6, j ≠ n.val → tdmOf t j = tdmOf s j)
    ∧ (∀ rate : Fin 12, ((tdmOf s n.val).st = .acquiring ∨ (tdmOf s n.val).st = .lost) → (tdmOf s n.val).backoff = false →
      tdmEn s n.val = true → tdmMaster s n.val = false → framesPassed s (tdmOf s n.val).since rate.val 64 = true →
      ∃ t, exec (.tdmSlaveAcquired n rate) s = .next t ∧ Raised (176 + n.val) t
        ∧ tdmOf t n.val = { tdmOf s n.val with
            st := .running, rate := some rate.val, before := none, errWindow := none, startAt := s.time.now + 1
            dozed := false }
        ∧ ∀ j < 6, j ≠ n.val → tdmOf t j = tdmOf s j)
    ∧ (tdmSlaveRuns s n.val = true →
      ((tdmOf s n.val).errWindow = none → exec (.tdmSlotError n) s = .next (raise 187 n.val (onTdm n.val (fun p => { p with
          broken := true, slotErrs := min 65535 (p.slotErrs + 1), errWindow := some (s.time.now, 1) }) s)))
      ∧ (∀ b k, (tdmOf s n.val).errWindow = some (b, k) → 2 ≤ k → s.time.now < b + 245760 → tdmFaultEn s n.val = false →
        ∃ t, exec (.tdmSlotError n) s = .next t ∧ (tdmOf t n.val).st = .lost ∧ (tdmOf t n.val).rate = none
          ∧ (tdmOf t n.val).losses = min 65535 ((tdmOf s n.val).losses + 1) ∧ Raised 187 t ∧ Raised (176 + n.val) t)
      ∧ ∃ t, exec (.tdmClockLost n) s = .next t ∧ Raised (176 + n.val) t
        ∧ (tdmOf t n.val).losses = min 65535 ((tdmOf s n.val).losses + 1) ∧ (tdmOf t n.val).rate = none
        ∧ (∀ j < 6, j ≠ n.val → tdmOf t j = tdmOf s j)
        ∧ (tdmIsRef s n.val = true → s.clk.asyn = .locked → t.clk.asyn = .coasting ∧ t.clk.lost = true ∧ Raised 149 t)
        ∧ (tdmFaultEn s n.val = false → (tdmOf t n.val).st = .lost ∧ t.prot.tdmCh = s.prot.tdmCh)
        ∧ (tdmFaultEn s n.val = true → (faultOf s 3 n.val).st = .normal → (faultOf s 3 n.val).windowEnd = none →
            (faultOf t 3 n.val).st = .backoff ∧ (faultOf t 3 n.val).count = 1 ∧ (faultOf t 3 n.val).cause = 1))

/-- While the part is awake and HALL_AUD runs: SPDIF_IN_LOCK of an enabled unlocked receiver at a rate of R230, when
64 frames can have passed, gives it its state and rate with E182 + k; SPDIF_IN_UNLOCK of a locked one takes them
away with E182 + k and lets ASYN coast where the receiver is its reference; SPDIF_SUBFRAME_ERROR counts and lets its
channel repeat its sample; SPDIF_NONPCM_DETECTED and SPDIF_PCM_RETURN change the state with E182 + k;
SPDIF_BLOCK_END notes the marker of the receiver and stores channel status that two blocks in a row agree on, with
E184 + k, and the user bits of every good block, and a non-audio bit at 1 makes a PCM receiver NON-PCM with E182 +
k; SPDIF_OUT_BLOCK_START starts or goes on with the line and takes the waiting bytes; SPDIF_OUT_UNDERRUN after a
VALID sample raises E186 once, when neither sample to be sent is VALID. -/
def Obligations.SpdifEvents : Prop :=
  ∀ (k : Fin 2) (s : State), Awake s → hallRuns s hAUD = true →
    (∀ (rate : Fin 12) (np : Bool), rxEn s k.val = true → (rxOf s k.val).st = .unlocked → rxRate rate.val = true →
      framesPassed s (rxOf s k.val).since rate.val 64 = true →
      exec (.spdifInLock k rate np) s = .next (raise (182 + k.val) (if np then 2 else 1)
        (onRx k.val (fun r => { r with
          st := if np then .nonPcm else .pcm, rate := some rate.val, since := s.time.now, clean := false
          bits16 := false }) s)))
    ∧ (((rxOf s k.val).st = .pcm ∨ (rxOf s k.val).st = .nonPcm) →
      (∃ t, exec (.spdifInUnlock k) s = .next t ∧ (rxOf t k.val).st = .unlocked ∧ (rxOf t k.val).rate = none
        ∧ Raised (182 + k.val) t ∧ (∀ j < 2, j ≠ k.val → rxOf t j = rxOf s j)
        ∧ (s.clk.ref = 14 + k.val → s.clk.asyn = .locked → t.clk.asyn = .coasting ∧ t.clk.lost = true ∧ Raised 149 t)
        ∧ (s.clk.ref ≠ 14 + k.val → t.clk = s.clk))
      ∧ (∀ sub : Fin 2, exec (.spdifSubframeError ⟨k, sub⟩) s = .next (onRx k.val (fun r => { r with
          errs := min 65535 (r.errs + 1), again := r.again ||| BitVec.ofNat 2 (2 ^ sub.val) }) s))
      ∧ (∀ (a u : List Byte), a.length = 48 → u.length = 48 → nonAudio a = false → (rxOf s k.val).candidate = some a →
          ((rxOf s k.val).status.map (fun x => x.take 24)) ≠ some (a.take 24) →
          ∃ t, exec (.spdifBlockEnd k true a u) s = .next t ∧ Raised (184 + k.val) t
            ∧ rxOf t k.val = { rxOf s k.val with status := some a, user := some u, candidate := none, clean := true })
      ∧ (∀ (a u : List Byte), a.length = 48 → u.length = 48 → nonAudio a = false → (rxOf s k.val).candidate = none →
          ((rxOf s k.val).status.map (fun x => x.take 24)) ≠ some (a.take 24) →
          ∃ t, exec (.spdifBlockEnd k true a u) s = .next t ∧ t = { s with tdm.rx := t.tdm.rx, clk.marks := t.clk.marks }
            ∧ rxOf t k.val = { rxOf s k.val with user := some u, candidate := some a, clean := true })
      ∧ (∀ (a u : List Byte), ∃ t, exec (.spdifBlockEnd k false a u) s = .next t ∧ t = { s with tdm.rx := t.tdm.rx, clk.marks := t.clk.marks }
            ∧ rxOf t k.val = { rxOf s k.val with candidate := none })
      ∧ (∀ (a u : List Byte), a.length = 48 → nonAudio a = true → (rxOf s k.val).st = .pcm →
          ∃ t, exec (.spdifBlockEnd k true a u) s = .next t ∧ Raised (182 + k.val) t ∧ (rxOf t k.val).st = .nonPcm))
    ∧ ((rxOf s k.val).st = .pcm → ∀ (pc : Fin 32) (b : Bool), exec (.spdifNonpcmDetected k (some pc) b) s =
        .next (raise (182 + k.val) 2
          (onRx k.val (fun r => { r with
            st := .nonPcm, bits16 := b, since := s.time.now, clean := false, pcType := pc.val }) s)))
    ∧ ((rxOf s k.val).st = .nonPcm → (rxOf s k.val).clean = true →
      framesPassed s (rxOf s k.val).since ((rxOf s k.val).rate.getD 0) 4096 = true → exec (.spdifPcmReturn k) s =
        .next (raise (182 + k.val) 1 (onRx k.val (fun r => { r with st := .pcm, bits16 := false }) s)))
    ∧ (∀ b c, outEn s = true → s.tdm.outNext = some (b, c) → ∃ t, exec (.spdifOutBlockStart ()) s = .next t
        ∧ t.tdm = { s.tdm with
            outState := if (exitSample s 62).valid || (exitSample s 63).valid then 1
              else if s.tdm.outState = 0 then 2 else s.tdm.outState
            outBytes := b, outNext := none })
    ∧ (outEn s = true → s.tdm.outNext = none → exec (.spdifOutBlockStart ()) s = .next { s with
        tdm.outState := if (exitSample s 62).valid || (exitSample s 63).valid then 1
          else if s.tdm.outState = 0 then 2 else s.tdm.outState })
    ∧ (s.tdm.outState ≠ 0 → s.tdm.outValid = true → (exitSample s 62).valid = false → (exitSample s 63).valid = false →
        exec .spdifOutUnderrun s = .next (raise 186 0 { s with tdm.outState := 2, tdm.outValid := false }))
    ∧ ((s.tdm.outValid = false ∨ (exitSample s 62).valid = true ∨ (exitSample s 63).valid = true) →
        exec .spdifOutUnderrun s = .next s)

/-- With HALL_DSP running: GRAPH_RUN without an image answers NOT_READY, of the state in force OK without effect,
and otherwise PENDING until the next frame boundary with its pause cause set or cleared. GRAPH_IMAGE_WRITE at OFS 0
or at the end of what is staged stages its bytes; while the buffer is locked it answers BUSY. GRAPH_IMAGE_COMMIT of
a staged image that passes every check, of at most four banks that are off and with AT 0, answers PENDING and the
image waits for its boundary; one that fails a check answers BAD_PARAM with the reason. GRAPH_PARAM_WRITE of a block
that stays acceptable answers PENDING and joins the writes that wait, marked held where it says HOLD.
SCHED_TASK_CONTROL with OP 5 writes GROUP alone; while no delay entry is due, with OP 0 it cancels a task, with its
undispatched items where the task is not ready, and with E214 and the race counted where it is; with OP 3 it sets
flags. SCHED_DELAY_SET adds an entry in the lowest free slot of its list or removes one. -/
def Obligations.GraphAndTaskCommands : Prop :=
  ∀ (q : Req) (s : State), CanServeOwner q s → Awake s → dspRuns s = true →
    (q.len = 4 → q.u8 0 ≤ 1 → zeros q 1 3 = true →
      (s.gra.image = none → ∃ t, exec (.graphRun q) s = .next t ∧ MailFrame q t s ∧ Replied 0x0E01 q .notReady [] t)
      ∧ (s.gra.image.isSome = true → s.gra.pause.testBit 0 = (q.u8 0 == 0) →
          ∃ t, exec (.graphRun q) s = .next t ∧ MailFrame q t s ∧ Replied 0x0E01 q .ok [] t)
      ∧ (s.gra.image.isSome = true → s.gra.pause.testBit 0 = false → q.u8 0 = 0 → s.svc.sorrel = none →
          ∃ t, exec (.graphRun q) s = .next t ∧ t.gra.pause = s.gra.pause ||| 1
            ∧ t.gra.runs = s.gra.runs ++ [s.own.nextCid] ∧ t.gra.image = s.gra.image
            ∧ MailFrame q t { s with gra := t.gra } ∧ Stands 0x0E01 q t s ∧ Replied 0x0E01 q .pending [] t)
      ∧ (s.gra.image.isSome = true → s.gra.pause.testBit 0 = true → q.u8 0 = 1 →
          ∃ t, exec (.graphRun q) s = .next t ∧ t.gra.pause = s.gra.pause - 1
            ∧ t.gra.runs = s.gra.runs ++ [s.own.nextCid] ∧ t.gra.image = s.gra.image
            ∧ MailFrame q t { s with gra := t.gra } ∧ Stands 0x0E01 q t s ∧ Replied 0x0E01 q .pending [] t))
    ∧ (9 ≤ q.len → zeros q 4 4 = true →
      (s.own.mbxLock = true → ∃ t, exec (.graphImageWrite q) s = .next t ∧ MailFrame q t s ∧ Replied 0x0E80 q .busy [] t)
      ∧ (s.own.mbxLock = false → q.u32 0 = 0 → ∃ t, exec (.graphImageWrite q) s = .next t
          ∧ MailFrame q t { s with own.mbxStage := q.payload.drop 8 } ∧ Replied 0x0E80 q .ok [] t)
      ∧ (s.own.mbxLock = false → q.u32 0 ≠ 0 → q.u32 0 = s.own.mbxStage.length → q.u32 0 + (q.len - 8) ≤ 262144 →
          ∃ t, exec (.graphImageWrite q) s = .next t
          ∧ MailFrame q t { s with own.mbxStage := s.own.mbxStage ++ q.payload.drop 8 } ∧ Replied 0x0E80 q .ok [] t)
      ∧ (s.own.mbxLock = false → q.u32 0 ≠ 0 → q.u32 0 ≠ s.own.mbxStage.length →
          ∃ t, exec (.graphImageWrite q) s = .next t ∧ MailFrame q t s ∧ Replied 0x0E80 q .badParam [] t))
    ∧ (q.len = 16 → q.u8 0 ≤ 1 → zeros q 1 3 = true → q.u32 4 = 0 → q.u64 8 = 0 → s.gra.commit = none →
      (imageFail (commitBytes s (q.u8 0) 0) s = none → banksOff s (readImage (commitBytes s (q.u8 0) 0)) ≤ 4 →
        ∃ t c, exec (.graphImageCommit q) s = .next t ∧ t.gra.commit = some c ∧ c.step = .boundary
          ∧ c.image = readImage (commitBytes s (q.u8 0) 0) ∧ c.cid = some s.own.nextCid ∧ c.began = s.time.now
          ∧ MailFrame q t { s with gra := { s.gra with commit := t.gra.commit, banks := s.gra.banks ||| c.image.banks } }
          ∧ Stands 0x0E81 q t s ∧ Replied 0x0E81 q .pending c.resp t)
      ∧ (∀ r n, imageFail (commitBytes s (q.u8 0) 0) s = some (r, n) → ∃ t, exec (.graphImageCommit q) s = .next t
          ∧ t.gra = s.gra ∧ (4 ≤ r → Raised 216 t) ∧ (portOf t q.m).rspReady = true))
    ∧ (∀ im, 9 ≤ q.len → q.len ≤ 240 → q.u8 2 ≤ 1 → zeros q 3 1 = true → s.gra.image = some im →
      paramWriteOk s im (q.u16 0) (q.u32 4) (q.payload.drop 8) = true →
      (q.u8 2 = 1 → (s.gra.writes.filter (fun w => w.held)).length < 64 ∧
        ((s.gra.writes.filter (fun w => w.held)).map (fun w => w.data.length)).foldl (· + ·) 0 + (q.len - 8) ≤ 4096) →
      ∃ t, exec (.graphParamWrite q) s = .next t ∧ Stands 0x0E82 q t s ∧ Replied 0x0E82 q .pending [] t
        ∧ MailFrame q t { s with
            gra.writes := s.gra.writes ++ [⟨q.u16 0, q.u32 4, q.payload.drop 8, q.u8 2 == 1, some s.own.nextCid, some q.m⟩] })
    ∧ (∀ i < 960, q.len = 16 → q.u16 0 = i → (taskOf s i).st ≠ .free → q.u8 3 = 0 → q.u32 4 = 0 → zeros q 13 3 = true →
      (q.u8 2 = 5 → q.u32 8 = 0 → q.u8 12 < 64 → ∃ t, exec (.schedTaskControl q) s = .next t
        ∧ MailFrame q t { s with sch.tasks := s.sch.tasks.set! i { taskOf s i with group := q.u8 12 } }
        ∧ (portOf t q.m).rspReady = true)
      ∧ (q.u8 2 = 0 → q.u32 8 = 0 → q.u8 12 = 0 → noneDue s = true → taskReady s i = false →
          (taskOf s i).kind ≠ .flight →
          ∃ t, exec (.schedTaskControl q) s = .next t ∧ (taskOf t i).st = .cancelled
          ∧ (taskOf t i).flags = (taskOf s i).flags ∧ (taskOf t i).owed = 0
          ∧ t.sch.store = s.sch.store.filter (fun x => x.task != i)
          ∧ t.sch.spill = s.sch.spill.filter (fun x => x.task != i) ∧ t.sch.ops.length = s.sch.ops.length
          ∧ ((∀ o ∈ s.sch.ops, o.item.task ≠ i) → t.sch.ops = s.sch.ops)
          ∧ ∀ j < 960, j ≠ i → taskOf t j = taskOf s j)
      ∧ (q.u8 2 = 0 → q.u32 8 = 0 → q.u8 12 = 0 → noneDue s = true → taskReady s i = true →
          ∃ t, exec (.schedTaskControl q) s = .next t ∧ Raised 214 t ∧ (taskOf t i).st = .cancelled
          ∧ (taskOf t i).races = min 255 ((taskOf s i).races + 1) ∧ (taskOf t i).flags = (taskOf s i).flags
          ∧ (taskOf t i).mask = (taskOf s i).mask ∧ ∀ j < 960, j ≠ i → taskOf t j = taskOf s j)
      ∧ (q.u8 2 = 3 → q.u8 12 = 0 → noneDue s = true → (taskOf s i).st = .cancelled → ∃ t, exec (.schedTaskControl q) s = .next t
          ∧ taskOf t i = { taskOf s i with flags := (taskOf s i).flags ||| q.u32 8 }
          ∧ MailFrame q t { s with sch.tasks := t.sch.tasks }))
    ∧ (∀ l, q.len = 24 → q.u8 1 = l → 1 ≤ l → l ≤ 3 → q.u8 2 < 32 → zeros q 6 2 = true → zeros q 20 4 = true →
      (q.u8 0 = 1 → (listOf s l).any (fun e => e.slot == q.u8 3) = true → ∃ t, exec (.schedDelaySet q) s = .next t
        ∧ listOf t l = (listOf s l).filter (fun e => e.slot != q.u8 3) ∧ MailFrame q t { s with sch.delays := t.sch.delays }
        ∧ (∀ j < 4, j ≠ l → listOf t j = listOf s j)
        ∧ Replied 0x0F82 q .ok ((leBytes 1 (q.u8 3)) ++ List.replicate 11 0) t)
      ∧ (∀ k, q.u8 0 = 0 → q.u8 3 = 0 → q.u16 4 < 960 → (taskOf s (q.u16 4)).st ≠ .free →
          (q.u32 16 = 0 ∨ max 1 (listTick s l) ≤ q.u32 16) → (listTick s l ≠ 0 ∨ q.u64 8 < 2 ^ 32) →
          freeSlot (listOf s l) = some k → ∃ t e, exec (.schedDelaySet q) s = .next t ∧ e ∈ listOf t l ∧ e.slot = k
          ∧ e.task = q.u16 4 ∧ e.bit = q.u8 2 ∧ e.period = q.u32 16 ∧ (listTick s l ≠ 0 → e.due = q.u64 8)
          ∧ (listOf t l).length = (listOf s l).length + 1 ∧ (∀ x ∈ listOf s l, x ∈ listOf t l)
          ∧ (∀ j < 4, j ≠ l → listOf t j = listOf s j) ∧ (portOf t q.m).rspReady = true))

/-- With the part running and HALL_DSP too: with device time not held, FRAME_BOUNDARY at a boundary that stands
takes it, gives the frame gathered from it its number and opens an evaluation point of the grants; within a change
of Fh at its step 1 it applies the new rate. GRAPH_LOADED at boundary B of an image that shares no bank puts it in
force, numbers frames from 0 and raises E215. GRAPH_SWITCH_FILL_DONE with nothing left of the old graph lets the new
one start at the next boundary. TASK_READY of a ready task with none ready before it, and no delay entry due, makes
its readiness. ITEM_DISPATCH gives a core with room its next item. OPERATION_RETIRE of an executing operation of a
flow in order retires it. DELAY_ENTRY_FIRE of the first due entry sets its bit and removes it when it is not
periodic. SPILL_REFILL brings a record back into the store. TASK_HELD_RELEASE with room lets the first held
readiness make its items, and its task is armed again with its last. CORE_LOAD_WINDOW keeps the loads counted over
the window, begins the next and raises E219 for each core above 95 %. -/
def Obligations.GraphAndTaskEvents : Prop :=
  ∀ s : State, Runs s → dspRuns s = true →
    (s.time.held = false → boundaryDue s = true → s.fab.fhChange = none →
      ∃ t, exec (.frameBoundary ()) s = .next t
      ∧ t.gra.lastBoundary = some (boundaryTu s) ∧ t.pwr.evalPoint = true)
    ∧ (∀ c, s.time.held = false → boundaryDue s = true → s.fab.fhChange = some c → c.step = 1 → c.target < 4 →
      ∃ t, exec (.frameBoundary ()) s = .next t ∧ t.fab.fhChange = some { c with step := 3 } ∧ fhCode t = c.target
        ∧ t.gra.frameNo = 0 ∧ t.pwr.evalPoint = true)
    ∧ (s.time.held = false → boundaryDue s = false → exec (.frameBoundary ()) s = .next s)
    ∧ (∀ c, switchDue s = true → s.gra.commit = some c → c.step = .boundary → banksShared s c.image = false →
      s.svc.sorrel = none → ∃ t, exec .graphLoaded s = .next t ∧ t.gra.image = some c.image ∧ t.gra.commit = none
        ∧ t.gra.gen = s.gra.gen + 1 ∧ t.gra.frameNo = 0 ∧ Raised 215 t)
    ∧ (∀ c, s.gra.commit = some c → c.step = .fill → s.sch.ops = [] → s.sch.store = [] → s.sch.spill = [] →
      exec .graphSwitchFillDone s = .next { s with
        gra.commit := some { c with step := .start, began := s.time.now } })
    ∧ (∀ k : Fin 960, taskReady s k.val = true → (∀ j < k.val, taskReady s j = false) →
      noneDue s = true →
      ∃ t, exec (.taskReady k) s = .next t ∧ (taskOf t k.val).made = (taskOf s k.val).made + 1
        ∧ t.sch.ops = s.sch.ops ∧ t.gra.image = s.gra.image)
    ∧ (∀ (core : Fin 8) i stolen, execOn s core.val < 2 → flightOn s core.val < 32 →
      nextItem s core.val = some (i, stolen) → ∃ t, exec (.itemDispatch core) s = .next t
        ∧ t = { s with sch := t.sch } ∧ t.sch.store.length + 1 = s.sch.store.length
        ∧ t.sch.ops = s.sch.ops ++
            [{ item := i, core := core.val, began := if execOn s core.val = 0 then some s.time.now else none }]
        ∧ t.sch.tasks = s.sch.tasks ∧ t.sch.spill = s.sch.spill)
    ∧ (∀ (op : Fin 256) o, s.sch.ops[op.val]? = some o → o.done = false → o.began.isSome = true →
      (∀ x ∈ s.sch.ops, x.item.task = o.item.task → x.done = false) → s.gra.oldImage = none → o.item.task < 960 →
      ((taskOf s o.item.task).kind ≠ .flight ∨ o.item.num = (taskOf s o.item.task).ret) →
      ∃ t, exec (.operationRetire op () false ()) s = .next t ∧ t.sch.ops.length + 1 = s.sch.ops.length
        ∧ (taskOf t o.item.task).ret = (taskOf s o.item.task).ret + 1
        ∧ (taskOf t o.item.task).runs = ((taskOf s o.item.task).runs + 1) % 65536 ∧ t.sch.store = s.sch.store)
    ∧ (∀ (l : Fin 4) (k : Fin 256) e, (listOf s l.val).find? (entryDue s l.val) = some e → e.slot = k.val →
      e.task < 960 → (taskOf s e.task).st ≠ .free → ∃ t, exec (.delayEntryFire l k) s = .next t
        ∧ (taskOf t e.task).flags = (taskOf s e.task).flags ||| 2 ^ e.bit
        ∧ (∀ j < 960, j ≠ e.task → taskOf t j = taskOf s j)
        ∧ (e.period = 0 → listOf t l.val = (listOf s l.val).filter (fun x => x.slot != e.slot))
        ∧ (e.period ≠ 0 → ∃ x ∈ listOf t l.val, x.slot = e.slot ∧ tickNow s l.val < x.due)
        ∧ ∀ j < 4, j ≠ l.val → listOf t j = listOf s j)
    ∧ (s.sch.spill ≠ [] → (∀ x ∈ s.sch.spill, x.prio ≤ 7) → s.sch.store.length < 512 →
      ∃ t, exec .spillRefill s = .next t ∧ t.sch.store.length = s.sch.store.length + 1
        ∧ t.sch.spill.length + 1 = s.sch.spill.length ∧ t.sch.ops = s.sch.ops)
    ∧ (∀ i rest, s.sch.heldOrder = i :: rest → i < 960 → roomFor s (taskOf s i).items (taskOf s i).prio = true →
      ∃ t, exec .taskHeldRelease s = .next t ∧ t.sch.heldOrder = rest ∧ (taskOf t i).owed = (taskOf s i).owed - 1
        ∧ ((taskOf s i).owed = 1 → (taskOf s i).st = .held → (taskOf t i).st = .armed) ∧ t.sch.store.length + t.sch.spill.length =
            s.sch.store.length + s.sch.spill.length + (taskOf s i).items)
    ∧ (s.sch.windowEnd ≤ s.time.now → ∃ t, exec (.coreLoadWindow () () () () () () () ()) s = .next t
        ∧ t.sch.load = Vector.ofFn (fun k : Fin 8 => loadOf s k.val)
        ∧ t.sch.busy = Vector.replicate 8 0 ∧ t.sch.cycles = 0
        ∧ t.sch.windowEnd = s.time.start + (devTime s / 24576000 + 1) * 24576000
        ∧ ((∃ k < 8, loadAbove s 950 k = true) → Raised 219 t))

/-- For one port that DRV_ENABLE does not refuse: EN 1 of a stopped port with its group ON and no quiet-stop cause
answers PENDING, sets EN, and the port is in SOFT_START stage 0x11; with its group OFF and room in the grant queue
the port waits in 0x11 while the group asks for its grant, and EN is as it was until then; while a cause holds the
port stays STOPPED and starts when it ends; EN 1 of a running port answers OK; with no characterisation in progress,
EN 0 of a running port answers PENDING and it is in SOFT_STOP stage 1, and EN 0 of a stopped port that does not wait
to start answers OK. For one group that DRV_GROUP_ENABLE does not refuse: EN 1 of an OFF group with room in the
queue answers PENDING and it asks for its grant, EN following with the grant; EN 0 of an ON group whose ports all
rest and await no retry answers PENDING and it stops for 1 ms, and a group already there answers OK.
DRV_CHARACTERISE of one stopped port with no characterisation in progress answers PENDING and the characterisation
asks for its grant. Of the ports and groups not named none changes, but that a characterisation lets a group that
nobody needs go. -/
def Obligations.DriveCommands : Prop :=
  ∀ (q : Req) (s : State), CanServeOwner q s → Runs s → s.pwr.queue.length < 24 →
    (∀ n < 24, q.len = 8 → q.u32 0 = 2 ^ n → q.u8 4 = 1 → zeros q 5 3 = true → drvRefusal (2 ^ n) true s = none →
      ((drvOf s n).st = .stopped → (grpOf s (n / 4)).st = .on → quietCause s = false →
        ∃ t, exec (.drvEnable q) s = .next t ∧ (drvOf t n).st = .softStart ∧ (drvOf t n).stage = 0x11
          ∧ (drvOf t n).waiting = false ∧ (drvOf t n).due = some (s.time.now + usTu 200) ∧ drvPageEn t n = true
          ∧ (drvOf t n).wanted = true ∧ (drvOf t n).inForce = loadEntry s n ∧ Raised (4 * n + 3) t
          ∧ (∃ j ∈ t.drv.jobs, j.cid = s.own.nextCid ∧ j.mask = 2 ^ n ∧ j.on = true)
          ∧ (∀ k < 24, k ≠ n → drvOf t k = drvOf s k) ∧ (portOf t q.m).rspReady = true
          ∧ (∀ g < 6, grpOf t g = if g = n / 4 then { grpOf s g with autoStopped := false } else grpOf s g))
      ∧ ((drvOf s n).st = .stopped → quietCause s = true →
        ∃ t, exec (.drvEnable q) s = .next t ∧ (drvOf t n).st = .stopped ∧ (drvOf t n).again = true
          ∧ (drvOf t n).wanted = true ∧ drvPageEn t n = drvPageEn s n
          ∧ (∃ j ∈ t.drv.jobs, j.cid = s.own.nextCid ∧ j.mask = 2 ^ n ∧ j.on = true)
          ∧ (∀ k < 24, k ≠ n → drvOf t k = drvOf s k) ∧ t.drv.groups = s.drv.groups ∧ (portOf t q.m).rspReady = true)
      ∧ ((drvOf s n).st = .stopped → (grpOf s (n / 4)).st = .off → quietCause s = false →
        ∃ t, exec (.drvEnable q) s = .next t ∧ (drvOf t n).st = .softStart ∧ (drvOf t n).stage = 0x11
          ∧ (drvOf t n).waiting = true ∧ (grpOf t (n / 4)).st = .starting ∧ (grpOf t (n / 4)).asked = true
          ∧ drvPageEn t n = drvPageEn s n ∧ (drvOf t n).enWait = true
          ∧ (∀ k < 24, k ≠ n → drvOf t k = drvOf s k) ∧ ∀ g < 6, g ≠ n / 4 → grpOf t g = grpOf s g)
      ∧ ((drvOf s n).st = .running → ∃ t, exec (.drvEnable q) s = .next t ∧ (drvOf t n).st = .running
          ∧ drvPageEn t n = true ∧ MailFrame q t { s with drv.ports := t.drv.ports } ∧ Replied 0x1001 q .ok [] t))
    ∧ (∀ n < 24, q.len = 8 → q.u32 0 = 2 ^ n → q.u8 4 = 0 → zeros q 5 3 = true → drvRefusal (2 ^ n) false s = none →
      ((drvOf s n).st = .running → s.drv.char = none →
        ∃ t, exec (.drvEnable q) s = .next t ∧ (drvOf t n).st = .softStop ∧ (drvOf t n).stage = 1
          ∧ (drvOf t n).due = some (s.time.now + 24576 * drvRampMs s n) ∧ drvPageEn t n = false
          ∧ (drvOf t n).wanted = false ∧ (∀ k < 24, k ≠ n → drvOf t k = drvOf s k) ∧ t.drv.groups = s.drv.groups)
      ∧ ((drvOf s n).st = .stopped → (drvOf s n).again = false → s.drv.char = none →
        ∃ t, exec (.drvEnable q) s = .next t ∧ (drvOf t n).st = .stopped
          ∧ drvPageEn t n = false ∧ MailFrame q t { s with drv.ports := t.drv.ports } ∧ Replied 0x1001 q .ok [] t))
    ∧ (∀ g < 6, q.len = 4 → q.u8 0 = 2 ^ g → q.u8 1 = 1 → zeros q 2 2 = true → grpRefusal (2 ^ g) true s = none →
      ((grpOf s g).st = .off → ∃ t, exec (.drvGroupEnable q) s = .next t ∧ (grpOf t g).st = .starting
          ∧ (grpOf t g).asked = true ∧ (grpOf t g).enWait = true ∧ grpOwn t g = grpOwn s g
          ∧ (∀ k < 6, k ≠ g → grpOf t k = grpOf s k) ∧ t.drv.ports = s.drv.ports)
      ∧ ((grpOf s g).st = .on → ∃ t, exec (.drvGroupEnable q) s = .next t ∧ (grpOf t g).st = .on ∧ grpOwn t g = true
          ∧ MailFrame q t { s with drv.groups := t.drv.groups } ∧ Replied 0x1002 q .ok [] t))
    ∧ (∀ g < 6, q.len = 4 → q.u8 0 = 2 ^ g → q.u8 1 = 0 → zeros q 2 2 = true → grpRefusal (2 ^ g) false s = none →
      (grpOf s g).st = .on → s.drv.char = none → (grpOf s g).autoAsk = false →
      (∀ n ∈ grpPorts g, (drvOf s n).again = false ∧ retryWaits s n = false) →
      ∃ t, exec (.drvGroupEnable q) s = .next t ∧ (grpOf t g).st = .stopping
        ∧ (grpOf t g).due = some (s.time.now + 24576) ∧ grpOwn t g = false ∧ t.drv.ports = s.drv.ports
        ∧ ∀ k < 6, k ≠ g → grpOf t k = grpOf s k)
    ∧ (∀ n < 24, q.len = 8 → q.u32 0 = 2 ^ n → zeros q 4 4 = true → drvLocked s = true → (drvOf s n).st = .stopped →
      s.drv.char = none → s.pwr.shut = false → ∃ t c, exec (.drvCharacterise q) s = .next t ∧ t.drv.char = some c
        ∧ c.left = [n] ∧ c.step = 1 ∧ c.mask = 2 ^ n ∧ c.cid = some s.own.nextCid ∧ c.tripped = false
        ∧ t.drv.ports = s.drv.ports ∧ (∀ g < 6, g = n / 4 ∨ (grpOf s g).st = .off → grpOf t g = grpOf s g)
        ∧ (portOf t q.m).rspReady = true)

/-- With the part running and no characterisation in progress: at the end of a start-up stage of a port
DRV_STAGE_END begins the next one, and RUNNING after 0x14 with the state event; at the end of a shut-down stage the
next one, and STOPPED after 4. PSG_STAGE_END at the end of EN_SETTLE brings the group ON, or with PSGg_FLT active
into its stop toward FAULT; at the end of stage 3 to OFF, or FAULT where a fault asked for it. PSG_FLT_ASSERT of a
group that is ON stops it toward FAULT. QUIET_STOP_END at its end, while device time runs, leaves a port that is not
to start again STOPPED and another waiting while a cause holds. CURRENT_LIMIT_TRIP ends the drive in its direction
for the carrier period, from the end of the blanking it falls into, and the first in a row counts with event 4n;
where the blanking reaches the next carrier period the crossing is kept for it; DRV_STAGE_FAULT that a watching port
can have seen puts it in SAFE_STOP with event 4n + 1 and the supervisor counts it. CHARACTERISE_PORT_DONE of the
last port with good figures and no limit edge keeps its entry and ends the characterisation. At a carrier boundary
CLIPS has risen by one where the clamp acted in the period that ends, and no limit edge lasts. Where the legs then
pulse, the pulses of PWMA and PWMB lie within the period; where MIN_PULSE and DEAD together are at most a quarter of
it, PWMA, and PWMB in the BD mode, is high for one interval no shorter than they are and low for no less; in the
complementary and the half-bridge mode the two legs are never high together, in the half-bridge mode not within the
dead time of each other; no other port changes. Idle legs are low. A limit edge leaves the leg that drives low for
the rest of the period, is noted, and lets two legs that were never high together not become so. -/
def Obligations.DriveEvents : Prop :=
  (∀ s : State, Runs s →
    (∀ (n : Fin 24) d, s.drv.char = none → (drvOf s n.val).due = some d → d ≤ s.time.now →
      ((drvOf s n.val).st = .softStart → ∃ t, exec (.drvStageEnd n) s = .next t
        ∧ ((drvOf s n.val).stage = 0x11 → (drvOf t n.val).st = .softStart ∧ (drvOf t n.val).stage = 0x12)
        ∧ ((drvOf s n.val).stage = 0x12 → (drvOf t n.val).st = .softStart ∧ (drvOf t n.val).stage = 0x13)
        ∧ ((drvOf s n.val).stage = 0x13 → (drvOf t n.val).st = .softStart ∧ (drvOf t n.val).stage = 0x14)
        ∧ ((drvOf s n.val).stage = 0x14 → (drvOf t n.val).st = .running ∧ Raised (4 * n.val + 3) t)
        ∧ ∀ k < 24, k ≠ n.val → drvOf t k = drvOf s k)
      ∧ ((drvOf s n.val).st = .softStop → ∃ t, exec (.drvStageEnd n) s = .next t
        ∧ ((drvOf s n.val).stage = 1 → (drvOf t n.val).st = .softStop ∧ (drvOf t n.val).stage = 2)
        ∧ ((drvOf s n.val).stage = 2 → (drvOf t n.val).st = .softStop ∧ (drvOf t n.val).stage = 3)
        ∧ ((drvOf s n.val).stage = 3 → (drvOf t n.val).st = .softStop ∧ (drvOf t n.val).stage = 4)
        ∧ ((drvOf s n.val).stage = 4 → (drvOf t n.val).st = .stopped ∧ (drvOf t n.val).due = none
            ∧ Raised (4 * n.val + 3) t)
        ∧ ∀ k < 24, k ≠ n.val → drvOf t k = drvOf s k))
    ∧ (∀ (g : Fin 6) (flt : Bool) d, s.drv.char = none → (grpOf s g.val).due = some d → d ≤ s.time.now →
      ((grpOf s g.val).st = .starting → (grpOf s g.val).thenDown = false → flt = false →
        ∃ t, exec (.psgStageEnd g flt) s = .next t ∧ (grpOf t g.val).st = .on ∧ (grpOf t g.val).due = none
          ∧ ∀ k < 6, k ≠ g.val → grpOf t k = grpOf s k)
      ∧ ((grpOf s g.val).st = .starting → flt = true → ∃ t, exec (.psgStageEnd g flt) s = .next t
          ∧ (grpOf t g.val).st = .stopping ∧ (grpOf t g.val).toFault = true
          ∧ ∀ n ∈ grpPorts g.val, (drvOf s n).st ≠ .retired → Raised (4 * n + 1) t)
      ∧ ((grpOf s g.val).st = .stopping → ∃ t, exec (.psgStageEnd g flt) s = .next t ∧ (grpOf t g.val).due = none
          ∧ (grpOf t g.val).st = (if (grpOf s g.val).toFault && !(grpPorts g.val).all (drvRetired s) then .fault else .off)
          ∧ ∀ k < 6, k ≠ g.val → grpOf t k = grpOf s k))
    ∧ (∀ g : Fin 6, s.drv.char = none → (grpOf s g.val).st = .on → ∃ t, exec (.psgFltAssert g) s = .next t
        ∧ (grpOf t g.val).st = .stopping ∧ (grpOf t g.val).toFault = true
        ∧ ∀ n ∈ grpPorts g.val, (drvOf s n).st ≠ .retired → Raised (4 * n + 1) t)
    ∧ (∀ (n : Fin 24) d, s.time.held = false → (drvOf s n.val).st = .quietStop → (drvOf s n.val).due = some d → d ≤ s.time.now →
      ((drvOf s n.val).again = false → ∃ t, exec (.quietStopEnd n) s = .next t ∧ (drvOf t n.val).st = .stopped
        ∧ ∀ k < 24, k ≠ n.val → drvOf t k = drvOf s k)
      ∧ ((drvOf s n.val).again = true → quietCause s = true → ∃ t, exec (.quietStopEnd n) s = .next t
        ∧ (drvOf t n.val).st = .quietStop ∧ (drvOf t n.val).due = none ∧ (drvOf t n.val).again = true))
    ∧ (∀ (n : Fin 24) (positive : Bool) k, drvLive s n.val = true → k = blankEnd s n.val (carrierPos s n.val) →
      (edgeUnits s n.val ≤ k → exec (.currentLimitTrip n positive) s =
        .next (onDrv n.val (fun p => { p with pwm := { p.pwm with crossed := some positive } }) s))
      ∧ (k < edgeUnits s n.val → charPort s ≠ some n.val → (drvOf s n.val).limitRun = 0 →
        exec (.currentLimitTrip n positive) s = .next (raise (4 * n.val) 1 (onDrv n.val (fun p => { p with
          trips := min 65535 (p.trips + 1), limitRun := 1, lastLimit := carrierAt s n.val (driveClock s) })
            (limitAt n.val positive k s))))
      ∧ (k < edgeUnits s n.val → charPort s ≠ some n.val → 0 < (drvOf s n.val).limitRun →
        (drvOf s n.val).lastLimit = carrierAt s n.val (driveClock s) →
        exec (.currentLimitTrip n positive) s = .next (limitAt n.val positive k s)))
    ∧ (∀ (n : Fin 24) (cause : Fin 3), s.drv.char = none → drvWatches s n.val = true → faultSeen s n.val cause = true →
      (faultOf s 0 n.val).st = .normal →
      (faultOf s 0 n.val).windowEnd = none → ∃ t, exec (.drvStageFault n cause) s = .next t
        ∧ (drvOf t n.val).st = .safeStop ∧ Raised (4 * n.val + 1) t ∧ Raised (4 * n.val + 3) t
        ∧ (faultOf t 0 n.val).st = .backoff ∧ (faultOf t 0 n.val).count = 1
        ∧ (faultOf t 0 n.val).cause = cause.val + 2 ∧ (faultOf t 0 n.val).backoffEnd = some (s.time.now + 2 * 24576)
        ∧ ∀ k < 24, k ≠ n.val → drvOf t k = drvOf s k)
    ∧ (∀ (n : Fin 24) (l c rl le dcr : Nat) ch, s.drv.char = some ch → ch.left = [n.val] → ch.step = 6 →
      ch.tripped = false → charCode l c rl false = 0 → ∃ t e, exec (.characterisePortDone n l c rl le dcr ()) s = .next t
        ∧ t.drv.char = none ∧ (drvOf t n.val).measured = some e ∧ e.length = 32 ∧ leAt e 0 4 = l % 2 ^ 32
        ∧ leAt e 4 4 = c % 2 ^ 32 ∧ leAt e 8 4 = rl % 2 ^ 32 ∧ ∀ k < 24, k ≠ n.val → drvOf t k = drvOf s k))
  ∧ ((∀ (s : State) (n : Nat) (w : Pwm), n < 24 → w = (drvOf (pwmStep n s) n).pwm →
    w.tripped = false
    ∧ (drvOf (pwmStep n s) n).clips = (if (drvOf s n).pwm.clip then min 65535 ((drvOf s n).clips + 1) else (drvOf s n).clips)
    ∧ (legsOf s n ≠ .idle → (drvOf (pwmStep n s) n).clamped = (drvOf s n).pwm.clip)
    ∧ (legsOf s n = .pulses →
      ((drvOf s n).st ≠ .quietStop → w.clip = w.past)
      ∧ (∀ d, d = modUnits s n (drvMinPulse s n + drvDead s n) → 0 < d → 4 * d ≤ edgeUnits s n →
          (∃ x, w.a = [x] ∧ d ≤ x.2 - x.1 ∧ x.2 - x.1 + d ≤ edgeUnits s n)
          ∧ (drvBridge s n = 0 → ∃ x, w.b = [x] ∧ d ≤ x.2 - x.1 ∧ x.2 - x.1 + d ≤ edgeUnits s n))
      ∧ (∀ x ∈ w.a ++ w.b, x.1 < x.2 ∧ x.2 ≤ edgeUnits s n)
      ∧ (1 ≤ drvBridge s n → ∀ x ∈ w.a, ∀ y ∈ w.b, x.2 ≤ y.1 ∨ y.2 ≤ x.1)
      ∧ (2 ≤ drvBridge s n → ∀ x ∈ w.a, ∀ y ∈ w.b, x.2 + modUnits s n (drvDead s n) ≤ y.1
          ∨ y.2 + modUnits s n (drvDead s n) ≤ x.1))
    ∧ (legsOf s n = .idle → w.a = [] ∧ w.b = [])
    ∧ (∀ k < 24, k ≠ n → drvOf (pwmStep n s) k = drvOf s k))
  ∧ (∀ (bridge u dead k : Nat) (positive : Bool) (w v : Pwm), v = limitEdge bridge u dead k positive w →
      v.tripped = true
      ∧ (positive = true → ∀ x ∈ v.a, x.2 ≤ k) ∧ (positive = false → ∀ x ∈ v.b, x.2 ≤ k)
      ∧ (bridge = 0 → (positive = true → v.b = w.b) ∧ (positive = false → v.a = w.a))
      ∧ ((∀ x ∈ w.a, ∀ y ∈ w.b, x.2 ≤ y.1 ∨ y.2 ≤ x.1) → ∀ x ∈ v.a, ∀ y ∈ v.b, x.2 ≤ y.1 ∨ y.2 ≤ x.1)))

/-- With the part running: FAULT_BACKOFF_END at the end of a backoff of a TDM port or a converter channel lets it
back to normal with one more retry, and of a drive port whose host wants it stopped too; FAULT_WINDOW_END at the end
of a window clears the count; RETRY_REASK at its time asks again for the grant of the port's group; REMAP_MIXER_MOVE
a boundary after the mixer was fed gives the sink the mixer as its source; PROT_LIMIT_HOLD_END and
TANSY_LIMIT_HOLD_END end a limit with its event; MISMATCH_WINDOW_END, 24,576,000 tu after the one before, shows
whether the mean squares of the model's current and of the load current lie more than 6 dB apart;
SUPPLY_CLAMP_RELEASE begins the rise and ends the clamp. PROT_RESTORE of channels in normal states answers OK and
changes nothing, and of a converter channel it clears its state; PROT_TEMP_SET of a port with a model in a running
graph answers PENDING, otherwise NOT_READY. -/
def Obligations.ProtectionRows : Prop :=
  ∀ s : State, Runs s →
    (∀ (cls : Fin 5) (i : Fin 24) d, i.val < classSize cls.val → (faultOf s cls.val i.val).st = .backoff →
      (faultOf s cls.val i.val).backoffEnd = some d → d ≤ s.time.now → (3 ≤ cls.val ∨ (cls.val = 0 ∧
        (drvOf s i.val).wanted = false)) → ∃ t, exec (.faultBackoffEnd cls i) s = .next t
        ∧ (faultOf t cls.val i.val).st = .normal ∧ (faultOf t cls.val i.val).backoffEnd = none
        ∧ (faultOf t cls.val i.val).retries = min 65535 ((faultOf s cls.val i.val).retries + 1)
        ∧ (faultOf t cls.val i.val).count = (faultOf s cls.val i.val).count
        ∧ (cls.val = 0 → (drvOf t i.val).st = .stopped) ∧ (cls.val = 3 → (tdmOf t i.val).backoff = false))
    ∧ (∀ (cls : Fin 5) (i : Fin 24) d, i.val < classSize cls.val → (faultOf s cls.val i.val).windowEnd = some d →
      d ≤ s.time.now → exec (.faultWindowEnd cls i) s =
        .next (onFault cls.val i.val (fun c => { c with windowEnd := none, count := 0 }) s))
    ∧ (∀ (i : Fin 24) d, (faultOf s 0 i.val).st = .retryWait → (faultOf s 0 i.val).reask = some d → d ≤ s.time.now →
      (grpOf s (i.val / 4)).st = .off → s.pwr.queue.length < 24 → ∃ t, exec (.retryReask 0 i) s = .next t
        ∧ (faultOf t 0 i.val).reask = none ∧ (faultOf t 0 i.val).st = .retryWait
        ∧ (grpOf t (i.val / 4)).st = .starting ∧ (grpOf t (i.val / 4)).asked = true)
    ∧ (∀ (m : Fin 64) v b, s.prot.moves.find? (fun v => v.mixer == m.val) = some v → v.fedAt = some b → v.sink < 128 →
      boundarySince b s = true → (targetOf s v.sink).fade = none → ∃ t, exec (.remapMixerMove m) s = .next t
        ∧ (targetOf t v.sink).src = some (192 + m.val) ∧ (targetOf t v.sink).wait = none ∧ gainStored t v.sink = 0
        ∧ Raised 200 t ∧ t.prot.moves = s.prot.moves.filter (fun x => x.mixer != m.val))
    ∧ (∀ (n : Fin 24) b, (protOf s n.val).holdFrom = some b → (protOf s n.val).limiting = true →
      b + holdTu s ≤ s.time.now → exec (.protLimitHoldEnd n) s = .next (raise (4 * n.val + 2) 0
        (onProt n.val (fun p => { p with limiting := false, toldCause := 0, holdFrom := none }) s)))
    ∧ (∀ x b, limitSupply s = some x → x.holdFrom = some b → x.told.isSome = true → b + holdTu s ≤ s.time.now →
      exec .tansyLimitHoldEnd s = .next (raise 231 0
        (onSupply x.id (fun y => { y with told := none, holdFrom := none }) s)))
    ∧ (∀ (n : Fin 24) e (a b : Rat), modelEntry s n.val = some e → e.excursion = true → graphRuns s = true →
      (protOf s n.val).modelled = true → (protOf s n.val).rmsFrom + 24576000 ≤ s.time.now →
      a = (protOf s n.val).rmsModel / (max 1 (protOf s n.val).rmsModelN : Nat) →
      b = (protOf s n.val).rmsSense / (max 1 (protOf s n.val).rmsSenseN : Nat) →
      exec (.mismatchWindowEnd n ()) s = .next (onProt n.val (fun p => { p with
        mismatch := decide (1000 * b ^ 5 < a ^ 5 ∨ 1000 * a ^ 5 < b ^ 5), rmsFrom := s.time.now, rmsModel := 0, rmsModelN := 0
        rmsSense := 0, rmsSenseN := 0 }) s))
    ∧ (∀ x b, limitSupply s = some x → x.clamp = true → x.riseFrom = none → x.clearFrom = some b →
      b + 245760 ≤ s.time.now → exec .supplyClampRelease s =
        .next (onSupply x.id (fun y => { y with riseFrom := some s.time.now }) s))
    ∧ (∀ x b, limitSupply s = some x → x.clamp = true → x.riseFrom = some b → b + 245760 ≤ s.time.now →
      exec .supplyClampRelease s =
        .next (onSupply x.id (fun y => { y with clamp := false, riseFrom := none, clearFrom := none }) s))
    ∧ (∀ q : Req, CanServeOwner q s → q.len = 8 →
      (q.u8 0 < 5 → q.u32 4 < 2 ^ classSize (q.u8 0) → zeros q 1 3 = true →
        (∀ i < 24, (q.u32 4).testBit i = true → (faultOf s (q.u8 0) i).st = .normal) →
        ∃ t, exec (.protRestore q) s = .next t ∧ MailFrame q t s ∧ Replied 0x1103 q .ok [] t)
      ∧ (∀ i < 24, q.u8 0 = 4 → q.u32 4 = 2 ^ i → zeros q 1 3 = true → (faultOf s 4 i).st ≠ .normal →
        ∃ t, exec (.protRestore q) s = .next t ∧ Replied 0x1103 q .ok [] t ∧ (faultOf t 4 i).st = .normal
          ∧ (faultOf t 4 i).count = 0 ∧ (faultOf t 4 i).windowEnd = none
          ∧ MailFrame q t { s with prot.hkCh := t.prot.hkCh } ∧ ∀ j < 24, j ≠ i → faultOf t 4 j = faultOf s 4 j)
      ∧ (∀ n < 24, q.u8 0 = n → withinI 0 2000 (q.i16 2) = true → withinI 0 2000 (q.i16 4) = true → zeros q 1 1 = true →
        zeros q 6 2 = true →
        (((modelEntry s n).isNone = true ∨ graphRuns s = false) →
          ∃ t, exec (.protTempSet q) s = .next t ∧ MailFrame q t s ∧ Replied 0x1180 q .notReady [] t)
        ∧ ((modelEntry s n).isSome = true → graphRuns s = true → (protOf s n).set = none →
          ∃ t, exec (.protTempSet q) s = .next t ∧ Stands 0x1180 q t s ∧ Replied 0x1180 q .pending [] t
            ∧ (protOf t n).set = some ((q.i16 2 : Rat) / 10, (q.i16 4 : Rat) / 10, s.own.nextCid)
            ∧ MailFrame q t { s with prot.ports := t.prot.ports }
            ∧ ∀ j < 24, j ≠ n → protOf t j = protOf s j)))

/-- With the part running: RING_PP_ACCESS with a link up answers PENDING, notes the access for 10 ms under the next
SEQ and puts its message at the end of those to send, and without a link answers NOT_READY; RING_BULK_SEND likewise
starts a transfer and locks the staging buffer, BUSY while one runs; RING_LINK_TRAIN of a link that is up answers
OK, of a retired port RETIRED, of one without signal NOT_READY, and otherwise asks for a training grant, PENDING.
RING_SIGNAL_POLL without signal looks again in 100 ms and with signal asks for training; RING_SIGNAL_PRESENT on a
link that has been up does so at once. RING_LINK_UP of a training ends it with the link up, its neighbour noted and
E160; RING_TRAIN_FAIL ends it without a link. RING_LINK_DOWN loses the link, planned without event, otherwise with
E161 and, under FAULT_EN, a fault of the supervisor; RING_UNFOLDED at its period ends the fold with E163. -/
def Obligations.RingLinks : Prop :=
  ∀ s : State, Runs s →
    (∀ q : Req, CanServeOwner q s →
      (1 ≤ q.u16 0 → q.u16 0 ≤ 4094 → q.u8 2 ≤ 1 → q.u8 3 % 4 = 0 → q.u8 3 < 0x80 → 1 ≤ q.u8 4 → q.u8 4 ≤ 16 →
        zeros q 5 3 = true → q.len = 8 + 4 * (q.u8 2 * q.u8 4) →
        (ringLinkUp s = false → ∃ t, exec (.ringPpAccess q) s = .next t ∧ MailFrame q t s ∧ Replied 0x1202 q .notReady [] t)
        ∧ (ringLinkUp s = true → ∃ t, exec (.ringPpAccess q) s = .next t ∧ Stands 0x1202 q t s
            ∧ Replied 0x1202 q .pending [] t ∧ MailFrame q t { s with
              ring.access := s.ring.access ++ [⟨q.u16 0, s.ring.seq, q.u8 2, q.u8 4, s.time.now + 245760, some s.own.nextCid⟩]
              ring.out := s.ring.out ++ [⟨q.u16 0, 2 - q.u8 2, s.ring.seq,
                leBytes 1 (q.u8 3) ++ leBytes 1 (q.u8 4) ++ [0, 0] ++ q.payload.drop 8⟩]
              ring.seq := (s.ring.seq + 1) % 256 }))
      ∧ (q.len = 8 → 1 ≤ q.u16 0 → q.u16 0 ≤ 4094 → q.u8 2 ≤ 1 → zeros q 3 1 = true → 1 ≤ q.u32 4 → q.u32 4 ≤ 262144 →
        (s.ring.send.isSome = true → ∃ t, exec (.ringBulkSend q) s = .next t ∧ MailFrame q t s ∧ Replied 0x1203 q .busy [] t)
        ∧ (s.ring.send = none → ringLinkUp s = false → ∃ t, exec (.ringBulkSend q) s = .next t ∧ MailFrame q t s
            ∧ Replied 0x1203 q .notReady [] t)
        ∧ (s.ring.send = none → ringLinkUp s = true → ∃ t m, exec (.ringBulkSend q) s = .next t ∧ Stands 0x1203 q t s
            ∧ t.ring.send = some ⟨q.u16 0, q.u8 2, q.u32 4, false, 0, 0, s.time.now + 2457600, some s.own.nextCid⟩
            ∧ t.own.mbxLock = true ∧ t.ring.out = s.ring.out ++ [m] ∧ m.type = 9 ∧ m.dest = q.u16 0
            ∧ m.payload.take 8 = leBytes 1 (q.u8 2) ++ [0, 0, 0] ++ leBytes 4 (q.u32 4) ∧ t.own.mbxStage = s.own.mbxStage))
      ∧ (∀ p : Fin 2, q.len = 4 → q.u8 0 = p.val → zeros q 1 3 = true →
        ((galOf s p).st = .up → ∃ t, exec (.ringLinkTrain q) s = .next t ∧ MailFrame q t s ∧ Replied 0x1204 q .ok [] t)
        ∧ ((galOf s p).st = .retired → ∃ t, exec (.ringLinkTrain q) s = .next t ∧ MailFrame q t s
            ∧ Replied 0x1204 q .retired [] t)
        ∧ ((galOf s p).st = .noSignal → galEn s p = true → (galOf s p).signal = true → (galOf s p).asked = false →
            (galOf s p).trainDue = none → s.pwr.queue.length < 24 → ∃ t, exec (.ringLinkTrain q) s = .next t
            ∧ Stands 0x1204 q t s ∧ (galOf t p).asked = true ∧ (galOf t p).cids = (galOf s p).cids ++ [s.own.nextCid]
            ∧ galOf t (1 - p.val) = galOf s (1 - p.val))))
    ∧ (∀ p : Fin 2, galEn s p = true → (galOf s p).been = false → (galOf s p).pollAt ≤ s.time.now →
      exec (.ringSignalPoll p false) s = .next (onGal p (fun k => { k with
        signal := false, pollAt := s.time.now + 2457600 }) s))
    ∧ (∀ p : Fin 2, galEn s p = true → (galOf s p).asked = false → (galOf s p).trainDue = none →
      (galOf s p).backoff = false → (galOf s p).dozed = false → (galOf s p).st = .noSignal → asynRuns s = true →
      s.boot.ready = true → s.pwr.queue.length < 24 →
      ((galOf s p).been = false → (galOf s p).pollAt ≤ s.time.now → ∃ t, exec (.ringSignalPoll p true) s = .next t
        ∧ (galOf t p).asked = true ∧ (galOf t p).signal = true ∧ (galOf t p).pollAt = s.time.now + 2457600)
      ∧ ((galOf s p).been = true → ∃ t, exec (.ringSignalPresent p) s = .next t ∧ (galOf t p).asked = true
        ∧ (galOf t p).signal = true))
    ∧ (∀ (p : Fin 2) (uid : BitVec 128) (peer : Fin 4095) (delay : Nat) (own : Fin 4095), (galOf s p).st = .training →
      ∃ t, exec (.ringLinkUp p uid peer delay own) s = .next t ∧ (galOf t p).st = .up ∧ (galOf t p).been = true
        ∧ (galOf t p).uid = some uid ∧ (galOf t p).addr = peer.val ∧ (galOf t p).delay = delay ∧ (galOf t p).cids = []
        ∧ (galOf t p).trainDue = none ∧ Raised 160 t ∧ t.ring.headPrio = ringPagePrio s
        ∧ ((galOf s p).uid = none → (galOf t p).changed = false)
        ∧ (∀ u, (galOf s p).uid = some u → u ≠ uid → (galOf t p).changed = true ∧ Raised 164 t)
        ∧ (ringHead s = false → ringPagePrio s ≠ 15 → t.ring.addr = own.val ∧ t.ring.role ≠ .off ∧ t.ring.role ≠ .alone)
        ∧ (ringHead s = false → ringPagePrio s = 15 → t.ring.role = .head ∧ t.ring.addr = 1))
    ∧ (∀ p : Fin 2, (galOf s p).st = .training →
      (∃ t, exec (.ringTrainFail p true) s = .next t ∧ (galOf t p).st = .familyMismatch ∧ (galOf t p).trainDue = none)
      ∧ (∀ d, (galOf s p).trainDue = some d → d ≤ s.time.now → (galOf s p).been = false →
        ∃ t, exec (.ringTrainFail p false) s = .next t ∧ (galOf t p).st = .noSignal ∧ (galOf t p).signal = false
          ∧ (galOf t p).trainDue = none))
    ∧ (∀ p : Fin 2, ringRuns s = true → galUp s p = true →
      (planned s p = true → ∃ t, exec (.ringLinkDown p) s = .next t ∧ (galOf t p).st = .peerLeft
        ∧ galOf t (1 - p.val) = galOf s (1 - p.val) ∧ (galUp s (1 - p.val) = false → t.ring.role = .alone))
      ∧ (planned s p = false → ringFaultEn s = false → ∃ t, exec (.ringLinkDown p) s = .next t ∧ Raised 161 t
        ∧ (galOf t p).st = (if galUp s (1 - p.val) then .loopedBack else .noSignal)
        ∧ galOf t (1 - p.val) = galOf s (1 - p.val) ∧ (galUp s (1 - p.val) = true → t.ring.folded = true)))
    ∧ (∀ b, s.ring.unfoldAt = some b → periodReached s b = true → ∃ t, exec .ringUnfolded s = .next t ∧ t.ring.unfoldAt = none
        ∧ t.ring.folded = false ∧ t.ring.openChain = false ∧ Raised 163 t)

/-- While the part takes part in the ring and no port is about to be disabled: a received period that fails its
check counts and raises E170; one that passes, at a member, gives it the head's timing: PERIOD, the head's address,
one hop more, the link's delay added. RING_PERIOD_START lets the head count its PERIOD on from the latest base tick.
RING_DEADLINE_MISS of an input whose due sample has not arrived counts once per base tick, takes one step from its
gain, shows the last sample at that gain and raises E165. PRES_CHANGE_BOUNDARY at the announced period begins the
fades to the new delay and makes a waiting PRES_US live. HEAD_TIMING_LOST after eight periods without timing lets a
member stand for head with its arbitration message; HEAD_ARBITRATION_DONE of one not beaten makes it the successor
head. RING_CLOCK_LOST on code 16 raises E169 and lets ASYN coast. -/
def Obligations.RingPeriods : Prop :=
  ∀ s : State, Runs s →
    (∀ (p : Fin 2) (tm : RingTiming) (age : Nat) (free : Fin 9), ringRuns s = true → galUp s p = true →
      (∀ j : Fin 2, (galOf s j).dropAt = none) →
      (∃ t, exec (.ringPeriodReceived p false tm age free) s = .next t ∧ Raised 170 t
        ∧ t.ring.crcErrs = min 65535 (s.ring.crcErrs + 1) ∧ t.ring.period = s.ring.period ∧ t.ring.role = s.ring.role)
      ∧ (ringHead s = false → tm.period < 2 ^ 32 → ∃ t, exec (.ringPeriodReceived p true tm age free) s = .next t
        ∧ t.ring.period = tm.period ∧ t.ring.headAddr = tm.head ∧ t.ring.hops = tm.hops + 1
        ∧ t.ring.delayAcc = (tm.delayAcc + (galOf s p).delay) % 2 ^ 32 ∧ t.ring.role = .member
        ∧ t.ring.lastTiming = s.time.now ∧ t.ring.clockLost = false ∧ t.ring.crcErrs = s.ring.crcErrs))
    ∧ (∀ free : Fin 9, ringRuns s = true → ringHead s = true → asynRuns s = true →
      (∀ j : Fin 2, (galOf s j).dropAt = none) →
      ∃ t, exec (.ringPeriodStart () free) s = .next t ∧ t.ring.period = (s.ring.period + 1) % 2 ^ 32
        ∧ t.ring.sentAt = some (baseTickTu s) ∧ t.ring.role = s.ring.role)
    ∧ (∀ i : Fin 32, ringMissing s i.val = true → asynRuns s = true →
      ∃ t, exec (.ringDeadlineMiss i) s = .next t ∧ t.ring.misses = min 65535 (s.ring.misses + 1) ∧ Raised 165 t
        ∧ (concealOf t i.val).missed = (if (concealOf s i.val).missTick = some (dueTick s) then (concealOf s i.val).missed
            else min 65535 ((concealOf s i.val).missed + 1))
        ∧ (∃ g, (concealOf t i.val).gain = some g
            ∧ ((concealOf s i.val).gain = none → g = concealLen s i.val - 1)
            ∧ (∀ g0, (concealOf s i.val).gain = some g0 → g = min (concealLen s i.val) g0 - 1)
            ∧ (∀ v, (concealOf s i.val).last = some v → 0 < g →
                (concealOf t i.val).out = { v := concealAt g (concealLen s i.val) v, valid := true })
            ∧ (g = 0 → (concealOf t i.val).out = {}))
        ∧ ringMissing t i.val = false
        ∧ ∀ j < 32, j ≠ i.val → concealOf t j = concealOf s j)
    ∧ (∀ b tu, s.ring.presChange = some (b, tu) →
      (periodReached s b = true → ∃ t, exec .presChangeBoundary s = .next t ∧ t.ring.presFade = some (s.time.now, tu)
          ∧ t.ring.presChange = none
          ∧ (s.ring.late = none → t = { s with ring.presFade := some (s.time.now, tu), ring.presChange := none })
          ∧ ∀ l, s.ring.late = some l → ringPresUs t = l.v / 2 ^ 48 % 2 ^ 16)
      ∧ (periodReached s b = false → exec .presChangeBoundary s = .next s))
    ∧ (ringRuns s = true → ringHead s = false → 1 ≤ s.ring.headPrio → s.ring.headPrio ≤ 14 → s.ring.standing = none →
      s.ring.lastTiming + ringPeriods s 8 ≤ s.time.now → ∃ t m, exec .headTimingLost s = .next t
        ∧ t.ring.standing = some (s.time.now + ringPeriods s 16) ∧ t.ring.beaten = false
        ∧ t.ring.out = s.ring.out ++ [m] ∧ m.type = 7 ∧ m.dest = 4095 ∧ m.payload.length = 24)
    ∧ (∀ d, s.ring.standing = some d → d ≤ s.time.now →
      (ringHead s = false → s.ring.beaten = false → ∃ t, exec .headArbitrationDone s = .next t
        ∧ t.ring.role = .successor ∧ t.ring.standing = none ∧ t.ring.headAddr = s.ring.addr ∧ t.ring.hops = 0)
      ∧ (ringHead s = false → s.ring.beaten = true → exec .headArbitrationDone s = .next { s with
          ring.standing := none, ring.lastTiming := s.time.now })
      ∧ (ringHead s = true → s.ring.beaten = true → ∃ t, exec .headArbitrationDone s = .next t ∧ t.ring.role = .member
          ∧ t.ring.standing = none))
    ∧ (s.clk.ref = 16 → s.ring.clockLost = false → s.ring.role ≠ .off → s.clk.asyn = .locked →
      ∃ t, exec .ringClockLost s = .next t ∧ t.ring.clockLost = true ∧ t.clk.asyn = .coasting ∧ Raised 169 t ∧ Raised 149 t)

/-- With the port pages live and the ring running: a port-page write of 1 to 16 words from an address that M3_FROM
admits writes them one after the other to the M3 page, a word of PP_EVMASK to that word alone, one word as a write
of the M3 page would; a read of words is answered with one reply under its SEQ, in its place at the end of the
messages to send. A read reply ends the access that waits for its SEQ. An event record changes nothing here.
RING_BULK_START within BULK_ACCEPT opens a transfer with an empty buffer, and is refused with BUSY and E168 while
one runs; data at the expected offset extends the buffer, other data changes nothing; an acknowledgement of this
part's transfer accepts it, and a final one ends it with E168 and frees the buffer. An arbitration message of a
better standing beats this part; a departure of a neighbour is noted. An access without reply for 10 ms and a
transfer without acknowledgement for 100 ms end. -/
def Obligations.RingMessages : Prop :=
  ∀ (src : Fin 4095) (s : State), Runs s → portsLive s = true → ringRuns s = true →
    ((ringM3From s = 0 ∨ ringM3From s = src.val) →
      (∀ (a n : Byte) (w : List Byte), 1 ≤ n.toNat → n.toNat ≤ 16 → w.length = 4 * n.toNat →
        exec (.ringPpWriteMsg src ([a, n, 0, 0] ++ w)) s = .next (burstWrite (hostOffset a s).1 w n.toNat
          (if ringsBell (hostOffset a s).1 w n.toNat then { (hostOffset a s).2 with ring.ownerAddr := src.val }
           else (hostOffset a s).2)))
      ∧ (∀ (k : Fin 8) (b0 b1 b2 b3 : Byte), ∃ t,
        exec (.ringPpWriteMsg src [BitVec.ofNat 8 (0x60 + 4 * k.val), 1, 0, 0, b0, b1, b2, b3]) s = .next t
          ∧ evWord (portOf t 3).evmask k.val = leNat [b0, b1, b2, b3] ∧ t = { s with ports := t.ports }
          ∧ (∀ j < 8, j ≠ k.val → evWord (portOf t 3).evmask j = evWord (portOf s 3).evmask j)
          ∧ ∀ m : Fin 4, m ≠ 3 → portOf t m = portOf s m)
      ∧ (∀ a b0 b1 b2 b3 : Byte, (a &&& 0x7C) ≠ 0x14 → exec (.ringPpWriteMsg src [a, 1, 0, 0, b0, b1, b2, b3]) s =
        exec (.registerWrite 3 a (BitVec.ofNat 32 (leNat [b0, b1, b2, b3]))) s)
      ∧ (∀ (a n seq : Byte), a.toNat % 4 = 0 → a.toNat < 0x80 → 1 ≤ n.toNat → n.toNat ≤ 16 → ∃ t m,
        exec (.ringPpReadMsg src seq [a, n, 0, 0]) s = .next t ∧ t.ring.out = s.ring.out ++ [m] ∧ m.dest = src.val
          ∧ m.type = 3 ∧ m.seq = seq.toNat ∧ m.payload.take 4 = [a, n, 0, 0] ∧ m.payload.length = 4 + 4 * n.toNat
          ∧ t.ring.seq = s.ring.seq))
    ∧ (∀ (seq : Byte) (p : List Byte) a rest, s.ring.access = a :: rest → a.dest = src.val → a.seq = seq.toNat →
      p.length = 4 + 4 * leAt p 1 1 → ∃ t, exec (.ringReadReplyMsg src seq p) s = .next t ∧ t.ring.access = rest
        ∧ t.ring.out = s.ring.out)
    ∧ (∀ p : List Byte, exec (.ringEventRecordMsg src p) s = .next s)
    ∧ (∀ p : List Byte, p.length = 12 → leAt p 0 1 ≤ 1 → zeroIn p 1 3 = true → 1 ≤ leAt p 4 4 → leAt p 4 4 ≤ 262144 →
      (s.ring.recv = none → s.ring.recvLock = false → ringBulkAccept s = true → ∃ t m,
        exec (.ringBulkStartMsg src p) s = .next t ∧ t.gra.ringStage = [] ∧ t.ring.out = s.ring.out ++ [m] ∧ m.type = 6
          ∧ m.payload = List.replicate 8 0 ∧ m.dest = src.val
          ∧ t.ring.recv = some ⟨src.val, leAt p 0 1, leAt p 4 4, leAt p 8 4, 0⟩)
      ∧ (s.ring.recv.isSome = true → ∃ t m, exec (.ringBulkStartMsg src p) s = .next t ∧ Raised 168 t
          ∧ t.ring.recv = s.ring.recv ∧ t.gra.ringStage = s.gra.ringStage ∧ t.ring.out = s.ring.out ++ [m] ∧ m.type = 6))
    ∧ (∀ (p : List Byte) r, s.ring.recv = some r → r.src = src.val → 5 ≤ p.length → p.length ≤ 756 →
      (leAt p 0 4 ≠ r.written → exec (.ringBulkDataMsg src p) s = .next s)
      ∧ (leAt p 0 4 = r.written → r.written + (p.length - 4) < r.len → ∃ t, exec (.ringBulkDataMsg src p) s = .next t
          ∧ t.gra.ringStage = s.gra.ringStage ++ p.drop 4
          ∧ t.ring.recv = some { r with written := r.written + (p.length - 4) })
      ∧ (leAt p 0 4 = r.written → r.written + (p.length - 4) = r.len → s.boot.life = .firmware →
          ∃ t, exec (.ringBulkDataMsg src p) s = .next t
          ∧ t.gra.ringStage = s.gra.ringStage ++ p.drop 4 ∧ t.ring.recv = none ∧ Raised 168 t))
    ∧ (∀ (p : List Byte) b, s.ring.send = some b → b.dest = src.val → p.length = 8 → zeroIn p 7 1 = true → leAt p 4 2 = 0 →
      (leAt p 6 1 = 0 → exec (.ringBulkAckMsg src p) s = .next { s with ring.send := some { b with
        accepted := true, acked := leAt p 0 4, sent := min b.sent (leAt p 0 4), due := s.time.now + 2457600 } })
      ∧ (leAt p 6 1 = 1 → s.boot.install = none → ∃ t, exec (.ringBulkAckMsg src p) s = .next t ∧ t.ring.send = none
          ∧ t.own.mbxLock = false ∧ Raised 168 t))
    ∧ (∀ p : List Byte, p.length = 24 → 1 ≤ leAt p 0 1 → leAt p 0 1 ≤ 15 → zeroIn p 1 3 = true →
      s.ring.standing.isSome = true → s.ring.headPrio < leAt p 0 1 →
      exec (.ringArbitrationMsg p) s = .next { s with ring.beaten := true })
    ∧ (∀ (q : Fin 2) (p : List Byte), p.length = 8 → leAt p 0 1 < 4 → leAt p 1 1 ≤ 2 → zeroIn p 2 2 = true →
      (galOf s q).addr = src.val → (leAt p 0 1).testBit (1 - q.val) = true →
      ∃ t, exec (.ringDepartureMsg src p) s = .next t ∧ (galOf t q).leaving = some (leAt p 4 4)
        ∧ (galOf t q).dozed = (leAt p 1 1 == 1) ∧ (galOf t q).st = (galOf s q).st)
    ∧ (∃ t, exec .ringPpAccessTimeout s = .next t ∧ t.ring.access = s.ring.access.filter (fun a => decide (s.time.now < a.due))
        ∧ t.ring.out = s.ring.out)
    ∧ (∀ b, s.ring.send = some b → b.due ≤ s.time.now → ∃ t, exec .ringBulkTimeout s = .next t ∧ t.ring.send = none
        ∧ Raised 168 t)

/-- With the converter live, its reference settled and no change of the reference waiting: a trigger of the regular
sequence begins a pass with entry 0 while the converter is free, is latched while a pass runs, and counts as an
overrun with E131 while one is latched, by HK_TRIGGER as by the trigger source; a trigger of a slot begins its
conversion while the converter is free, and aborts a regular conversion with E129. HK_CALIBRATE of a free converter
answers PENDING and calibrates for 983 tu, while one runs BUSY, with an injected conversion DEFERRED.
HK_CONVERSION_END at its end keeps the calibrated code with its stamp as new; HK_CAL_DONE keeps the offset and gain
of the reference with E127. HK_REF_SETTLED after 40 µs settles the internal reference, and after its settling time
HK_REF when it lies within 2 % with E126, otherwise it is marked bad. A hardware trigger while the reference is not
settled is refused and counted; HK_TRIGGER then answers NOT_READY. With HALL_ANA powered and the part running:
HK_REF_SETTLED 40 µs after the power-up settles the internal reference, with E126 where it is the selected one;
HK_REF_SETTLED after the settling time of a selected HK_REF settles it with E126 when the test conversion lies
within 2 % of HK_REF_MV, and otherwise marks it bad. While the reference selected is not settled a trigger of the
sequence by its source is refused and counted, and HK_TRIGGER and HK_CALIBRATE answer NOT_READY. -/
def Obligations.HousekeepingRows : Prop :=
  (∀ s : State, Runs s → hkLive s = true → hkSettled s = true → s.hk.nextRef = none →
      (∀ q : Req, CanServeOwner q s →
        (q.len = 4 → q.u8 0 = 0 → zeros q 1 3 = true → hkEn s = true → hkTrig s = 3 →
          (s.hk.pass = false → s.hk.run = none → s.hk.inj = 0 → s.hk.calWait = none → s.hk.next1300 = none →
            ∃ t, exec (.hkTrigger q) s = .next t ∧ t.hk.pass = true ∧ t.hk.run = some (.regular 0) ∧ t.hk.began = s.time.now
              ∧ t.hk.due = s.time.now + convTu (hkEntryAcq s 0) ∧ Replied 0x1302 q .ok [0, 0, 0, 0] t
              ∧ MailFrame q t { s with hk := t.hk } ∧ t.hk.chans = s.hk.chans)
          ∧ (s.hk.pass = true → s.hk.trig = false → ∃ t, exec (.hkTrigger q) s = .next t
              ∧ MailFrame q t { s with hk.trig := true } ∧ Replied 0x1302 q .ok [1, 0, 0, 0] t)
          ∧ (s.hk.pass = true → s.hk.trig = true → ∃ t, exec (.hkTrigger q) s = .next t
              ∧ t.hk = { s.hk with overrun := min 65535 (s.hk.overrun + 1) } ∧ Raised 131 t
              ∧ Replied 0x1302 q .ok [2, 0, 0, 0] t))
        ∧ (∀ k < 4, q.len = 4 → q.u8 0 = k + 1 → zeros q 1 3 = true → slotEn s k = true → slotTrig s k = 3 →
            tansySlot s = none → s.hk.inj = 0 →
          (s.hk.run = none → ∃ t, exec (.hkTrigger q) s = .next t ∧ t.hk.run = some (.injected k) ∧ t.hk.inj = 0
              ∧ t.hk.due = s.time.now + convTu (slotAcq s k) ∧ Replied 0x1302 q .ok [0, 0, 0, 0] t)
          ∧ (∀ e, s.hk.run = some (.regular e) → ∃ t, exec (.hkTrigger q) s = .next t ∧ t.hk.run = some (.injected k)
              ∧ t.hk.aborted = true ∧ t.hk.aborts = min (2 ^ 32 - 1) (s.hk.aborts + 1) ∧ Raised 129 t
              ∧ Replied 0x1302 q .ok [0, 0, 0, 0] t))
        ∧ (q.len = 0 →
          ((∃ d, s.hk.run = some (.calibrating d)) → ∃ t, exec (.hkCalibrate q) s = .next t ∧ MailFrame q t s
              ∧ Replied 0x1303 q .busy [] t)
          ∧ (s.hk.run = none → s.hk.inj = 0 → s.hk.calWait = none → s.hk.calDeferred = false →
              ∃ t, exec (.hkCalibrate q) s = .next t ∧ t.hk.run = some (.calibrating (s.time.now + 983))
                ∧ t.hk.calCid = some s.own.nextCid ∧ t.hk.cals = s.hk.cals ∧ MailFrame q t { s with hk := t.hk }
                ∧ Stands 0x1303 q t s ∧ Replied 0x1303 q .pending [] t)
          ∧ (∀ k, s.hk.run = some (.injected k) → s.hk.calWait = none → s.hk.calDeferred = false →
              ∃ t, exec (.hkCalibrate q) s = .next t ∧ Replied 0x1303 q .deferred [] t
                ∧ MailFrame q t { s with hk.calWait := some none, hk.calDeferred := true })))
      ∧ (hkEn s = true → seqSource s = true →
        (s.hk.pass = false → ∃ t, exec .hkSeqTrigger s = .next t ∧ t.hk.chans = s.hk.chans ∧ t.hk.overrun = s.hk.overrun
          ∧ (s.hk.run = none → s.hk.inj = 0 → s.hk.calWait = none → s.hk.next1300 = none → t.hk.run = some (.regular 0)))
        ∧ (s.hk.pass = true → s.hk.trig = false → exec .hkSeqTrigger s = .next { s with hk.trig := true })
        ∧ (s.hk.pass = true → s.hk.trig = true → exec .hkSeqTrigger s = .next (raise 131 (min 65535 (s.hk.overrun + 1))
            { s with hk.overrun := min 65535 (s.hk.overrun + 1) })))
      ∧ (∀ k : Fin 4, slotEn s k.val = true → slotTrig s k.val ≠ 3 → tansySlot s = none →
        slotSource s k.val = true → s.hk.inj = 0 → s.hk.run = none →
        ∃ t, exec (.hkInjTrigger k) s = .next t ∧ t.hk.run = some (.injected k.val) ∧ t.hk.began = s.time.now
          ∧ t.hk.chans = s.hk.chans)
      ∧ (∀ (raw : Fin 4096) e, s.hk.run = some (.regular e) → s.hk.due ≤ s.time.now → hkEntryCh s e < 24 →
        hkDelivers s (hkEntryCh s e) = true → hkFaultEn s (hkEntryCh s e) = false →
        ∃ t, exec (.hkConversionEnd raw) s = .next t ∧ (hkCh t (hkEntryCh s e)).code = hkCode12 raw s
          ∧ (hkCh t (hkEntryCh s e)).new = true
          ∧ (hkCh t (hkEntryCh s e)).stamp = s.hk.began + acqTu (hkEntryAcq s e) - s.time.start
          ∧ ∀ c < 24, c ≠ hkEntryCh s e → hkCh t c = hkCh s c)
      ∧ (∀ (offset gain : Int) d, s.hk.run = some (.calibrating d) → s.hk.calWait = none → ∃ t,
        exec (.hkCalDone offset gain) s = .next t
          ∧ t.hk.cals = s.hk.cals.set! (hkRef s) (some (offset, gain)) ∧ t.hk.calCid = none ∧ t.hk.chans = s.hk.chans
          ∧ Raised 127 t))
  ∧ (∀ s : State, Runs s → (hallOf s hANA).powered = true → s.hk.nextRef = none →
      (∀ mv : Nat, vget s.hk.settled 0 = false → s.hk.anaSince + usTu 40 ≤ s.time.now →
        ∃ t, exec (.hkRefSettled mv) s = .next t ∧ vget t.hk.settled 0 = true ∧ t.hk.chans = s.hk.chans
          ∧ (hkRef s = 0 → Raised 126 t))
      ∧ (∀ mv : Nat, vget s.hk.settled 0 = true → hkRef s = 1 → vget s.hk.settled 1 = false → s.hk.refBad = false →
        s.hk.refSince + usTu (100 * hkSettle s) ≤ s.time.now →
        (98 * hkRefMv s ≤ 100 * mv → 100 * mv ≤ 102 * hkRefMv s → ∃ t, exec (.hkRefSettled mv) s = .next t
          ∧ vget t.hk.settled 1 = true ∧ t.hk.refBad = false ∧ Raised 126 t)
        ∧ ((100 * mv < 98 * hkRefMv s ∨ 102 * hkRefMv s < 100 * mv) →
            exec (.hkRefSettled mv) s = .next { s with hk.refBad := true }))
      ∧ (hkSettled s = false → hkLive s = true → hkEn s = true → seqSource s = true →
        exec .hkSeqTrigger s = .next { s with hk.refused := min 65535 (s.hk.refused + 1) })
      ∧ (∀ q : Req, CanServeOwner q s → hkSettled s = false →
        (q.len = 4 → q.u8 0 = 0 → zeros q 1 3 = true → hkEn s = true → hkTrig s = 3 →
          ∃ t, exec (.hkTrigger q) s = .next t ∧ MailFrame q t s ∧ Replied 0x1302 q .notReady [] t)
        ∧ (q.len = 0 → s.hk.run = none → s.hk.calWait = none → s.hk.calDeferred = false →
          ∃ t, exec (.hkCalibrate q) s = .next t ∧ MailFrame q t s ∧ Replied 0x1303 q .notReady [] t)))

/-- With the part running: PWR_LEVEL_SET of the level in force answers OK without effect, of a level that R380
refuses its REASON with the status of it, of another with no change in progress PENDING with the change waiting for
its grant. PWR_SLEEP while R393 refuses it answers BUSY, otherwise it is PENDING with its entry begun.
GRANT_EVALUATION at a point grants the head of the queue when slots and budgets allow it, with E229, and tells a
head that the core budget alone holds back once with E233; before a point nothing happens. GRANT_REFUSED at the end
of its window ends the request with E230. DVDD_SETTLED in a raise lets the change wait for its boundary;
DVDD_WAIT_TIMEOUT takes VSEL back and ends the change. DVDD_OK_LOST switches the halls off with E234, after which
only SUPPLY_FAULT_RESET goes on. -/
def Obligations.PowerCommandsAndGrants : Prop :=
  ∀ s : State,
    (Runs s → ∀ q : Req, CanServeOwner q s →
      (q.len = 4 → q.u8 0 ≤ 4 → zeros q 1 3 = true → s.clk.xtalFailed = false → s.pwr.shut = false → s.pwr.change = none →
        (s.clk.rebased = none → q.u8 0 = s.pwr.level → ∃ t, exec (.pwrLevelSet q) s = .next t ∧ MailFrame q t s
          ∧ Replied 0x1401 q .ok [0, 0, 0, 0] t)
        ∧ (q.u8 0 ≠ s.pwr.level → levelReason (q.u8 0) true s ≠ 0 → ∃ t, exec (.pwrLevelSet q) s = .next t
          ∧ MailFrame q t s ∧ Replied 0x1401 q (if levelReason (q.u8 0) true s = 1 then .badParam else .busy)
              [BitVec.ofNat 8 (levelReason (q.u8 0) true s), 0, 0, 0] t)
        ∧ (q.u8 0 ≠ s.pwr.level → levelReason (q.u8 0) true s = 0 → s.pwr.queue.length < 24 →
          ∃ t c, exec (.pwrLevelSet q) s = .next t ∧ t.pwr.change = some c ∧ c.source = s.pwr.level
            ∧ c.target = q.u8 0 ∧ c.step = .grant ∧ c.cid = some s.own.nextCid ∧ t.pwr.level = s.pwr.level
            ∧ t.pwr.vsel = s.pwr.vsel ∧ t.clk = s.clk ∧ t.gra = s.gra ∧ Stands 0x1401 q t s
            ∧ Replied 0x1401 q .pending [0, 0, 0, 0] t))
      ∧ (q.len = 8 → 1 ≤ q.u8 0 → q.u8 0 ≤ 4 → zeros q 1 3 = true → (q.u8 0 ≠ 4 ∨ q.u32 4 = 0 ∨ offCount s = true) →
        (sleepRefused s = true → ∃ t, exec (.pwrSleep q) s = .next t ∧ MailFrame q t s ∧ Replied 0x1402 q .busy [] t)
        ∧ (sleepRefused s = false → (q.u8 0 ≠ 2 ∨ swEn s = true) → ∃ t e, exec (.pwrSleep q) s = .next t
          ∧ t.pwr.entry = some e ∧ e.target = q.u8 0 ∧ e.step = (if installing s then 1 else 2)
          ∧ e.cid = some s.own.nextCid ∧ e.wakeAfter = q.u32 4 ∧ e.began = s.time.now ∧ t.boot.ready = true)))
    ∧ (Runs s → evalDue s = true → s.pwr.held = [] → 1 ≤ grantSlots s → ∀ g, s.pwr.queue = [g] →
      (∀ d, g.due = some d → s.time.now < d) →
      (coreNeed s g ≤ coreBudget s → bulkOk s g = true → g.work = .fwVerify → ∃ t, exec .grantEvaluation s = .next t
        ∧ t.pwr.queue = [] ∧ t.pwr.held = [{ g with begun := true }] ∧ Raised 229 t ∧ t.pwr.evalPoint = false
        ∧ t.boot.install = s.boot.install.map (fun i => { i with step := 2 }) ∧ t.pwr.lastActivity = s.time.now)
      ∧ (∀ p : Fin 2, coreNeed s g ≤ coreBudget s → bulkOk s g = true → g.work = .ringTrain p →
        ∃ t, exec .grantEvaluation s = .next t ∧ t.pwr.queue = [] ∧ t.pwr.held = [{ g with begun := true }]
          ∧ (galOf t p).st = .training ∧ (galOf t p).trainDue = some (s.time.now + 245760) ∧ Raised 229 t)
      ∧ (coreBudget s < coreNeed s g → bulkOk s g = true → g.warned = false → ∃ t, exec .grantEvaluation s = .next t
        ∧ t.pwr.queue = [{ g with warned := true }] ∧ t.pwr.held = [] ∧ Raised 233 t)
      ∧ (coreNeed s g ≤ coreBudget s → bulkOk s g = false → ∃ t, exec .grantEvaluation s = .next t
        ∧ t = { s with pwr.evalPoint := false }))
    ∧ (evalDue s = false → exec .grantEvaluation s = .next s)
    ∧ (Runs s → ∀ g d, s.pwr.queue = [g] → g.due = some d → d ≤ s.time.now → ∃ t, exec .grantRefused s = .next t
      ∧ Raised 230 t ∧ (g.work = .fwVerify → t.pwr.queue = [] ∧ t.boot.install = none)
      ∧ (g.work = .bankPower → t.pwr.queue = [] ∧ t.gra.commit = none))
    ∧ (Runs s → s.pwr.wake = none → ∀ c, s.pwr.change = some c → c.step = .settleUp →
      (c.due + usTu 10 + settleTu s ≤ s.time.now + 49152 → ∃ t, exec .dvddSettled s = .next t ∧ t = { s with
          pwr.dvddOk := true, pwr.change := some { c with step := .frame, due := s.time.now } })
      ∧ (c.due ≤ s.time.now → s.pwr.next = none → ∃ t, exec .dvddWaitTimeout s = .next t ∧ t.pwr.vsel = c.vsel
          ∧ t.pwr.change = none ∧ t.pwr.dvddOk = false ∧ t.pwr.level = s.pwr.level))
    ∧ (Runs s → s.pwr.vsel ≠ 7 → s.pwr.wake = none → s.pwr.change = none → ∃ t, exec .dvddOkLost s = .next t
      ∧ t.pwr.supplyFault = true ∧ t.pwr.dvddOk = false ∧ t.boot.ready = false ∧ t.boot.booted = false ∧ Raised 234 t
      ∧ ∀ h, 1 ≤ h → h < 7 → (hallOf t h).powered = false ∧ (hallOf t h).cross = .closed)
    ∧ (s.pwr.supplyFault = true → ∃ t, exec .supplyFaultReset s = .next t ∧ t.pwr.supplyFault = false
      ∧ t.pwr.resetCause = 3 ∧ t.boot.ready = false ∧ t.boot.flash = s.boot.flash ∧ t.boot.otpLevel = s.boot.otpLevel
      ∧ t.gra.image = none ∧ t.own.owner = none)
    ∧ (s.pwr.supplyFault = false → exec .supplyFaultReset s = .next s)

/-- IDLE_EXPIRED with the idle timer at its end and no lasting activity begins a sleep entry with E228, with one it
restarts the timer. SLEEP_STEP_END of step 6 of an entry into LISTEN or deeper closes the crossings of the halls
that stop and goes on with step 7; of step 7 it commits: the part is asleep, READY falls, the sleep is counted with
E225. SLEEP_DRAIN_TIMEOUT in step 3 gives the entry up. While asleep, activity of a master that HOST_WAKE names, the
end of WAKE_AFTER and the level of the OFF wake pin start the wake with their source; XT32_STOP_DETECTED marks the
ticks from there; WAKE_REGULATOR_RETRY, WAKE_XTAL_TIMEOUT and WAKE_STEP_END lead through the steps of the wake, at
whose last step from DOZE the part is awake and READY with E226. -/
def Obligations.SleepAndWake : Prop :=
  ∀ s : State,
    (Runs s → idleRuns s = true →
      (lastingActivity s = true → exec .idleExpired s = .next { s with pwr.lastActivity := s.time.now })
      ∧ (lastingActivity s = false → s.pwr.lastActivity + idleTu s ≤ s.time.now → ∃ t e, exec .idleExpired s = .next t
          ∧ t.pwr.entry = some e ∧ e.target = idleState s ∧ e.cid = none ∧ e.step = (if installing s then 1 else 2)
          ∧ Raised 228 t))
    ∧ (∀ e, s.pwr.asleep = none → s.pwr.entry = some e → s.pwr.abortBy = none → 2 ≤ e.target →
      (e.step = 6 → ∃ t, exec .sleepStepEnd s = .next t
        ∧ t.pwr.entry = some { e with step := 7, began := s.time.now } ∧ (hallOf t 0) = (hallOf s 0)
        ∧ (∀ h, 1 ≤ h → h < 7 → (hallOf t h).cross = .closed ∧ (hallOf t h).gated = false
            ∧ (hallOf t h).powered = (hallOf s h).powered))
      ∧ (e.step = 7 → ∃ t sl, exec .sleepStepEnd s = .next t ∧ t.pwr.entry = none ∧ t.pwr.asleep = some sl
        ∧ sl.target = e.target ∧ sl.commit = s.time.now ∧ sl.settled = false ∧ sl.ticks = 0 ∧ t.boot.ready = false
        ∧ sl.wakeDue = (if e.wakeAfter = 0 then none else some (s.time.now + 24576 * e.wakeAfter))
        ∧ t.pwr.sleeps = min 65535 (s.pwr.sleeps + 1) ∧ t.pwr.lastState = e.target ∧ t.pwr.lastEntry = 0 ∧ Raised 225 t))
    ∧ (∀ e, s.pwr.asleep = none → s.pwr.entry = some e → e.step = 3 → s.sch.drained = false →
      e.began + drainTu s ≤ s.time.now → ∃ t, exec .sleepDrainTimeout s = .next t ∧ t.pwr.entry = none
        ∧ t.pwr.lastEntry = 2)
    ∧ (∀ sl, s.pwr.asleep = some sl → s.pwr.wake = none →
      (∀ m : Fin 3, sl.target < 4 → hostWakes s (Fin.castLE (by decide) m) = true →
        ∃ t w, exec (.hostActivityWake m) s = .next t ∧ t.pwr.wake = some w ∧ w.source = 0x100 + m.val
          ∧ w.leaving = sl.target ∧ w.step = (if sl.target = 1 then 5 else 2) ∧ t.pwr.lastWake = 0x100 + m.val
          ∧ (1 < sl.target → t.pwr.vsel = 0))
      ∧ (∀ d, sl.wakeDue = some d → d ≤ clockNow s → ∃ t w, exec .timedWake s = .next t ∧ t.pwr.wake = some w
          ∧ w.source = 0x200 ∧ w.leaving = sl.target ∧ t.pwr.lastWake = 0x200)
      ∧ (sl.target = 4 → offGpioWake s = true → 2 ≤ s.pwr.offLevelTicks → ∃ t w, exec .offGpioWake s = .next t
          ∧ t.pwr.wake = some w ∧ w.source = 0x201 ∧ w.leaving = 4 ∧ t.pwr.lastWake = 0x201)
      ∧ (3 ≤ sl.target → s.clk.xt32 = true → exec .xt32StopDetected s = .next { s with
          clk.xt32 := false, clk.xt32Failed := true, pwr.asleep := some { sl with rcFrom := some (sl.ticks - 2) } }))
    ∧ (∀ sl w, s.pwr.asleep = some sl → s.pwr.wake = some w → sl.target = w.leaving →
      (∀ d, w.retryAt = some d → d ≤ clockNow s → ∃ t, exec .wakeRegulatorRetry s = .next t ∧ t.pwr.vsel = 0
        ∧ t.pwr.wake = some { w with step := 2, due := clockNow s + 49152, retryAt := none, retries := w.retries + 1 })
      ∧ (w.step = 2 → w.retryAt = none → w.due ≤ clockNow s → exec .dvddWaitTimeout s = .next { s with
          pwr.dvddOk := false, pwr.vsel := 7, pwr.wake := some { w with retryAt := some (clockNow s + 24576) } })
      ∧ (w.step = 3 → w.leaving = 2 → w.due ≤ clockNow s → ∃ t, exec .wakeXtalTimeout s = .next t ∧ t.clk.xtal = false
        ∧ t.clk.xtalFailed = true ∧ t.pwr.wake = some { w with step := 4, noXtal := true })
      ∧ (w.step = 3 → w.leaving = 2 → s.clk.xtalFailed = false → ∃ t, exec .wakeStepEnd s = .next t ∧ t.clk.xtal = true
        ∧ t.pwr.wake = some { w with step := 4, noXtal := false })
      ∧ (w.step = 4 → exec .wakeStepEnd s = .next { s with pwr.wake := some { w with step := 5 } })
      ∧ (w.step = 5 → w.leaving = 1 → ∃ t, exec .wakeStepEnd s = .next t ∧ t.pwr.wake = some { w with step := 6 }
        ∧ ∀ h, 1 ≤ h → h < 7 → (hallOf t h).gated = false ∧ (hallOf t h).cross = .opened)
      ∧ (w.step = 6 → w.leaving = 1 → w.noXtal = false → s.boot.life = .firmware → ∃ t, exec .wakeStepEnd s = .next t ∧ t.pwr.asleep = none
        ∧ t.pwr.wake = none ∧ t.boot.ready = true ∧ Raised 226 t ∧ t.pwr.dvddRetries = w.retries))

/-- With the part running: SVC_SOURCE_SELECT answers NOT_READY while the service is off and BAD_PARAM for a source
that is not defined; AUTO gives the page back to the machine; MANUAL of the source in force with no selection
waiting answers OK; of another answers PENDING with a route change waiting on every target that is not retired,
point by point, while the source in force stays. SOURCE_MACHINE_EVAL every 1 ms takes a timer that has ended, leaves
the machine alone when it is off or MANUAL, enters state 0 where a restart waits, and else enters the next state of
the lowest condition that holds and has one. SOURCE_STATE_TIMER latches TIMER. SVC_VOLUME_SET answers NOT_READY
while the policy is off, and otherwise keeps the volume asked for and answers with it. VOLUME_CAP_UPDATE every 100
ms takes the mean of the supply and lets the cap rise by at most CAP_RISE and drops it where it does not work. -/
def Obligations.SourceAndVolume : Prop :=
  ∀ s : State, Runs s →
    (∀ q : Req, CanServeOwner q s →
      (q.len = 4 → q.u8 0 ≤ 1 → q.u8 1 ≤ 8 → zeros q 2 2 = true →
        (srcEn s = false → ∃ t, exec (.svcSourceSelect q) s = .next t ∧ MailFrame q t s ∧ Replied 0x1501 q .notReady [] t)
        ∧ (srcEn s = true → q.u8 0 = 0 → ∃ t, exec (.svcSourceSelect q) s = .next t
            ∧ MailFrame q t { s with svc.page1500 := Page.put s.svc.page1500 30 1 0,
                                     svc.restart := s.svc.restart || srcManual s }
            ∧ Replied 0x1501 q .ok [] t)
        ∧ (srcEn s = true → q.u8 0 = 1 → q.u8 1 < 8 → srcDef s (q.u8 1) = false →
            ∃ t, exec (.svcSourceSelect q) s = .next t ∧ MailFrame q t s ∧ Replied 0x1501 q .badParam [] t)
        ∧ (srcEn s = true → q.u8 0 = 1 →
            (q.u8 1 = 8 ∨ (srcDef s (q.u8 1) = true ∧ (srcPoints s (q.u8 1)).all (sourceRetired s) = false)) →
          (s.svc.select = none → s.svc.source = q.u8 1 → ∃ t, exec (.svcSourceSelect q) s = .next t
            ∧ MailFrame q t { s with svc.page1500 := Page.put s.svc.page1500 30 1 1 } ∧ Replied 0x1501 q .ok [] t)
          ∧ (s.svc.source ≠ q.u8 1 → (∃ x ∈ srcTargets s, x < 1152 ∧ targetRetired s x = false) →
            ∃ t x, exec (.svcSourceSelect q) s = .next t ∧ t.svc.select = some x ∧ x.source = q.u8 1
              ∧ x.cid = some s.own.nextCid ∧ t.svc.source = s.svc.source ∧ srcManual t = true
              ∧ Replied 0x1501 q .pending [] t
              ∧ (∀ (i tt : Nat), (srcTargets s)[i]? = some tt → tt < 1152 → targetRetired s tt = false → q.u8 1 < 8 →
                ∃ w, (targetOf t tt).wait = some w ∧ w.asked = s.time.now ∧ w.fade = srcFade s
                  ∧ w.gain = srcTrim s (q.u8 1) ∧ (targetOf t tt).src = (targetOf s tt).src
                  ∧ (∀ p, (srcPoints s (q.u8 1))[i]? = some p → sourceRetired s p = false → w.src = some p)))))
      ∧ (q.len = 4 → q.u8 0 ≤ 1 → q.u8 1 ≤ 1 → ∀ v, volAsked q s = some v →
        (volEn s = false → ∃ t, exec (.svcVolumeSet q) s = .next t ∧ MailFrame q t s ∧ Replied 0x1502 q .notReady [] t)
        ∧ (volEn s = true → ∃ t st, exec (.svcVolumeSet q) s = .next t ∧ (st = .ok ∨ st = .pending)
            ∧ Replied 0x1502 q st (i2 v ++ [0, 0]) t
            ∧ (q.u8 0 = 0 → t.svc.vol = v ∧ t.svc.volHp = s.svc.volHp)
            ∧ (q.u8 0 = 1 → t.svc.volHp = v ∧ t.svc.vol = s.svc.vol)
            ∧ (s.gra.image = none → st = .ok ∧ t.svc.owed = true ∧ t.gra = s.gra)
            ∧ t.fab = s.fab ∧ t.svc.page1501 = s.svc.page1501)))
    ∧ (devTime s % tuPerMs ≠ 0 → exec (.sourceMachineEval ()) s = .next s)
    ∧ (srcEn s = false ∨ srcManual s = true → s.svc.timerEnd = none → exec (.sourceMachineEval ()) s = .next s)
    ∧ (s.boot.ready = true → devTime s % tuPerMs = 0 → srcEn s = true → srcManual s = false →
        (s.svc.restart = true → ∃ t, exec (.sourceMachineEval ()) s = .next t ∧ t.svc.restart = false
          ∧ (s.svc.user = none → t.svc.state = 0 ∧ t.svc.timer = false))
        ∧ (s.svc.restart = false → ∀ e, (srcTable s)[s.svc.state]? = some e →
          (s.svc.timerEnd = none → (∀ c < 16, srcCond s c = false ∨ e.next.getD c 0xFF = 0xFF) →
            exec (.sourceMachineEval ()) s = .next s)
          ∧ (∀ c < 16, srcCond (srcTimer s) c = true → e.next.getD c 0xFF ≠ 0xFF →
            (∀ d < c, srcCond (srcTimer s) d = false ∨ e.next.getD d 0xFF = 0xFF) →
            ∀ e', (srcTable s)[e.next.getD c 0xFF]? = some e' → ∃ t, exec (.sourceMachineEval ()) s = .next t
              ∧ t.svc.state = e.next.getD c 0xFF ∧ t.svc.timer = false
              ∧ t.svc.timerEnd = (if e'.timerMs = 0 then none else some (s.time.now + msTu e'.timerMs))
              ∧ t.svc.vol = s.svc.vol)))
    ∧ (∀ d, s.svc.timerEnd = some d →
      (d ≤ s.time.now → exec .sourceStateTimer s = .next { s with svc.timerEnd := none, svc.timer := true })
      ∧ (s.time.now < d → exec .sourceStateTimer s = .next s))
    ∧ ((volEn s = false ∨ s.time.now < s.svc.capAt → exec (.volumeCapUpdate ()) s = .next s)
      ∧ (volEn s = true → s.svc.capAt ≤ s.time.now → ∃ t, exec (.volumeCapUpdate ()) s = .next t
        ∧ t.svc.supplyN = 0 ∧ t.svc.capAt = s.time.now + 2457600 ∧ t.svc.vol = s.svc.vol ∧ t.svc.volHp = s.svc.volHp
        ∧ (capWorks s = false → t.svc.cap = none)
        ∧ (capWorks s = true → ∀ o, s.svc.cap = some o → ∃ c, t.svc.cap = some c
            ∧ c ≤ o + (volCapRise s : Rat) / 5)))

/-- With the part running: SVC_SORREL_START without a graph answers NOT_READY, while a run goes on BUSY, where R407
does not let it start BAD_PARAM, and otherwise PENDING: the run measures the channels named in ascending order and
asks for the grant of the first, and all results are cleared. SORREL_STEP_END at the end of the noise window begins
the sweep with its 200 ms, at the end of the sweep the analysis; before the end nothing happens.
SORREL_ANALYSIS_DONE records RESULT 0 with what the capture gives and the sections placed where nothing speaks
against it, RESULT 1 where the signal-to-noise ratio is too low, and RESULT 3 where a limit acted; the last channel
ends the run. SVC_SORREL_STOP without a run changes nothing; with one it ends it, and the channels left report
ABORTED. -/
def Obligations.SorrelRows : Prop :=
  ∀ s : State, Runs s →
    (∀ q : Req, CanServeOwner q s →
      (q.len = 4 → q.u16 0 ≠ 0 → zeros q 2 2 = true →
        (s.gra.image = none → ∃ t, exec (.svcSorrelStart q) s = .next t ∧ MailFrame q t s
          ∧ Replied 0x1503 q .notReady [] t)
        ∧ (s.gra.image ≠ none → s.svc.sorrel ≠ none → ∃ t, exec (.svcSorrelStart q) s = .next t ∧ MailFrame q t s
          ∧ Replied 0x1503 q .busy [] t)
        ∧ (s.gra.image ≠ none → s.svc.sorrel = none → sorrelOk (q.u16 0) s = false →
          ∃ t, exec (.svcSorrelStart q) s = .next t ∧ MailFrame q t s ∧ Replied 0x1503 q .badParam [] t)
        ∧ (s.gra.image ≠ none → s.svc.sorrel = none → sorrelOk (q.u16 0) s = true → s.pwr.queue.length < 24 →
          ∃ t r, exec (.svcSorrelStart q) s = .next t ∧ t.svc.sorrel = some r ∧ r.mask = q.u16 0
            ∧ r.left = maskList (q.u16 0) 16 ∧ r.step = 1 ∧ r.cid = some s.own.nextCid
            ∧ t.svc.results = Vector.replicate 16 none ∧ t.svc.vol = s.svc.vol ∧ t.gra.image = s.gra.image
            ∧ Replied 0x1503 q .pending (List.replicate 16 0) t))
      ∧ (q.len = 0 →
        (s.svc.sorrel = none → ∃ t, exec (.svcSorrelStop q) s = .next t ∧ MailFrame q t s ∧ Replied 0x1504 q .ok [] t)
        ∧ (∀ r, s.svc.sorrel = some r → ∃ t, exec (.svcSorrelStop q) s = .next t ∧ t.svc.sorrel = none
          ∧ Replied 0x1504 q .ok [] t
          ∧ ∀ c < 16, vget t.svc.results c = (if c ∈ r.left then some { result := 4 } else vget s.svc.results c))))
    ∧ (∀ r, s.svc.sorrel = some r →
      (∀ d, r.due = some d →
        (s.time.now < d → exec .sorrelStepEnd s = .next s)
        ∧ (d ≤ s.time.now → r.step = 3 → exec .sorrelStepEnd s = .next { s with
            svc.sorrel := some { r with step := 4, due := some (s.time.now + msTu (sorDurMs s + 200)) } })
        ∧ (d ≤ s.time.now → r.step = 4 → ∃ t, exec .sorrelStepEnd s = .next t
          ∧ t.svc = { s.svc with sorrel := some { r with step := 5, due := none } }))
      ∧ (∀ c rest, r.left = c :: rest → c < 16 → c ∉ rest →
        (r.step ≠ 5 → exec (.sorrelAnalysisDone () () () () ()) s = .next s)
        ∧ (r.step = 5 → captureClipped r.capture = false → r.limited = false → ∀ snr residual delay sections,
          Config.sorrel r.capture.reverse (leBytes 24 s.svc.page1502.toNat) (fhHz s) = (snr, residual, delay, sections) →
          ∃ t, exec (.sorrelAnalysisDone () () () () ()) s = .next t
            ∧ t.svc.vol = s.svc.vol ∧ (rest = [] → t.svc.sorrel = none)
            ∧ (200 ≤ snr → vget t.svc.results c = some {
                result := 0, residual := residual, delay := delay, snr := snr
                sections := sections.take (20 * (min (sorSections s) (sections.length / 20))) })
            ∧ (snr < 200 → vget t.svc.results c = some {
                result := 1, residual := residual, delay := delay, snr := snr, sections := [] }))
        ∧ (r.step = 5 → r.limited = true → captureClipped r.capture = false →
            200 ≤ (Config.sorrel r.capture.reverse (leBytes 24 s.svc.page1502.toNat) (fhHz s)).1 →
            ∃ t x, exec (.sorrelAnalysisDone () () () () ()) s = .next t ∧ vget t.svc.results c = some x ∧ x.result = 3 ∧ x.sections = [])))

/-- POWER_ON_RESET clears the part down to its reset state with RESET_CAUSE 0; the flash, the OTP level and the
outside levels stay. POWER_ON_THRESHOLD_PASSED begins the release with VSEL 0. POWER_ON_RESET_RELEASE 1 ms later, or
after RESET_N, starts the boot ROM on the levels of BOOTSEL and ADDR sampled then, with PHASE and REASON of Table
18.1. RESET_N_LOW outside power-on reset resets the part with RESET_CAUSE 1 and holds it. BOOT_XTAL_TIMEOUT in the
boot ROM, 5 ms after the boot began and before any crystal period, puts every hall on the safety RC, device time
held at 0. BOOT_COMPLETE with an image loaded starts it: BOOTED and READY rise with E245 and E247, and the claim
window opens; with a flash boot it starts the slot R421 picks, whose NEW record becomes TRIED; with none it fails
with REASON 9. FIRMWARE_RESTART_READY raises READY again. -/
def Obligations.ResetsAndBoot : Prop :=
  ∀ s : State,
    (∃ t, exec .powerOnReset s = .next t ∧ t.boot.life = .off ∧ t.boot.ready = false ∧ t.boot.booted = false
      ∧ t.pwr.resetCause = 0 ∧ t.own.owner = none ∧ t.gra.image = none ∧ t.ev.aoHeld = [] ∧ t.prot.map = []
      ∧ t.boot.flash = s.boot.flash ∧ t.boot.otpLevel = s.boot.otpLevel ∧ t.ev.gpioIn = s.ev.gpioIn
      ∧ t.ports = State.reset.ports ∧ t.drv = State.reset.drv ∧ t.fab = State.reset.fab)
    ∧ (s.boot.life = .off → ∃ t, exec .powerOnThresholdPassed s = .next t ∧ t.boot.life = .rising ∧ t.pwr.vsel = 0
        ∧ t.time.now = 0 ∧ t.boot.ready = s.boot.ready)
    ∧ (s.boot.life ≠ .off → exec .powerOnThresholdPassed s = .next s)
    ∧ (∀ (b : Fin 8) (a : Fin 4),
      ((s.boot.life = .resetLow ∨ (s.boot.life = .rising ∧ 24576 ≤ s.time.now)) →
        ∃ t, exec (.powerOnResetRelease b a) s = .next t ∧ t.boot.life = .rom ∧ t.boot.bootsel = b.val
          ∧ t.boot.addrPins = a.val ∧ t.pwr.resetCause = s.pwr.resetCause ∧ t.pwr.dvddOk = true ∧ t.boot.ready = false
          ∧ t.boot.phase = (if b.val = 0 ∨ b.val = 4 then 1 else if b.val ≤ 3 then 0 else 2)
          ∧ t.boot.reason = (if 4 < b.val then 10 else 0) ∧ t.boot.flash = s.boot.flash
          ∧ t.ports = State.reset.ports)
      ∧ (s.boot.life ≠ .resetLow → (s.boot.life = .rising → s.time.now < 24576) →
        exec (.powerOnResetRelease b a) s = .next s))
    ∧ ((s.boot.life = .off ∨ s.boot.life = .rising) → exec .resetNLow s = .next s)
    ∧ (s.boot.life ≠ .off → s.boot.life ≠ .rising → ∃ t, exec .resetNLow s = .next t ∧ t.boot.life = .resetLow
        ∧ t.pwr.resetCause = 1 ∧ t.boot.ready = false ∧ t.own.owner = none ∧ t.gra.image = none
        ∧ t.boot.flash = s.boot.flash ∧ t.boot.otpLevel = s.boot.otpLevel ∧ t.ports = State.reset.ports)
    ∧ (s.boot.life = .rom → s.clk.xtalFailed = false → s.pwr.wake = none → s.time.epoch = 0 →
        s.boot.began + msTu 5 ≤ s.time.now → ∃ t, exec .bootXtalTimeout s = .next t
        ∧ t.time.held = true ∧ devTime t = 0 ∧ t.clk.xtalFailed = true ∧ t.clk.xtal = false ∧ (∀ h < 7, (hallOf t h).clk = .rc) ∧ t.boot = s.boot)
    ∧ ((s.boot.life ≠ .rom ∨ s.clk.xtalFailed = true ∨ s.pwr.wake.isSome = true ∨ s.time.epoch ≠ 0
          ∨ s.time.now < s.boot.began + msTu 5) →
        exec .bootXtalTimeout s = .next s)
    ∧ (∀ (octal : Bool) (ab cb : Fin 64),
      (s.boot.life ≠ .rom → exec (.bootComplete octal ab cb) s = .next s)
      ∧ (s.boot.life = .rom → s.clk.xtalFailed = false → s.pwr.asleep = none → s.pwr.wake = none →
        (∀ im, s.boot.loaded = some im → 2 ≤ s.boot.source → ∃ t, exec (.bootComplete octal ab cb) s = .next t
          ∧ t.boot.life = .firmware ∧ t.boot.ready = true ∧ t.boot.booted = true ∧ t.boot.phase = 3
          ∧ t.boot.fwVersion = fwVersionOf im ∧ t.boot.imgLevel = fwLevelOf im ∧ t.boot.source = s.boot.source
          ∧ t.boot.page1600 = 12 ∧ t.boot.flash = s.boot.flash ∧ t.own.claimEnd = some (s.time.now + 245760)
          ∧ t.clk.asyn = .locked ∧ t.clk.csyn = .locked ∧ Raised 245 t ∧ Raised 247 t)
        ∧ (s.boot.loaded = none → s.boot.bootsel = 0 → s.boot.phase = 1 → ∀ k, slotPick s = some k →
          ∃ t, exec (.bootComplete octal ab cb) s = .next t ∧ t.boot.ready = true ∧ t.boot.source = k
            ∧ t.boot.fwVersion = fwVersionOf (slotImage s k)
            ∧ t.boot.reason = (if slotFirst s = some k then s.boot.reason else 5)
            ∧ t.boot.flash = (if slotMark s k = 1 then memWriteList s.boot.flash (slotRecAt k + 4) [0xFF, 0xFF, 0, 0]
                else s.boot.flash)
            ∧ Page.bit t.boot.page1600 31 = true ∧ Page.bit t.boot.page1600 30 = octal)
        ∧ (s.boot.loaded = none → s.boot.bootsel = 0 → s.boot.phase = 1 → slotPick s = none →
          exec (.bootComplete octal ab cb) s = .next { s with boot.phase := 2, boot.reason := 9 })
        ∧ (s.boot.loaded = none → s.boot.bootsel = 4 → s.boot.phase = 1 → slotPick s = none →
          exec (.bootComplete octal ab cb) s = .next { s with boot.phase := 0, boot.source := 2, boot.reason := 9 })))
    ∧ (s.boot.life = .restarting → s.pwr.asleep = none → ∃ t, exec .firmwareRestartReady s = .next t
        ∧ t.boot = { s.boot with ready := true, booted := true, life := .firmware }
        ∧ t.own.claimEnd = some (s.time.now + 245760) ∧ t.own.owner = s.own.owner ∧ Raised 245 t)
    ∧ (s.boot.life ≠ .restarting → exec .firmwareRestartReady s = .next s)

/-- BOOT_IMAGE_WRITE at offset 0 empties the staging buffer and writes it, at the bytes already staged it appends,
at another offset it answers BAD_PARAM, and while an installation holds the buffer BUSY; the boot ROM takes it from
the loading master alike. BOOT_IMAGE_COMMIT answers BUSY while an installation runs, NOT_READY with REASON 8 where
the memory port is needed and not enabled, and otherwise PENDING with its grant asked for; in the boot ROM it
answers with the check's outcome, and a pass is the image to start. With HALL_CTRL running FW_VERIFY_DONE ends the
command where the check fails, with its REASON kept, or where ACTION is 0, and otherwise goes on to the slot not
running, whose record it leaves invalid. FLASH_INSTALL_DONE writes the image and a NEW record into the slot, and
whether it succeeds or not no byte outside the slot changes. BOOT_CONFIRM answers NOT_READY without a flash boot, OK
where the record reads CONFIRMED, and otherwise PENDING; CONFIRM_RECORD_WRITTEN writes it. BOOT_ROLLBACK_ADVANCE
answers OK where the level is at or below the counter, BUSY from a slot not confirmed, otherwise PENDING;
OTP_BITS_BLOWN raises the counter to the level. -/
def Obligations.FirmwareUpdate : Prop :=
  ∀ s : State,
    (Runs s → ∀ q : Req, CanServeOwner q s →
      (9 ≤ q.len → zeros q 4 4 = true →
        (s.own.mbxLock = true → ∃ t, exec (.bootImageWrite q) s = .next t ∧ MailFrame q t s ∧ Replied 0x1680 q .busy [] t)
        ∧ (s.own.mbxLock = false → q.u32 0 = 0 → ∃ t, exec (.bootImageWrite q) s = .next t
            ∧ MailFrame q t { s with own.mbxStage := q.payload.drop 8 } ∧ Replied 0x1680 q .ok [] t)
        ∧ (s.own.mbxLock = false → q.u32 0 ≠ 0 → q.u32 0 = s.own.mbxStage.length →
            s.own.mbxStage.length + (q.payload.drop 8).length ≤ 262144 →
            ∃ t, exec (.bootImageWrite q) s = .next t
              ∧ MailFrame q t { s with own.mbxStage := s.own.mbxStage ++ q.payload.drop 8 } ∧ Replied 0x1680 q .ok [] t)
        ∧ (s.own.mbxLock = false → q.u32 0 ≠ 0 → q.u32 0 ≠ s.own.mbxStage.length →
            ∃ t, exec (.bootImageWrite q) s = .next t ∧ MailFrame q t s ∧ Replied 0x1680 q .badParam [] t))
      ∧ (q.len = 12 → q.u8 0 ≤ 2 → q.u8 1 ≤ 1 → zeros q 2 2 = true →
          (if q.u8 0 = 2 then 0x100000 ≤ q.u32 4 else q.u32 4 = 0) →
        (s.boot.install ≠ none → ∃ t, exec (.bootImageCommit q) s = .next t ∧ MailFrame q t s
          ∧ Replied 0x1681 q .busy [] t)
        ∧ (s.boot.install = none → (q.u8 0 = 2 ∨ q.u8 1 = 1) → memPort s = false →
          ∃ t, exec (.bootImageCommit q) s = .next t ∧ MailFrame q t s
            ∧ Replied 0x1681 q .notReady (8 :: 0xFF :: List.replicate 10 0) t)
        ∧ (s.boot.install = none → (memPort s = true ∨ (q.u8 0 ≠ 2 ∧ q.u8 1 = 0)) → s.pwr.queue.length < 24 →
          ∃ t i, exec (.bootImageCommit q) s = .next t ∧ t.boot = { s.boot with install := some i } ∧ i.step = 1
            ∧ i.action = q.u8 1 ∧ i.source = q.u8 0 ∧ i.image = fwBytes s (q.u8 0) (q.u32 4) (q.u32 8)
            ∧ i.total = q.u32 8 ∧ i.cid = some s.own.nextCid ∧ (q.u8 0 = 0 → t.own.mbxLock = true)
            ∧ Replied 0x1681 q .pending (List.replicate 12 0) t))
      ∧ (q.len = 0 →
        (fromFlash s = false → ∃ t, exec (.bootConfirm q) s = .next t ∧ MailFrame q t s ∧ Replied 0x1601 q .notReady [] t)
        ∧ (fromFlash s = true → slotMark s s.boot.source = 3 → ∃ t, exec (.bootConfirm q) s = .next t ∧ MailFrame q t s
            ∧ Replied 0x1601 q .ok [] t)
        ∧ (fromFlash s = true → slotMark s s.boot.source ≠ 3 → ∃ t, exec (.bootConfirm q) s = .next t
            ∧ MailFrame q t { s with boot.confirm := s.boot.confirm ++ [s.own.nextCid] }
            ∧ Stands 0x1601 q t s ∧ Replied 0x1601 q .pending [] t)
        ∧ (s.boot.imgLevel ≤ s.boot.otpLevel → ∃ t, exec (.bootRollbackAdvance q) s = .next t ∧ MailFrame q t s
            ∧ Replied 0x1682 q .ok [BitVec.ofNat 8 s.boot.otpLevel, 0, 0, 0] t)
        ∧ (s.boot.otpLevel < s.boot.imgLevel → fromFlash s = true → slotMark s s.boot.source ≠ 3 →
            ∃ t, exec (.bootRollbackAdvance q) s = .next t ∧ MailFrame q t s ∧ Replied 0x1682 q .busy [] t)
        ∧ (s.boot.otpLevel < s.boot.imgLevel → (fromFlash s = false ∨ slotMark s s.boot.source = 3) →
            ∃ t, exec (.bootRollbackAdvance q) s = .next t
              ∧ MailFrame q t { s with boot.advance := s.boot.advance ++ [s.own.nextCid] } ∧ Stands 0x1682 q t s
              ∧ Replied 0x1682 q .pending [BitVec.ofNat 8 s.boot.otpLevel, 0, 0, 0] t)))
    ∧ (∀ q : Req, romMaster s = some q.m → (portOf s q.m).rspReady = false → q.status = 0 → q.flags.toNat ≤ 1 →
      (9 ≤ q.len → q.len ≤ 248 → zeros q 4 4 = true → s.own.mbxLock = false → q.u32 0 = 0 →
        ∃ t, exec (.bootImageWrite q) s = .next t ∧ t.own.mbxStage = q.payload.drop 8 ∧ Replied 0x1680 q .ok [] t
          ∧ t.boot = s.boot)
      ∧ (q.len = 12 → q.u8 0 = 0 → q.u8 1 = 0 → zeros q 2 2 = true → q.u32 4 = 0 →
        ∀ r, fwReason s.own.mbxStage (stagedBytes s.own.mbxStage (q.u32 8)) s.boot.otpLevel = r →
        ∃ t, exec (.bootImageCommit q) s = .next t
          ∧ Replied 0x1681 q (fwStatus r) (installResp r 0xFF s.own.mbxStage) t
          ∧ (r = 0 → t.boot = { s.boot with loaded := some s.own.mbxStage, phase := 1 })
          ∧ (r ≠ 0 → t.boot = { s.boot with reason := r })))
    ∧ (∀ i, s.boot.install = some i →
      (i.step ≠ 2 → exec .fwVerifyDone s = .next s) ∧ (i.step ≠ 3 → ∀ ok, exec (.flashInstallDone ok) s = .next s)
      ∧ (hallRuns s hCTRL = true → i.step = 2 → ∀ r, fwReason i.image (stagedBytes i.image i.total) s.boot.otpLevel = r →
        ∃ t, exec .fwVerifyDone s = .next t ∧ t.boot.otpLevel = s.boot.otpLevel
          ∧ (r ≠ 0 → t.boot.install = none ∧ t.boot.reason = r ∧ t.boot.flash = s.boot.flash)
          ∧ (r = 0 → i.action = 0 → t.boot.install = none ∧ t.boot.reason = s.boot.reason ∧ t.boot.flash = s.boot.flash)
          ∧ (r = 0 → i.action ≠ 0 → t.boot = { s.boot with
              install := some { i with step := 3, slot := installSlot s }, progress := 0
              flash := memErase s.boot.flash (slotBase (installSlot s)) 0x80000 }
            ∧ slotValid t (installSlot s) = false))
      ∧ (hallRuns s hCTRL = true → i.step = 3 → i.slot ≤ 1 → i.image.length ≤ 262144 → memWf s.boot.flash = true → ∀ ok,
        ∃ t, exec (.flashInstallDone ok) s = .next t ∧ t.boot.install = none ∧ memWf t.boot.flash = true
          ∧ (∀ a, (a < slotBase i.slot ∨ slotBase i.slot + 0x80000 ≤ a) →
              memRead t.boot.flash a = memRead s.boot.flash a)
          ∧ (ok = true → slotSeq t i.slot = installSeq s % 2 ^ 32 ∧ slotMark t i.slot = 1
              ∧ memReadList t.boot.flash (slotBase i.slot) i.image.length = i.image
              ∧ t.boot.progress = i.image.length)
          ∧ (ok = false → t.boot.reason = 7)))
    ∧ (s.boot.confirm = [] → ∀ ok, exec (.confirmRecordWritten ok) s = .next s)
    ∧ (s.boot.confirm ≠ [] → hallRuns s hCTRL = true →
      (∃ t, exec (.confirmRecordWritten true) s = .next t ∧ t.boot.confirm = []
        ∧ t.boot.flash = memWriteList s.boot.flash (slotRecAt s.boot.source + 4) [0, 0, 0, 0])
      ∧ (∃ t, exec (.confirmRecordWritten false) s = .next t ∧ t.boot.confirm = [] ∧ t.boot.flash = s.boot.flash
        ∧ t.boot.reason = 7))
    ∧ (s.boot.advance = [] → exec .otpBitsBlown s = .next s)
    ∧ (s.boot.advance ≠ [] → hallRuns s hCTRL = true → ∃ t, exec .otpBitsBlown s = .next t
        ∧ t.boot = { s.boot with advance := [], otpLevel := max s.boot.otpLevel s.boot.imgLevel })

/-- SYS_PAGE_WRITE without APPLY writes into the master's shadow of the page, opened from the live page or from the
open shadow; to another page than the one whose shadow is open it answers BUSY; with DISCARD alone it closes the
shadow; an APPLY with a field out of range answers BAD_PARAM and leaves shadow and page; an APPLY to the page of the
grant terms puts the whole contents in force and closes the shadow. SYS_TABLE_WRITE at OFFSET 0 or at the bytes
staged extends the staging buffer, elsewhere it answers BAD_PARAM. SYS_TABLE_COMMIT empties the buffer; a container
that fails answers BAD_PARAM with REASON and ENTRY and changes nothing else, a retirement map and a curve not in use
are in force with OK, a curve in use waits for the frame boundary with PENDING. ID_ATTEST answers BUSY while an
attestation runs and otherwise PENDING with the challenge kept; ATTESTATION_SIGNED ends it and counts it. -/
def Obligations.PagesTablesAndAttestation : Prop :=
  ∀ s : State, Runs s →
    (∀ q : Req, CanServeOwner q s →
      (∀ n live v, 8 ≤ q.len → q.u8 4 < 4 → zeros q 5 3 = true → pageLive s (q.u16 0) = some (n, live) →
          q.u16 2 + (q.len - 8) ≤ n →
          v = mergeBits (pageData (shadowBase (portOf s q.m) (q.u16 0) live ((q.u8 4).testBit 1)) (q.u16 2)
            (q.payload.drop 8)) live (pageRo (q.u16 0)) →
        ((∃ w, (portOf s q.m).shadow = some (q.u16 0, w)) ∨ (portOf s q.m).shadow = none →
          (q.u8 4 = 0 → ∃ t, exec (.sysPageWrite q) s = .next t ∧ MailFrame q t s
            ∧ (portOf t q.m).shadow = some (q.u16 0, v) ∧ Replied 0x0181 q .ok [] t)
          ∧ (q.u8 4 = 2 → q.payload.drop 8 = [] → ∃ t, exec (.sysPageWrite q) s = .next t ∧ MailFrame q t s
            ∧ (portOf t q.m).shadow = none ∧ Replied 0x0181 q .ok [] t)
          ∧ (q.u8 4 = 1 → pageOk s (q.u16 0) v = false → ∃ t, exec (.sysPageWrite q) s = .next t ∧ MailFrame q t s
            ∧ (portOf t q.m).shadow = (portOf s q.m).shadow ∧ Replied 0x0181 q .badParam [] t)
          ∧ (q.u8 4 = 1 → q.u16 0 = 0x1401 → pageOk s 0x1401 v = true → ∃ t, exec (.sysPageWrite q) s = .next t
            ∧ MailFrame q t { s with pwr.page1401 := BitVec.ofNat 288 v }
            ∧ (portOf t q.m).shadow = none ∧ Replied 0x0181 q .ok [] t))
        ∧ (∀ k w, (portOf s q.m).shadow = some (k, w) → k ≠ q.u16 0 → (q.u8 4).testBit 1 = false →
          ∃ t, exec (.sysPageWrite q) s = .next t ∧ MailFrame q t s ∧ (portOf t q.m).shadow = some (k, w)
            ∧ Replied 0x0181 q .busy [] t))
      ∧ (9 ≤ q.len → zeros q 4 4 = true → q.u32 0 + (q.len - 8) ≤ 32768 →
        (q.u32 0 = 0 → ∃ t, exec (.sysTableWrite q) s = .next t ∧ MailFrame q t s
          ∧ (portOf t q.m).staging = q.payload.drop 8 ∧ Replied 0x0182 q .ok [] t)
        ∧ (q.u32 0 ≠ 0 → q.u32 0 = (portOf s q.m).staging.length → ∃ t, exec (.sysTableWrite q) s = .next t
          ∧ MailFrame q t s ∧ (portOf t q.m).staging = (portOf s q.m).staging ++ q.payload.drop 8
          ∧ Replied 0x0182 q .ok [] t)
        ∧ (q.u32 0 ≠ 0 → q.u32 0 ≠ (portOf s q.m).staging.length → ∃ t, exec (.sysTableWrite q) s = .next t
          ∧ MailFrame q t s ∧ (portOf t q.m).staging = (portOf s q.m).staging ∧ Replied 0x0182 q .badParam [] t))
      ∧ (∀ b, q.len = 8 → zeros q 4 4 = true → (portOf s q.m).staging = b →
        (∀ r e, tableFail b (q.u32 0) s = some (r, e) → ∃ t, exec (.sysTableCommit q) s = .next t ∧ MailFrame q t s
          ∧ (portOf t q.m).staging = [] ∧ Replied 0x0183 q .badParam [BitVec.ofNat 8 r, BitVec.ofNat 8 e, 0, 0] t)
        ∧ (tableFail b (q.u32 0) s = none → leAt b 0 2 = 7 → ∃ t, exec (.sysTableCommit q) s = .next t
          ∧ MailFrame q t { s with prot.map := readRetireMap (entriesOf 20 (leAt b 6 2) (b.drop 16)) }
          ∧ (portOf t q.m).staging = [] ∧ Replied 0x0183 q .ok [0, 0, 0, 0] t)
        ∧ (tableFail b (q.u32 0) s = none → leAt b 0 2 = 1 → ∀ c, c = readCurve (entriesOf 4 (leAt b 6 2) (b.drop 16)) →
          (s.prot.curves.any (fun x => x.1 == leAt b 2 2) = false → volEn s = false →
            ∃ t, exec (.sysTableCommit q) s = .next t ∧ curveOf t (leAt b 2 2) = some c
              ∧ MailFrame q t { s with prot.curves := t.prot.curves }
              ∧ (∀ id, id ≠ leAt b 2 2 → curveOf t id = curveOf s id) ∧ Replied 0x0183 q .ok [0, 0, 0, 0] t)
          ∧ (s.prot.curves.any (fun x => x.1 == leAt b 2 2) = true → curveUsed s (leAt b 2 2) = true →
            ∃ t, exec (.sysTableCommit q) s = .next t ∧ t.prot.curves = s.prot.curves
              ∧ (leAt b 2 2, c, s.own.nextCid) ∈ t.prot.newCurves ∧ Replied 0x0183 q .pending [0, 0, 0, 0] t)))
      ∧ (q.len = 32 →
        (s.boot.attest ≠ none → ∃ t, exec (.idAttest q) s = .next t ∧ MailFrame q t s ∧ Replied 0x1702 q .busy [] t)
        ∧ (s.boot.attest = none → ∃ t, exec (.idAttest q) s = .next t
          ∧ MailFrame q t { s with boot.attest := some (s.own.nextCid, q.payload) } ∧ Stands 0x1702 q t s
          ∧ Replied 0x1702 q .pending (List.replicate 68 0) t)))
    ∧ (s.boot.attest = none → exec .attestationSigned s = .next s)
    ∧ (∀ cid challenge, s.boot.attest = some (cid, challenge) → ∃ t, exec .attestationSigned s = .next t
      ∧ t.boot = { s.boot with attest := none, attestCount := (s.boot.attestCount + 1) % 2 ^ 32 })

/-- For every mailbox command, with the firmware READY and the response slot free: a LENGTH above 248 is answered
BAD_LENGTH; a command that is not one any master may issue, from a master that is not the owner, is answered
NOT_OWNER; a request whose STATUS is not zero or whose reserved FLAGS bits are not zero is answered with one of the
statuses of the checks up to there. Each time the payload is empty and nothing changes but the page of the master
that asked. -/
def Obligations.RefusedRequests : Prop :=
  ∀ (i : Instr) (code : Nat) (q : Req) (s : State), requestOf i = some (code, q) → Runs s → s.boot.ready = true →
    OwnQuiet s → (portOf s q.m).rspReady = false →
    (248 < q.len → ∃ t, exec i s = .next t ∧ MailFrame q t s ∧ Replied code q .badLength [] t)
    ∧ (q.len ≤ 248 → s.own.owner ≠ some q.m →
        code ∉ ([0x0101, 0x0180, 0x0200, 0x0203, 0x0300, 0x0301, 0x0302, 0x0400, 0x0500, 0x0600, 0x0700, 0x0800, 0x0803,
          0x0900, 0x0983, 0x0A00, 0x0A03, 0x0A05, 0x0A07, 0x0B00, 0x0C00, 0x0D00, 0x0D02, 0x0E00, 0x0E02, 0x0E83,
          0x0F00, 0x0F01, 0x0F80, 0x1000, 0x1004, 0x1080, 0x1100, 0x1101, 0x1102, 0x1200, 0x1201, 0x1300, 0x1301,
          0x1400, 0x1403, 0x1500, 0x1505, 0x1600, 0x1700, 0x1701] : List Nat) →
        ∃ t, exec i s = .next t ∧ MailFrame q t s ∧ Replied code q .notOwner [] t)
    ∧ ((q.status ≠ 0 ∨ 2 ≤ q.flags.toNat) → ∃ t st, exec i s = .next t ∧ MailFrame q t s
        ∧ (st = .badLength ∨ st = .notOwner ∨ st = .badParam) ∧ Replied code q st [] t)

/-- With the port pages live: a write to PP_MBX_DATA while SLOT is 1 or REQ_BUSY is 1 changes nothing, WORD
included. Otherwise the word the pointer names holds what was written, every other word of the slot is as it was,
and as long as the slot is not written again a read of that word returns what was written. -/
def Obligations.RequestSlotWords : Prop :=
  ∀ (m : Fin 4) (v : Word) (s : State), portsLive s = true →
    (((portOf s m).ptrSlot = true ∨ (portOf s m).reqBusy = true) → exec (.mbxDataWrite m 0 v) s = .next s)
    ∧ ((portOf s m).ptrSlot = false → (portOf s m).reqBusy = false → ∃ t, exec (.mbxDataWrite m 0 v) s = .next t
      ∧ (∀ k : Fin 64, k ≠ (portOf s m).ptrWord → (portOf t m).reqSlot.get k = (portOf s m).reqSlot.get k)
      ∧ ∀ u : State, portsLive u = true → (portOf u m).reqSlot = (portOf t m).reqSlot → (portOf u m).ptrSlot = false →
          (portOf u m).ptrWord = (portOf s m).ptrWord →
          ∃ w, exec (.mbxDataRead m 0) u = .next w ∧ (portOf w m).dataOut = v)

/-- Whatever the command, the counter is at least what it was and stays at most 64; only the end of the blowing of
OTP bits changes it, which does nothing unless a BOOT_ROLLBACK_ADVANCE waits for it, and no other command makes one
wait. An image passes the check, and a slot is chosen for a boot, only with a ROLLBACK at least the counter.
BOOT_STATUS_GET reads the counter. -/
def Obligations.AntiRollback : Prop :=
  (∀ (c : Instr) (s : State), ∃ t, exec c s = .next t ∧ s.boot.otpLevel ≤ t.boot.otpLevel
    ∧ (s.boot.otpLevel ≤ 64 → s.boot.imgLevel ≤ 64 → t.boot.otpLevel ≤ 64)
    ∧ (c ≠ .otpBitsBlown → t.boot.otpLevel = s.boot.otpLevel)
    ∧ ((∀ q, c ≠ .bootRollbackAdvance q) → ∀ x ∈ t.boot.advance, x ∈ s.boot.advance))
  ∧ (∀ s : State, s.boot.advance = [] → exec .otpBitsBlown s = .next s)
  ∧ (∀ (im : List Byte) (staged level : Nat), fwReason im staged level = 0 → level ≤ fwLevelOf im ∧ fwLevelOf im ≤ 64)
  ∧ (∀ (s : State) (k : Nat), slotPick s = some k → s.boot.otpLevel ≤ fwLevelOf (slotImage s k))
  ∧ (∀ (q : Req) (s : State), Runs s → CanServe q s → q.len = 0 → ∃ t p, exec (.bootStatusGet q) s = .next t
      ∧ Replied 0x1600 q .ok p t ∧ p[14]? = some (BitVec.ofNat 8 s.boot.otpLevel))

/-- From every state in which the list of flash bytes is in its canonical form, the anti-rollback counter, the level
of the running image and that of an image loaded are at most 64, and READY stands only while the firmware runs,
every command and every step gives a next state of which the same holds. In the same way every command and every
step keeps the halls as the power state says: HALL_AO runs, every hall has its power while the part is awake and
runs up to step 7 of a sleep entry and again from step 6 of a wake, DOZE keeps the power, and a sleep, an entry and
a wake exclude each other as they must. So a part that is awake, with no sleep entry in progress, the supply in
order and the firmware running, has every hall powered and clocked. -/
def Obligations.StepKeepsBootSound : Prop :=
  ((∀ (c : Instr) (s : State), BootSound s → ∃ t, exec c s = .next t ∧ BootSound t)
  ∧ (∀ s : State, BootSound s → ∃ t, step s = .next t ∧ BootSound t))
  ∧ ((∀ (c : Instr) (s : State), HallsStand s → ∃ t, exec c s = .next t ∧ HallsStand t)
  ∧ (∀ s : State, HallsStand s → ∃ t, step s = .next t ∧ HallsStand t)
  ∧ (∀ s : State, HallsStand s → s.pwr.asleep = none → s.pwr.entry = none → s.boot.life = .firmware →
      s.pwr.supplyFault = false → Runs s))

/-- In the reset state the boot ROM runs and neither READY nor BOOTED stands; there is no owner and no election was
counted; every page of a master reads its reset values with no request, response, event, claim or record; device
time is 0 in epoch 0; the history is LOCKED and holds no frame; no graph is in force, every drive port is STOPPED,
no route target has a source, no channel of any class is retired; the memory-port page reads CLK_DIV 12; the queue
of commands is empty; and the sound-boot invariant holds. HALL_AO and HALL_CTRL run, no sleep, entry or wake is
under way, and the invariant of the halls holds. -/
def Obligations.ResetState : Prop :=
  (BootSound State.reset ∧ State.reset.boot.life = .rom ∧ State.reset.boot.ready = false ∧ State.reset.boot.booted = false
    ∧ State.reset.own.owner = none ∧ State.reset.own.elections = 0
    ∧ (∀ m : Fin 4, (portOf State.reset m).reqBusy = false ∧ (portOf State.reset m).rspReady = false
      ∧ (portOf State.reset m).evsum = 0 ∧ (portOf State.reset m).evmask = 0 ∧ (portOf State.reset m).claim = false
      ∧ (portOf State.reset m).pend = [] ∧ (portOf State.reset m).queue = [] ∧ (portOf State.reset m).shadow = none)
    ∧ devTime State.reset = 0 ∧ State.reset.time.epoch = 0
    ∧ State.reset.mic.hist = .locked ∧ State.reset.mic.frames = []
    ∧ State.reset.gra.image = none ∧ (∀ n < 24, (drvOf State.reset n).st = .stopped)
    ∧ (∀ t < 1152, (targetOf State.reset t).src = none)
    ∧ (∀ c < 5, ∀ i < 24, (faultOf State.reset c i).st ≠ .retired)
    ∧ State.reset.boot.page1600 = 12 ∧ State.reset.pending = [])
  ∧ (HallsStand State.reset ∧ hallRuns State.reset hAO = true ∧ hallRuns State.reset hCTRL = true
    ∧ State.reset.pwr.asleep = none ∧ State.reset.pwr.entry = none ∧ State.reset.pwr.wake = none
    ∧ State.reset.boot.ready = false)
end

