-- ==== Sys2Proof/Laws/Bytes.lean ====
section
/-! SUPPORT. Lengths and values of the byte forms (R4). -/

namespace Sys2Proof.Laws

open Sys2Proof Sys2Proof.Machine

@[simp] theorem leBytes_length (k x : Nat) : (leBytes k x).length = k := by
  induction k generalizing x with
  | zero => rfl
  | succ n ih => simp [leBytes, ih]

@[simp] theorem b1_length (x : Nat) : (b1 x).length = 1 := leBytes_length _ _
@[simp] theorem b2_length (x : Nat) : (b2 x).length = 2 := leBytes_length _ _
@[simp] theorem b4_length (x : Nat) : (b4 x).length = 4 := leBytes_length _ _
@[simp] theorem b8_length (x : Nat) : (b8 x).length = 8 := leBytes_length _ _
@[simp] theorem i2_length (x : Int) : (i2 x).length = 2 := leBytes_length _ _
@[simp] theorem i4_length (x : Int) : (i4 x).length = 4 := leBytes_length _ _
@[simp] theorem rz_length (n : Nat) : (rz n).length = n := by simp [rz]

/-- A little-endian number read back is the number, in its low bytes (R4). -/
theorem leNat_leBytes (k x : Nat) : leNat (leBytes k x) = x % 256 ^ k := by
  induction k generalizing x with
  | zero => simp [leBytes, leNat, Nat.mod_one]
  | succ n ih =>
    simp only [leBytes, leNat, ih, BitVec.toNat_ofNat]
    have e : 256 ^ (n + 1) = 256 * 256 ^ n := by rw [Nat.pow_succ, Nat.mul_comm]
    rw [e, Nat.mod_mul]

/-- Bytes at an offset behind a prefix. -/
theorem leAt_append (a b : List Byte) (k n : Nat) : leAt (a ++ b) (a.length + k) n = leAt b k n := by
  have e : List.drop (a.length + k) a = [] := List.drop_eq_nil_of_le (Nat.le_add_right _ _)
  simp [leAt, List.drop_append, e]

/-- Bytes that a slice takes whole. -/
theorem sliceBytes_whole {l : List Byte} {off len : Nat} (h : off + len ≤ l.length) :
    sliceBytes l off len = (l.drop off).take len := by
  simp [sliceBytes, Nat.min_eq_left (Nat.le_sub_of_add_le (Nat.add_comm off len ▸ h))]

end Sys2Proof.Laws
end

