-- ==== Sys2Proof/Laws/State.lean ====
section
/-! SUPPORT. What each named update of the state leaves as it was, one lemma per field, and what it writes. -/

namespace Sys2Proof.Laws

open Sys2Proof Sys2Proof.Machine

/-! ### onPort -/

@[simp] theorem onPort_halls (m : Fin 4) (f : Port → Port) (s : State) : (onPort m f s).halls = s.halls := rfl
@[simp] theorem onPort_own (m : Fin 4) (f : Port → Port) (s : State) : (onPort m f s).own = s.own := rfl
@[simp] theorem onPort_ev (m : Fin 4) (f : Port → Port) (s : State) : (onPort m f s).ev = s.ev := rfl
@[simp] theorem onPort_time (m : Fin 4) (f : Port → Port) (s : State) : (onPort m f s).time = s.time := rfl
@[simp] theorem onPort_pwr (m : Fin 4) (f : Port → Port) (s : State) : (onPort m f s).pwr = s.pwr := rfl
@[simp] theorem onPort_boot (m : Fin 4) (f : Port → Port) (s : State) : (onPort m f s).boot = s.boot := rfl
@[simp] theorem onPort_clk (m : Fin 4) (f : Port → Port) (s : State) : (onPort m f s).clk = s.clk := rfl
@[simp] theorem onPort_ana (m : Fin 4) (f : Port → Port) (s : State) : (onPort m f s).ana = s.ana := rfl
@[simp] theorem onPort_mic (m : Fin 4) (f : Port → Port) (s : State) : (onPort m f s).mic = s.mic := rfl
@[simp] theorem onPort_flt (m : Fin 4) (f : Port → Port) (s : State) : (onPort m f s).flt = s.flt := rfl
@[simp] theorem onPort_fab (m : Fin 4) (f : Port → Port) (s : State) : (onPort m f s).fab = s.fab := rfl
@[simp] theorem onPort_tdm (m : Fin 4) (f : Port → Port) (s : State) : (onPort m f s).tdm = s.tdm := rfl
@[simp] theorem onPort_gra (m : Fin 4) (f : Port → Port) (s : State) : (onPort m f s).gra = s.gra := rfl
@[simp] theorem onPort_sch (m : Fin 4) (f : Port → Port) (s : State) : (onPort m f s).sch = s.sch := rfl
@[simp] theorem onPort_drv (m : Fin 4) (f : Port → Port) (s : State) : (onPort m f s).drv = s.drv := rfl
@[simp] theorem onPort_prot (m : Fin 4) (f : Port → Port) (s : State) : (onPort m f s).prot = s.prot := rfl
@[simp] theorem onPort_ring (m : Fin 4) (f : Port → Port) (s : State) : (onPort m f s).ring = s.ring := rfl
@[simp] theorem onPort_hk (m : Fin 4) (f : Port → Port) (s : State) : (onPort m f s).hk = s.hk := rfl
@[simp] theorem onPort_svc (m : Fin 4) (f : Port → Port) (s : State) : (onPort m f s).svc = s.svc := rfl
@[simp] theorem onPort_free (m : Fin 4) (f : Port → Port) (s : State) : (onPort m f s).free = s.free := rfl
@[simp] theorem onPort_pending (m : Fin 4) (f : Port → Port) (s : State) : (onPort m f s).pending = s.pending := rfl

/-! ### onPorts -/

@[simp] theorem onPorts_halls (f : Port → Port) (s : State) : (onPorts f s).halls = s.halls := rfl
@[simp] theorem onPorts_own (f : Port → Port) (s : State) : (onPorts f s).own = s.own := rfl
@[simp] theorem onPorts_ev (f : Port → Port) (s : State) : (onPorts f s).ev = s.ev := rfl
@[simp] theorem onPorts_time (f : Port → Port) (s : State) : (onPorts f s).time = s.time := rfl
@[simp] theorem onPorts_pwr (f : Port → Port) (s : State) : (onPorts f s).pwr = s.pwr := rfl
@[simp] theorem onPorts_boot (f : Port → Port) (s : State) : (onPorts f s).boot = s.boot := rfl
@[simp] theorem onPorts_clk (f : Port → Port) (s : State) : (onPorts f s).clk = s.clk := rfl
@[simp] theorem onPorts_ana (f : Port → Port) (s : State) : (onPorts f s).ana = s.ana := rfl
@[simp] theorem onPorts_mic (f : Port → Port) (s : State) : (onPorts f s).mic = s.mic := rfl
@[simp] theorem onPorts_flt (f : Port → Port) (s : State) : (onPorts f s).flt = s.flt := rfl
@[simp] theorem onPorts_fab (f : Port → Port) (s : State) : (onPorts f s).fab = s.fab := rfl
@[simp] theorem onPorts_tdm (f : Port → Port) (s : State) : (onPorts f s).tdm = s.tdm := rfl
@[simp] theorem onPorts_gra (f : Port → Port) (s : State) : (onPorts f s).gra = s.gra := rfl
@[simp] theorem onPorts_sch (f : Port → Port) (s : State) : (onPorts f s).sch = s.sch := rfl
@[simp] theorem onPorts_drv (f : Port → Port) (s : State) : (onPorts f s).drv = s.drv := rfl
@[simp] theorem onPorts_prot (f : Port → Port) (s : State) : (onPorts f s).prot = s.prot := rfl
@[simp] theorem onPorts_ring (f : Port → Port) (s : State) : (onPorts f s).ring = s.ring := rfl
@[simp] theorem onPorts_hk (f : Port → Port) (s : State) : (onPorts f s).hk = s.hk := rfl
@[simp] theorem onPorts_svc (f : Port → Port) (s : State) : (onPorts f s).svc = s.svc := rfl
@[simp] theorem onPorts_free (f : Port → Port) (s : State) : (onPorts f s).free = s.free := rfl
@[simp] theorem onPorts_pending (f : Port → Port) (s : State) : (onPorts f s).pending = s.pending := rfl

/-! ### onHalls -/

@[simp] theorem onHalls_ports (k : Nat) (f : Hall → Hall) (s : State) : (onHalls k f s).ports = s.ports := rfl
@[simp] theorem onHalls_own (k : Nat) (f : Hall → Hall) (s : State) : (onHalls k f s).own = s.own := rfl
@[simp] theorem onHalls_ev (k : Nat) (f : Hall → Hall) (s : State) : (onHalls k f s).ev = s.ev := rfl
@[simp] theorem onHalls_time (k : Nat) (f : Hall → Hall) (s : State) : (onHalls k f s).time = s.time := rfl
@[simp] theorem onHalls_pwr (k : Nat) (f : Hall → Hall) (s : State) : (onHalls k f s).pwr = s.pwr := rfl
@[simp] theorem onHalls_boot (k : Nat) (f : Hall → Hall) (s : State) : (onHalls k f s).boot = s.boot := rfl
@[simp] theorem onHalls_clk (k : Nat) (f : Hall → Hall) (s : State) : (onHalls k f s).clk = s.clk := rfl
@[simp] theorem onHalls_ana (k : Nat) (f : Hall → Hall) (s : State) : (onHalls k f s).ana = s.ana := rfl
@[simp] theorem onHalls_mic (k : Nat) (f : Hall → Hall) (s : State) : (onHalls k f s).mic = s.mic := rfl
@[simp] theorem onHalls_flt (k : Nat) (f : Hall → Hall) (s : State) : (onHalls k f s).flt = s.flt := rfl
@[simp] theorem onHalls_fab (k : Nat) (f : Hall → Hall) (s : State) : (onHalls k f s).fab = s.fab := rfl
@[simp] theorem onHalls_tdm (k : Nat) (f : Hall → Hall) (s : State) : (onHalls k f s).tdm = s.tdm := rfl
@[simp] theorem onHalls_gra (k : Nat) (f : Hall → Hall) (s : State) : (onHalls k f s).gra = s.gra := rfl
@[simp] theorem onHalls_sch (k : Nat) (f : Hall → Hall) (s : State) : (onHalls k f s).sch = s.sch := rfl
@[simp] theorem onHalls_drv (k : Nat) (f : Hall → Hall) (s : State) : (onHalls k f s).drv = s.drv := rfl
@[simp] theorem onHalls_prot (k : Nat) (f : Hall → Hall) (s : State) : (onHalls k f s).prot = s.prot := rfl
@[simp] theorem onHalls_ring (k : Nat) (f : Hall → Hall) (s : State) : (onHalls k f s).ring = s.ring := rfl
@[simp] theorem onHalls_hk (k : Nat) (f : Hall → Hall) (s : State) : (onHalls k f s).hk = s.hk := rfl
@[simp] theorem onHalls_svc (k : Nat) (f : Hall → Hall) (s : State) : (onHalls k f s).svc = s.svc := rfl
@[simp] theorem onHalls_free (k : Nat) (f : Hall → Hall) (s : State) : (onHalls k f s).free = s.free := rfl
@[simp] theorem onHalls_pending (k : Nat) (f : Hall → Hall) (s : State) : (onHalls k f s).pending = s.pending := rfl

/-! ### One master's page -/

/-- An entry of a vector by its number. -/
theorem get_eq_getElem {α : Type} {n : Nat} (v : Vector α n) (i : Fin n) : v.get i = v[i.val] := rfl

/-- The page that was changed. -/
@[simp] theorem portOf_onPort (m : Fin 4) (f : Port → Port) (s : State) :
    portOf (onPort m f s) m = f (portOf s m) := by
  simp [portOf, onPort, get_eq_getElem]

/-- Another master's page. -/
theorem portOf_onPort_ne {m k : Fin 4} (h : k ≠ m) (f : Port → Port) (s : State) :
    portOf (onPort m f s) k = portOf s k := by
  have hv : m.val ≠ k.val := fun e => h (Fin.ext e.symm)
  simp [portOf, onPort, get_eq_getElem, hv]

/-- Two changes of one page. -/
@[simp] theorem onPort_onPort (m : Fin 4) (f g : Port → Port) (s : State) :
    onPort m f (onPort m g s) = onPort m (fun p => f (g p)) s := by
  simp [onPort, get_eq_getElem]

/-- A change that changes nothing. -/
theorem onPort_same {m : Fin 4} {f : Port → Port} {s : State} (h : f (portOf s m) = portOf s m) : onPort m f s = s := by
  have e : s.ports.set m.val (s.ports.get m) m.isLt = s.ports := by
    simp [get_eq_getElem]
  unfold onPort
  unfold portOf at h
  rw [h, e]

/-- Every page changed. -/
@[simp] theorem portOf_onPorts (m : Fin 4) (f : Port → Port) (s : State) :
    portOf (onPorts f s) m = f (portOf s m) := by
  simp [portOf, onPorts, get_eq_getElem]

end Sys2Proof.Laws
end

