-- ==== Sys2Proof/Laws/Events.lean ====
section
/-! SUPPORT. What raising an event and completing a command leave as they were: the fields of the state but the
pages, the router, the scheduler's flags and the wake source of a sleep entry. -/

namespace Sys2Proof.Laws

open Sys2Proof Sys2Proof.Machine

/-! ### Raising an event (R64) -/

/-- What the delivery of a record leaves as it was. -/
def EvFrame (t s : State) : Prop :=
  t = { s with ports := t.ports, ev := t.ev, sch := t.sch, pwr := { s.pwr with abortBy := t.pwr.abortBy } }

theorem EvFrame.refl (s : State) : EvFrame s s := rfl

theorem EvFrame.trans {a b c : State} (h : EvFrame a b) (k : EvFrame b c) : EvFrame a c := by
  unfold EvFrame at *
  rw [h, k]

theorem hirqPulse_frame (b ev : Nat) (s : State) : EvFrame (hirqPulse b ev s) s := by
  unfold hirqPulse; split <;> rfl

theorem gpioRoute_frame (ev : Nat) (s : State) : EvFrame (gpioRoute ev s) s := by
  unfold gpioRoute; simp only []; split
  · split
    · split <;> rfl
    · rfl
  · rfl

theorem schedRoute_frame (ev : Nat) (s : State) : EvFrame (schedRoute ev s) s := by
  unfold schedRoute; simp only []; split <;> rfl

/-- Noting the wake source of a sleep entry keeps the frame. -/
theorem abort_frame {c : Prop} [Decidable c] {e : Option Nat} {t s : State} (h : EvFrame t s) :
    EvFrame (if c then { t with pwr.abortBy := e } else t) s := by
  split
  · exact EvFrame.trans (b := t) rfl h
  · exact h

theorem deliver_frame (r : Record) (s : State) : EvFrame (deliver r s) s := by
  have step (t : State) (h : EvFrame t s) : EvFrame (schedRoute r.ev (gpioRoute r.ev (hirqPulse 1 r.ev (hirqPulse 0 r.ev t)))) s :=
    (schedRoute_frame _ _).trans ((gpioRoute_frame _ _).trans ((hirqPulse_frame _ _ _).trans ((hirqPulse_frame _ _ _).trans h)))
  exact abort_frame (step _ rfl)

theorem raiseRec_frame (r : Record) (s : State) : EvFrame (raiseRec r s) s := by
  unfold raiseRec; split
  · rfl
  · split
    · rfl
    · exact deliver_frame _ _

theorem raiseAt_frame (ev arg stamp : Nat) (s : State) : EvFrame (raiseAt ev arg stamp s) s := raiseRec_frame _ _

@[simp] theorem raiseAt_halls (ev arg stamp : Nat) (s : State) : (raiseAt ev arg stamp s).halls = s.halls := by rw [raiseAt_frame]
@[simp] theorem raiseAt_own (ev arg stamp : Nat) (s : State) : (raiseAt ev arg stamp s).own = s.own := by rw [raiseAt_frame]
@[simp] theorem raiseAt_time (ev arg stamp : Nat) (s : State) : (raiseAt ev arg stamp s).time = s.time := by rw [raiseAt_frame]
@[simp] theorem raiseAt_boot (ev arg stamp : Nat) (s : State) : (raiseAt ev arg stamp s).boot = s.boot := by rw [raiseAt_frame]
@[simp] theorem raiseAt_clk (ev arg stamp : Nat) (s : State) : (raiseAt ev arg stamp s).clk = s.clk := by rw [raiseAt_frame]
@[simp] theorem raiseAt_ana (ev arg stamp : Nat) (s : State) : (raiseAt ev arg stamp s).ana = s.ana := by rw [raiseAt_frame]
@[simp] theorem raiseAt_mic (ev arg stamp : Nat) (s : State) : (raiseAt ev arg stamp s).mic = s.mic := by rw [raiseAt_frame]
@[simp] theorem raiseAt_flt (ev arg stamp : Nat) (s : State) : (raiseAt ev arg stamp s).flt = s.flt := by rw [raiseAt_frame]
@[simp] theorem raiseAt_fab (ev arg stamp : Nat) (s : State) : (raiseAt ev arg stamp s).fab = s.fab := by rw [raiseAt_frame]
@[simp] theorem raiseAt_tdm (ev arg stamp : Nat) (s : State) : (raiseAt ev arg stamp s).tdm = s.tdm := by rw [raiseAt_frame]
@[simp] theorem raiseAt_gra (ev arg stamp : Nat) (s : State) : (raiseAt ev arg stamp s).gra = s.gra := by rw [raiseAt_frame]
@[simp] theorem raiseAt_drv (ev arg stamp : Nat) (s : State) : (raiseAt ev arg stamp s).drv = s.drv := by rw [raiseAt_frame]
@[simp] theorem raiseAt_prot (ev arg stamp : Nat) (s : State) : (raiseAt ev arg stamp s).prot = s.prot := by rw [raiseAt_frame]
@[simp] theorem raiseAt_ring (ev arg stamp : Nat) (s : State) : (raiseAt ev arg stamp s).ring = s.ring := by rw [raiseAt_frame]
@[simp] theorem raiseAt_hk (ev arg stamp : Nat) (s : State) : (raiseAt ev arg stamp s).hk = s.hk := by rw [raiseAt_frame]
@[simp] theorem raiseAt_svc (ev arg stamp : Nat) (s : State) : (raiseAt ev arg stamp s).svc = s.svc := by rw [raiseAt_frame]
@[simp] theorem raiseAt_free (ev arg stamp : Nat) (s : State) : (raiseAt ev arg stamp s).free = s.free := by rw [raiseAt_frame]
@[simp] theorem raiseAt_pending (ev arg stamp : Nat) (s : State) : (raiseAt ev arg stamp s).pending = s.pending := by rw [raiseAt_frame]

@[simp] theorem raise_halls (ev arg : Nat) (s : State) : (raise ev arg s).halls = s.halls := by rw [show raise ev arg s = _ from raiseAt_frame _ _ _ _]
@[simp] theorem raise_own (ev arg : Nat) (s : State) : (raise ev arg s).own = s.own := by rw [show raise ev arg s = _ from raiseAt_frame _ _ _ _]
@[simp] theorem raise_time (ev arg : Nat) (s : State) : (raise ev arg s).time = s.time := by rw [show raise ev arg s = _ from raiseAt_frame _ _ _ _]
@[simp] theorem raise_boot (ev arg : Nat) (s : State) : (raise ev arg s).boot = s.boot := by rw [show raise ev arg s = _ from raiseAt_frame _ _ _ _]
@[simp] theorem raise_clk (ev arg : Nat) (s : State) : (raise ev arg s).clk = s.clk := by rw [show raise ev arg s = _ from raiseAt_frame _ _ _ _]
@[simp] theorem raise_ana (ev arg : Nat) (s : State) : (raise ev arg s).ana = s.ana := by rw [show raise ev arg s = _ from raiseAt_frame _ _ _ _]
@[simp] theorem raise_mic (ev arg : Nat) (s : State) : (raise ev arg s).mic = s.mic := by rw [show raise ev arg s = _ from raiseAt_frame _ _ _ _]
@[simp] theorem raise_flt (ev arg : Nat) (s : State) : (raise ev arg s).flt = s.flt := by rw [show raise ev arg s = _ from raiseAt_frame _ _ _ _]
@[simp] theorem raise_fab (ev arg : Nat) (s : State) : (raise ev arg s).fab = s.fab := by rw [show raise ev arg s = _ from raiseAt_frame _ _ _ _]
@[simp] theorem raise_tdm (ev arg : Nat) (s : State) : (raise ev arg s).tdm = s.tdm := by rw [show raise ev arg s = _ from raiseAt_frame _ _ _ _]
@[simp] theorem raise_gra (ev arg : Nat) (s : State) : (raise ev arg s).gra = s.gra := by rw [show raise ev arg s = _ from raiseAt_frame _ _ _ _]
@[simp] theorem raise_drv (ev arg : Nat) (s : State) : (raise ev arg s).drv = s.drv := by rw [show raise ev arg s = _ from raiseAt_frame _ _ _ _]
@[simp] theorem raise_prot (ev arg : Nat) (s : State) : (raise ev arg s).prot = s.prot := by rw [show raise ev arg s = _ from raiseAt_frame _ _ _ _]
@[simp] theorem raise_ring (ev arg : Nat) (s : State) : (raise ev arg s).ring = s.ring := by rw [show raise ev arg s = _ from raiseAt_frame _ _ _ _]
@[simp] theorem raise_hk (ev arg : Nat) (s : State) : (raise ev arg s).hk = s.hk := by rw [show raise ev arg s = _ from raiseAt_frame _ _ _ _]
@[simp] theorem raise_svc (ev arg : Nat) (s : State) : (raise ev arg s).svc = s.svc := by rw [show raise ev arg s = _ from raiseAt_frame _ _ _ _]
@[simp] theorem raise_free (ev arg : Nat) (s : State) : (raise ev arg s).free = s.free := by rw [show raise ev arg s = _ from raiseAt_frame _ _ _ _]
@[simp] theorem raise_pending (ev arg : Nat) (s : State) : (raise ev arg s).pending = s.pending := by rw [show raise ev arg s = _ from raiseAt_frame _ _ _ _]

/-! ### Pages -/

theorem hirqPulse_ports (b ev : Nat) (s : State) : (hirqPulse b ev s).ports = s.ports := by
  unfold hirqPulse; split <;> rfl

theorem gpioRoute_ports (ev : Nat) (s : State) : (gpioRoute ev s).ports = s.ports := by
  unfold gpioRoute; simp only []; split
  · split
    · split <;> rfl
    · rfl
  · rfl

theorem schedRoute_ports (ev : Nat) (s : State) : (schedRoute ev s).ports = s.ports := by
  unfold schedRoute; simp only []; split <;> rfl

/-- Delivery sets one summary bit on every page and changes nothing else of them (R64). -/
theorem deliver_ports (r : Record) (s : State) :
    (deliver r s).ports = s.ports.map (fun p => { p with evsum := p.evsum ||| BitVec.ofNat 256 (2 ^ r.ev) }) := by
  have last {c : Prop} [Decidable c] (e : Option Nat) (t : State) :
      (if c then { t with pwr.abortBy := e } else t).ports = t.ports := by split <;> rfl
  exact (last _ _).trans (by simp [schedRoute_ports, gpioRoute_ports, hirqPulse_ports, onPorts])

theorem eventHall_lt (ev : Nat) : eventHall ev < 7 := by
  have c {p : Prop} [Decidable p] {a b : Nat} (x : a < 7) (y : b < 7) : (if p then a else b) < 7 := by split <;> assumption
  unfold eventHall
  repeat' first | apply c | decide

/-- With every hall's crossings OPEN, each event's crossing takes it. -/
theorem crossingTakes_open {s : State} (h : hallsOpen 0x7F s = true) (ev : Nat) : crossingTakes ev s = true := by
  have e : maskList 0x7F 7 = List.range 7 := by decide
  simp only [hallsOpen, e, List.all_eq_true, List.mem_range] at h
  unfold crossingTakes
  simp only [h _ (eventHall_lt ev), Bool.or_true]

/-- Awake, an event sets its summary bit on every page. -/
theorem raiseAt_ports {ev arg stamp : Nat} {s : State} (h : Awake s) :
    (raiseAt ev arg stamp s).ports = s.ports.map (fun p => { p with evsum := p.evsum ||| BitVec.ofNat 256 (2 ^ ev) }) := by
  simp [raiseAt, raiseRec, h.1, crossingTakes_open h.2, deliver_ports]

/-- One page after an event raised awake. -/
theorem portOf_raise {ev arg : Nat} {s : State} (h : Awake s) (m : Fin 4) :
    portOf (raise ev arg s) m = { portOf s m with evsum := (portOf s m).evsum ||| BitVec.ofNat 256 (2 ^ ev) } := by
  simp [portOf, raise, raiseAt_ports h, get_eq_getElem]

/-- Asleep, an event touches no page (R69). -/
theorem portOf_raise_asleep {ev arg : Nat} {s : State} (h : s.pwr.asleep.isSome = true) (m : Fin 4) :
    portOf (raise ev arg s) m = portOf s m := by
  simp only [portOf, raise, raiseAt, raiseRec, h, if_true]
  split <;> rfl

/-- An event leaves a page as it was or sets its summary bit there. -/
theorem portOf_raise_cases (ev arg : Nat) (s : State) (m : Fin 4) :
    portOf (raise ev arg s) m = portOf s m
      ∨ portOf (raise ev arg s) m = { portOf s m with evsum := (portOf s m).evsum ||| BitVec.ofNat 256 (2 ^ ev) } := by
  unfold raise raiseAt raiseRec
  split
  · exact .inl rfl
  · split
    · exact .inl rfl
    · exact .inr (by simp [portOf, deliver_ports, get_eq_getElem])

/-- A page after an event, whatever the part does: only the summary bits may have changed. -/
theorem portOf_raise_any (ev arg : Nat) (s : State) (m : Fin 4) :
    portOf (raise ev arg s) m = { portOf s m with evsum := (portOf (raise ev arg s) m).evsum } := by
  unfold raise raiseAt raiseRec
  split
  · rfl
  · split
    · rfl
    · simp [portOf, deliver_ports, get_eq_getElem]

@[simp] theorem raise_asleep (ev arg : Nat) (s : State) : (raise ev arg s).pwr.asleep = s.pwr.asleep := by
  rw [show raise ev arg s = _ from raiseAt_frame _ _ _ _]

/-- The power state but the wake source latched. -/
theorem raise_pwr (ev arg : Nat) (s : State) :
    (raise ev arg s).pwr = { s.pwr with abortBy := (raise ev arg s).pwr.abortBy } := by
  rw [show raise ev arg s = _ from raiseAt_frame _ _ _ _]

end Sys2Proof.Laws
end

