-- ==== Sys2Proof/Laws/Complete.lean ====
section
/-! SUPPORT. What completing a command changes (R52), and how summary bits stand (R64). -/

namespace Sys2Proof.Laws

open Sys2Proof Sys2Proof.Machine

/-! ### Completing a command (R52) -/

/-- What a completion leaves as it was. -/
def DoneFrame (t s : State) : Prop :=
  t = { s with
    ports := t.ports, ev := t.ev, sch := t.sch, pwr := { s.pwr with abortBy := t.pwr.abortBy }
    own := { s.own with joint := t.own.joint } }

theorem DoneFrame.refl (s : State) : DoneFrame s s := rfl

theorem DoneFrame.trans {a b c : State} (h : DoneFrame a b) (k : DoneFrame b c) : DoneFrame a c := by
  unfold DoneFrame at *
  rw [h, k]

theorem EvFrame.done {t s : State} (h : EvFrame t s) : DoneFrame t s := by
  unfold EvFrame DoneFrame at *
  rw [h]

theorem completeOn_frame (m : Fin 4) (cid : Nat) (st : Status) (flags : Nat) (payload : List Byte) (s : State) :
    DoneFrame (completeOn m cid st flags payload s) s := by
  unfold completeOn
  split
  · rfl
  · simp only []
    split
    · rfl
    · exact DoneFrame.trans (b := onPort m _ s) (EvFrame.done (raiseAt_frame _ _ _ _)) rfl

theorem completeNow_frame (cid : Nat) (st : Status) (flags : Nat) (payload : List Byte) (s : State) :
    DoneFrame (completeNow cid st flags payload s) s :=
  (completeOn_frame _ _ _ _ _ _).trans ((completeOn_frame _ _ _ _ _ _).trans
    ((completeOn_frame _ _ _ _ _ _).trans (completeOn_frame _ _ _ _ _ _)))

theorem completeWith_frame (cid : Nat) (st : Status) (flags : Nat) (payload : List Byte) (s : State) :
    DoneFrame (completeWith cid st flags payload s) s := by
  unfold completeWith
  split
  · exact completeNow_frame _ _ _ _ _
  · simp only []
    split
    · rfl
    · split
      · rfl
      · exact DoneFrame.trans (completeNow_frame _ _ _ _ _) rfl

theorem complete_frame (cid : Option Nat) (st : Status) (s : State) : DoneFrame (complete cid st s) s := by
  unfold complete
  split
  · exact completeWith_frame _ _ _ _ _
  · rfl

theorem completeP_frame (cid : Option Nat) (st : Status) (flags : Nat) (payload : List Byte) (s : State) :
    DoneFrame (completeP cid st flags payload s) s := by
  unfold completeP
  split
  · exact completeWith_frame _ _ _ _ _
  · rfl

theorem completeAll_frame (cids : List Nat) (st : Status) (s : State) : DoneFrame (completeAll cids st s) s := by
  unfold completeAll
  induction cids generalizing s with
  | nil => rfl
  | cons c l ih => exact (ih _).trans (completeWith_frame _ _ _ _ _)

@[simp] theorem complete_halls (cid : Option Nat) (st : Status) (s : State) : (complete cid st s).halls = s.halls := by rw [show complete cid st s = _ from complete_frame _ _ _]
@[simp] theorem complete_time (cid : Option Nat) (st : Status) (s : State) : (complete cid st s).time = s.time := by rw [show complete cid st s = _ from complete_frame _ _ _]
@[simp] theorem complete_boot (cid : Option Nat) (st : Status) (s : State) : (complete cid st s).boot = s.boot := by rw [show complete cid st s = _ from complete_frame _ _ _]
@[simp] theorem complete_clk (cid : Option Nat) (st : Status) (s : State) : (complete cid st s).clk = s.clk := by rw [show complete cid st s = _ from complete_frame _ _ _]
@[simp] theorem complete_ana (cid : Option Nat) (st : Status) (s : State) : (complete cid st s).ana = s.ana := by rw [show complete cid st s = _ from complete_frame _ _ _]
@[simp] theorem complete_mic (cid : Option Nat) (st : Status) (s : State) : (complete cid st s).mic = s.mic := by rw [show complete cid st s = _ from complete_frame _ _ _]
@[simp] theorem complete_flt (cid : Option Nat) (st : Status) (s : State) : (complete cid st s).flt = s.flt := by rw [show complete cid st s = _ from complete_frame _ _ _]
@[simp] theorem complete_fab (cid : Option Nat) (st : Status) (s : State) : (complete cid st s).fab = s.fab := by rw [show complete cid st s = _ from complete_frame _ _ _]
@[simp] theorem complete_tdm (cid : Option Nat) (st : Status) (s : State) : (complete cid st s).tdm = s.tdm := by rw [show complete cid st s = _ from complete_frame _ _ _]
@[simp] theorem complete_gra (cid : Option Nat) (st : Status) (s : State) : (complete cid st s).gra = s.gra := by rw [show complete cid st s = _ from complete_frame _ _ _]
@[simp] theorem complete_drv (cid : Option Nat) (st : Status) (s : State) : (complete cid st s).drv = s.drv := by rw [show complete cid st s = _ from complete_frame _ _ _]
@[simp] theorem complete_prot (cid : Option Nat) (st : Status) (s : State) : (complete cid st s).prot = s.prot := by rw [show complete cid st s = _ from complete_frame _ _ _]
@[simp] theorem complete_ring (cid : Option Nat) (st : Status) (s : State) : (complete cid st s).ring = s.ring := by rw [show complete cid st s = _ from complete_frame _ _ _]
@[simp] theorem complete_hk (cid : Option Nat) (st : Status) (s : State) : (complete cid st s).hk = s.hk := by rw [show complete cid st s = _ from complete_frame _ _ _]
@[simp] theorem complete_svc (cid : Option Nat) (st : Status) (s : State) : (complete cid st s).svc = s.svc := by rw [show complete cid st s = _ from complete_frame _ _ _]
@[simp] theorem complete_free (cid : Option Nat) (st : Status) (s : State) : (complete cid st s).free = s.free := by rw [show complete cid st s = _ from complete_frame _ _ _]
@[simp] theorem complete_pending (cid : Option Nat) (st : Status) (s : State) : (complete cid st s).pending = s.pending := by rw [show complete cid st s = _ from complete_frame _ _ _]

@[simp] theorem completeP_halls (cid : Option Nat) (st : Status) (flags : Nat) (payload : List Byte) (s : State) : (completeP cid st flags payload s).halls = s.halls := by rw [show completeP cid st flags payload s = _ from completeP_frame _ _ _ _ _]
@[simp] theorem completeP_time (cid : Option Nat) (st : Status) (flags : Nat) (payload : List Byte) (s : State) : (completeP cid st flags payload s).time = s.time := by rw [show completeP cid st flags payload s = _ from completeP_frame _ _ _ _ _]
@[simp] theorem completeP_boot (cid : Option Nat) (st : Status) (flags : Nat) (payload : List Byte) (s : State) : (completeP cid st flags payload s).boot = s.boot := by rw [show completeP cid st flags payload s = _ from completeP_frame _ _ _ _ _]
@[simp] theorem completeP_clk (cid : Option Nat) (st : Status) (flags : Nat) (payload : List Byte) (s : State) : (completeP cid st flags payload s).clk = s.clk := by rw [show completeP cid st flags payload s = _ from completeP_frame _ _ _ _ _]
@[simp] theorem completeP_ana (cid : Option Nat) (st : Status) (flags : Nat) (payload : List Byte) (s : State) : (completeP cid st flags payload s).ana = s.ana := by rw [show completeP cid st flags payload s = _ from completeP_frame _ _ _ _ _]
@[simp] theorem completeP_mic (cid : Option Nat) (st : Status) (flags : Nat) (payload : List Byte) (s : State) : (completeP cid st flags payload s).mic = s.mic := by rw [show completeP cid st flags payload s = _ from completeP_frame _ _ _ _ _]
@[simp] theorem completeP_flt (cid : Option Nat) (st : Status) (flags : Nat) (payload : List Byte) (s : State) : (completeP cid st flags payload s).flt = s.flt := by rw [show completeP cid st flags payload s = _ from completeP_frame _ _ _ _ _]
@[simp] theorem completeP_fab (cid : Option Nat) (st : Status) (flags : Nat) (payload : List Byte) (s : State) : (completeP cid st flags payload s).fab = s.fab := by rw [show completeP cid st flags payload s = _ from completeP_frame _ _ _ _ _]
@[simp] theorem completeP_tdm (cid : Option Nat) (st : Status) (flags : Nat) (payload : List Byte) (s : State) : (completeP cid st flags payload s).tdm = s.tdm := by rw [show completeP cid st flags payload s = _ from completeP_frame _ _ _ _ _]
@[simp] theorem completeP_gra (cid : Option Nat) (st : Status) (flags : Nat) (payload : List Byte) (s : State) : (completeP cid st flags payload s).gra = s.gra := by rw [show completeP cid st flags payload s = _ from completeP_frame _ _ _ _ _]
@[simp] theorem completeP_drv (cid : Option Nat) (st : Status) (flags : Nat) (payload : List Byte) (s : State) : (completeP cid st flags payload s).drv = s.drv := by rw [show completeP cid st flags payload s = _ from completeP_frame _ _ _ _ _]
@[simp] theorem completeP_prot (cid : Option Nat) (st : Status) (flags : Nat) (payload : List Byte) (s : State) : (completeP cid st flags payload s).prot = s.prot := by rw [show completeP cid st flags payload s = _ from completeP_frame _ _ _ _ _]
@[simp] theorem completeP_ring (cid : Option Nat) (st : Status) (flags : Nat) (payload : List Byte) (s : State) : (completeP cid st flags payload s).ring = s.ring := by rw [show completeP cid st flags payload s = _ from completeP_frame _ _ _ _ _]
@[simp] theorem completeP_hk (cid : Option Nat) (st : Status) (flags : Nat) (payload : List Byte) (s : State) : (completeP cid st flags payload s).hk = s.hk := by rw [show completeP cid st flags payload s = _ from completeP_frame _ _ _ _ _]
@[simp] theorem completeP_svc (cid : Option Nat) (st : Status) (flags : Nat) (payload : List Byte) (s : State) : (completeP cid st flags payload s).svc = s.svc := by rw [show completeP cid st flags payload s = _ from completeP_frame _ _ _ _ _]
@[simp] theorem completeP_free (cid : Option Nat) (st : Status) (flags : Nat) (payload : List Byte) (s : State) : (completeP cid st flags payload s).free = s.free := by rw [show completeP cid st flags payload s = _ from completeP_frame _ _ _ _ _]
@[simp] theorem completeP_pending (cid : Option Nat) (st : Status) (flags : Nat) (payload : List Byte) (s : State) : (completeP cid st flags payload s).pending = s.pending := by rw [show completeP cid st flags payload s = _ from completeP_frame _ _ _ _ _]

@[simp] theorem completeAll_halls (cids : List Nat) (st : Status) (s : State) : (completeAll cids st s).halls = s.halls := by rw [show completeAll cids st s = _ from completeAll_frame _ _ _]
@[simp] theorem completeAll_time (cids : List Nat) (st : Status) (s : State) : (completeAll cids st s).time = s.time := by rw [show completeAll cids st s = _ from completeAll_frame _ _ _]
@[simp] theorem completeAll_boot (cids : List Nat) (st : Status) (s : State) : (completeAll cids st s).boot = s.boot := by rw [show completeAll cids st s = _ from completeAll_frame _ _ _]
@[simp] theorem completeAll_clk (cids : List Nat) (st : Status) (s : State) : (completeAll cids st s).clk = s.clk := by rw [show completeAll cids st s = _ from completeAll_frame _ _ _]
@[simp] theorem completeAll_ana (cids : List Nat) (st : Status) (s : State) : (completeAll cids st s).ana = s.ana := by rw [show completeAll cids st s = _ from completeAll_frame _ _ _]
@[simp] theorem completeAll_mic (cids : List Nat) (st : Status) (s : State) : (completeAll cids st s).mic = s.mic := by rw [show completeAll cids st s = _ from completeAll_frame _ _ _]
@[simp] theorem completeAll_flt (cids : List Nat) (st : Status) (s : State) : (completeAll cids st s).flt = s.flt := by rw [show completeAll cids st s = _ from completeAll_frame _ _ _]
@[simp] theorem completeAll_fab (cids : List Nat) (st : Status) (s : State) : (completeAll cids st s).fab = s.fab := by rw [show completeAll cids st s = _ from completeAll_frame _ _ _]
@[simp] theorem completeAll_tdm (cids : List Nat) (st : Status) (s : State) : (completeAll cids st s).tdm = s.tdm := by rw [show completeAll cids st s = _ from completeAll_frame _ _ _]
@[simp] theorem completeAll_gra (cids : List Nat) (st : Status) (s : State) : (completeAll cids st s).gra = s.gra := by rw [show completeAll cids st s = _ from completeAll_frame _ _ _]
@[simp] theorem completeAll_drv (cids : List Nat) (st : Status) (s : State) : (completeAll cids st s).drv = s.drv := by rw [show completeAll cids st s = _ from completeAll_frame _ _ _]
@[simp] theorem completeAll_prot (cids : List Nat) (st : Status) (s : State) : (completeAll cids st s).prot = s.prot := by rw [show completeAll cids st s = _ from completeAll_frame _ _ _]
@[simp] theorem completeAll_ring (cids : List Nat) (st : Status) (s : State) : (completeAll cids st s).ring = s.ring := by rw [show completeAll cids st s = _ from completeAll_frame _ _ _]
@[simp] theorem completeAll_hk (cids : List Nat) (st : Status) (s : State) : (completeAll cids st s).hk = s.hk := by rw [show completeAll cids st s = _ from completeAll_frame _ _ _]
@[simp] theorem completeAll_svc (cids : List Nat) (st : Status) (s : State) : (completeAll cids st s).svc = s.svc := by rw [show completeAll cids st s = _ from completeAll_frame _ _ _]
@[simp] theorem completeAll_free (cids : List Nat) (st : Status) (s : State) : (completeAll cids st s).free = s.free := by rw [show completeAll cids st s = _ from completeAll_frame _ _ _]
@[simp] theorem completeAll_pending (cids : List Nat) (st : Status) (s : State) : (completeAll cids st s).pending = s.pending := by rw [show completeAll cids st s = _ from completeAll_frame _ _ _]

/-! ### Sleep and summary bits -/

@[simp] theorem completeOn_asleep (m : Fin 4) (cid : Nat) (st : Status) (flags : Nat) (payload : List Byte) (s : State) :
    (completeOn m cid st flags payload s).pwr.asleep = s.pwr.asleep := by
  rw [show completeOn m cid st flags payload s = _ from completeOn_frame _ _ _ _ _ _]

@[simp] theorem complete_asleep (cid : Option Nat) (st : Status) (s : State) :
    (complete cid st s).pwr.asleep = s.pwr.asleep := by
  rw [show complete cid st s = _ from complete_frame _ _ _]

@[simp] theorem completeP_asleep (cid : Option Nat) (st : Status) (flags : Nat) (payload : List Byte) (s : State) :
    (completeP cid st flags payload s).pwr.asleep = s.pwr.asleep := by
  rw [show completeP cid st flags payload s = _ from completeP_frame _ _ _ _ _]

@[simp] theorem completeAll_asleep (cids : List Nat) (st : Status) (s : State) :
    (completeAll cids st s).pwr.asleep = s.pwr.asleep := by
  rw [show completeAll cids st s = _ from completeAll_frame _ _ _]

/-- An event raised awake stands in every summary. -/
theorem raised_raise {ev arg : Nat} {s : State} (h : Awake s) (he : ev < 256) : Raised ev (raise ev arg s) := by
  intro m
  rw [portOf_raise h]
  show (_ ||| BitVec.ofNat 256 (2 ^ ev)).getLsbD ev = true
  rw [BitVec.getLsbD_or, BitVec.getLsbD_ofNat, Nat.testBit_two_pow_self, decide_eq_true he]
  exact Bool.or_true _

/-- An event raised clears no summary bit. -/
theorem raised_mono {e ev arg : Nat} {s : State} (h : Raised e s) : Raised e (raise ev arg s) := by
  intro m
  rcases portOf_raise_cases ev arg s m with k | k
  · rw [k]; exact h m
  · rw [k]; simp [BitVec.getLsbD_or, h m]

/-- A page keeps its summary when only other fields of pages change. -/
theorem raised_onPort {e : Nat} {k : Fin 4} {f : Port → Port} {s : State} (h : Raised e s)
    (hf : ∀ p, (f p).evsum = p.evsum) : Raised e (onPort k f s) := by
  intro m
  by_cases hm : m = k
  · subst hm; rw [portOf_onPort, hf]; exact h m
  · rw [portOf_onPort_ne hm]; exact h m

theorem raised_completeOn {e : Nat} {m : Fin 4} {cid : Nat} {st : Status} {flags : Nat} {payload : List Byte} {s : State}
    (h : Raised e s) : Raised e (completeOn m cid st flags payload s) := by
  unfold completeOn
  split
  · exact h
  · simp only []
    have h2 := raised_onPort (e := e) (k := m) (s := s) (f := fun p => { p with
        pend := p.pend.filter (fun x => x.cid != cid)
        results := pushResult { seq := (by assumption : Pend).seq, status := st, code := (by assumption : Pend).code, flags := flags, payload := payload } p.results }) h (fun _ => rfl)
    split
    · exact h2
    · exact raised_mono h2

/-- A completion clears no summary bit. -/
theorem raised_complete {e : Nat} {cid : Option Nat} {st : Status} {s : State} (h : Raised e s) :
    Raised e (complete cid st s) := by
  unfold complete
  split
  · unfold completeWith
    split
    · exact raised_completeOn (raised_completeOn (raised_completeOn (raised_completeOn h)))
    · simp only []
      split
      · exact h
      · split
        · exact h
        · exact raised_completeOn (raised_completeOn (raised_completeOn (raised_completeOn (s := { s with own.joint := _ }) h)))
  · exact h

end Sys2Proof.Laws
end

