-- ==== Sys2Proof/Laws/Memory.lean ====
section
/-! SUPPORT. Laws of the byte memory: every operation keeps the canonical form, a read after a write gives what was
written, and every other byte reads as before. -/

namespace Sys2Proof.Machine

open Sys2Proof

theorem memWfFrom_cons {lo a : Nat} {v : Byte} {l : List Host.Cell} :
    memWfFrom lo ((a, v) :: l) = true ↔ lo ≤ a ∧ v ≠ erased ∧ memWfFrom (a + 1) l = true := by
  simp [memWfFrom, and_assoc]

theorem memWfFrom_le {lo hi : Nat} {l : List Host.Cell} (h : memWfFrom hi l = true) (k : lo ≤ hi) :
    memWfFrom lo l = true := by
  cases l with
  | nil => rfl
  | cons c l =>
    obtain ⟨a, v⟩ := c
    rw [memWfFrom_cons] at h ⊢
    exact ⟨by omega, h.2⟩

/-- Below the first address of a canonical list every byte reads as erased. -/
theorem memRead_below {lo a : Nat} {l : List Host.Cell} (h : memWfFrom lo l = true) (k : a < lo) :
    memRead l a = erased := by
  cases l with
  | nil => rfl
  | cons c l =>
    obtain ⟨b, v⟩ := c
    rw [memWfFrom_cons] at h
    simp only [memRead]
    rw [if_neg (by omega), if_pos (by omega)]

theorem memWrite_wfFrom {lo a : Nat} {v : Byte} {l : List Host.Cell} (h : memWfFrom lo l = true) (k : lo ≤ a) :
    memWfFrom lo (memWrite l a v) = true := by
  induction l generalizing lo with
  | nil =>
    simp only [memWrite]
    split
    · rfl
    · rw [memWfFrom_cons]; exact ⟨k, ‹_›, rfl⟩
  | cons c l ih =>
    obtain ⟨b, w⟩ := c
    have h' := memWfFrom_cons.1 h
    simp only [memWrite]
    split
    · split
      · exact h
      · rw [memWfFrom_cons]
        exact ⟨k, ‹_›, memWfFrom_cons.2 ⟨by omega, h'.2⟩⟩
    · split
      · split
        · exact memWfFrom_le h'.2.2 (by omega)
        · rw [memWfFrom_cons]
          subst_vars
          exact ⟨k, ‹_›, h'.2.2⟩
      · rw [memWfFrom_cons]
        exact ⟨h'.1, h'.2.1, ih h'.2.2 (by omega)⟩

/-- A write keeps the canonical form. -/
theorem memWrite_wf {l : List Host.Cell} (a : Nat) (v : Byte) (h : memWf l = true) : memWf (memWrite l a v) = true :=
  memWrite_wfFrom h (Nat.zero_le a)

theorem memRead_memWrite_from {lo a : Nat} {v : Byte} {l : List Host.Cell} (h : memWfFrom lo l = true) (k : lo ≤ a)
    (b : Nat) : memRead (memWrite l a v) b = if b = a then v else memRead l b := by
  induction l generalizing lo with
  | nil => simp only [memWrite]; split <;> simp only [memRead] <;> split <;> simp_all
  | cons c l ih =>
    obtain ⟨x, w⟩ := c
    have h' := memWfFrom_cons.1 h
    simp only [memWrite]
    split
    · split
      · subst_vars
        by_cases e : b = a
        · simp only [e, memRead]
          rw [if_neg (by omega), if_pos (by omega)]
          simp
        · simp [e]
      · simp only [memRead]
        by_cases e : b = a
        · simp [e]
        · simp only [e, if_false]
          by_cases f : b < a
          · rw [if_pos f, if_neg (by omega), if_pos (by omega)]
          · rw [if_neg f]
    · split
      · subst_vars
        split
        · subst_vars
          by_cases e : b = x
          · rw [e, if_pos rfl]
            exact memRead_below h'.2.2 (by omega)
          · simp only [e, if_false, memRead]
            by_cases f : b < x
            · rw [if_pos f]; exact memRead_below h'.2.2 (by omega)
            · rw [if_neg f]
        · simp only [memRead]
          by_cases e : b = x
          · simp [e]
          · simp [e]
      · simp only [memRead]
        rw [ih h'.2.2 (by omega)]
        by_cases e : b = x
        · simp only [e, if_true]; rw [if_neg (by omega)]
        · simp only [e, if_false]
          by_cases f : b < x
          · simp only [f, if_true]; rw [if_neg (by omega)]
          · simp only [f, if_false]

/-- A read after a write. -/
theorem memRead_memWrite {l : List Host.Cell} (a : Nat) (v : Byte) (b : Nat) (h : memWf l = true) :
    memRead (memWrite l a v) b = if b = a then v else memRead l b :=
  memRead_memWrite_from h (Nat.zero_le a) b

theorem memWriteList_wf {l : List Host.Cell} (a : Nat) (bs : List Byte) (h : memWf l = true) :
    memWf (memWriteList l a bs) = true := by
  induction bs generalizing l a with
  | nil => exact h
  | cons b bs ih => exact ih (a + 1) (memWrite_wf a b h)

/-- A read after a write of several bytes. -/
theorem memRead_memWriteList {l : List Host.Cell} (a : Nat) (bs : List Byte) (b : Nat) (h : memWf l = true) :
    memRead (memWriteList l a bs) b = if a ≤ b ∧ b < a + bs.length then bs.getD (b - a) 0 else memRead l b := by
  induction bs generalizing l a with
  | nil =>
    simp only [memWriteList, List.length_nil]
    rw [if_neg (by omega)]
  | cons x bs ih =>
    simp only [memWriteList, List.length_cons]
    rw [ih (a + 1) (memWrite_wf a x h), memRead_memWrite a x b h]
    by_cases e : b = a
    · subst e
      rw [if_neg (by omega), if_pos rfl, if_pos (by omega)]
      simp
    · rw [if_neg e]
      by_cases f : a + 1 ≤ b ∧ b < a + 1 + bs.length
      · rw [if_pos f, if_pos (by omega), show b - a = (b - (a + 1)) + 1 by omega, List.getD_cons_succ]
      · rw [if_neg f, if_neg (by omega)]

theorem memErase_wfFrom {lo : Nat} {l : List Host.Cell} (a n : Nat) (h : memWfFrom lo l = true) :
    memWfFrom lo (memErase l a n) = true := by
  induction l generalizing lo with
  | nil => rfl
  | cons c l ih =>
    obtain ⟨b, w⟩ := c
    have h' := memWfFrom_cons.1 h
    have i := ih h'.2.2
    simp only [memErase, List.filter_cons] at i ⊢
    split
    · exact memWfFrom_cons.2 ⟨h'.1, h'.2.1, i⟩
    · exact memWfFrom_le i (by omega)

/-- Erasing keeps the canonical form. -/
theorem memErase_wf {l : List Host.Cell} (a n : Nat) (h : memWf l = true) : memWf (memErase l a n) = true :=
  memErase_wfFrom a n h

theorem memRead_memErase_from {lo : Nat} {l : List Host.Cell} (a n b : Nat) (h : memWfFrom lo l = true) :
    memRead (memErase l a n) b = if a ≤ b ∧ b < a + n then erased else memRead l b := by
  induction l generalizing lo with
  | nil => simp [memErase, memRead]
  | cons c l ih =>
    obtain ⟨x, w⟩ := c
    have h' := memWfFrom_cons.1 h
    have i := ih h'.2.2
    have j := memErase_wfFrom a n h'.2.2
    simp only [memErase, List.filter_cons] at i j ⊢
    by_cases e : x < a ∨ a + n ≤ x
    · simp only [e, decide_true, if_true, memRead, i]
      by_cases f : b = x
      · rw [if_pos f, if_neg (by omega), if_pos f]
      · by_cases g : b < x
        · simp [f, g]
        · simp [f, g]
    · simp only [e, decide_false, Bool.false_eq_true, if_false, i, memRead]
      by_cases f : b = x
      · rw [if_pos (by omega), if_pos (by omega)]
      · by_cases g : b < x
        · have := memRead_below h'.2.2 (show b < x + 1 by omega)
          simp [f, g, this]
        · simp [f, g]

/-- A read after an erase. -/
theorem memRead_memErase {l : List Host.Cell} (a n b : Nat) (h : memWf l = true) :
    memRead (memErase l a n) b = if a ≤ b ∧ b < a + n then erased else memRead l b :=
  memRead_memErase_from a n b h

end Sys2Proof.Machine
end

