-- ==== Sys2Proof/Laws/Ops.lean ====
section
/-! SUPPORT. What each shared operation can do, said once: ownership closings, answers, serving a request, events,
completions, the byte memory. -/

namespace Sys2Proof.Laws

open Sys2Proof Sys2Proof.Machine

/-! ### Ownership closings -/

/-- Nothing is due: the closings change nothing. -/
theorem settle_quiet {s : State} (h : OwnQuiet s) : settleOwnership s = s := by
  obtain ⟨h1, h2, h3⟩ := h
  have a : claimWindowClose s = s := by simp [claimWindowClose, h1]
  have d : acceptEarly s = s := by
    unfold acceptEarly
    split
    · split
      · rename_i hc
        obtain ⟨c1, c2, _⟩ := hc
        rcases h2 with h2 | h2
        · exact absurd h2 c1
        · simp [closed, c2] at h2
      · rfl
    · rfl
  have b : heartbeatLapse s = s := by
    unfold heartbeatLapse
    split
    · rfl
    · split
      · rename_i m _ hc
        rcases h2 with h2 | h2 <;> simp_all
      · rfl
  have c : handoverFail s = s := by
    unfold handoverFail
    split
    · rfl
    · rename_i h e
      simp [h3 h e]
  simp [settleOwnership, a, b, c, d]

/-! ### Serving -/

/-- Before READY nothing is served. -/
theorem serve_unready {f : Facts} {body} {q : Req} {s : State} (h : s.boot.ready = false) : serve f body q s = s := by
  simp [serve, h]

/-- A request that fails a check is answered with the status of the first check that fails, and does nothing else. -/
theorem serve_fails {f : Facts} {body} {q : Req} {s : State} {st : Status} (hr : s.boot.ready = true) (hq : OwnQuiet s)
    (h : firstFailure f q s = some st) : serve f body q s = respond f.code q { status := st } s := by
  simp [serve, hr, settle_quiet hq, h]

/-- An answer into a free slot. -/
theorem respond_free {code : Nat} {q : Req} {a : Answer} {s : State} (h : (portOf s q.m).rspReady = false) :
    respond code q a s = onPort q.m (writeRsp
      { code := code, seq := q.seq.toNat, flags := a.flags, status := a.status, payload := a.payload }) s := by
  unfold respond
  unfold onPort portOf at *
  simp [answerPort, h]

/-- A request whose command reports and may clear what it reports. -/
theorem serve_reports {f : Facts} {body} {q : Req} {s t : State} {st : Status} {p : List Byte} (hc : CanServe q s)
    (h : firstFailure f q s = none) (hf : f.report = true)
    (hb : body s.own.nextCid q s = (t, { status := st, payload := p })) (ht : (portOf t q.m).rspReady = false) :
    serve f body q s = answered f.code q st p t := by
  simp [serve, hc.ready, settle_quiet hc.quiet, h, hf, hb, answered]
  exact respond_free ht

/-- A request that only reports. -/
theorem report_answers {f : Facts} {payload} {q : Req} {s : State} (hc : CanServe q s)
    (h : firstFailure f q s = none) (hf : f.report = true) :
    report f payload q s = reported f.code q (payload q s) s :=
  serve_reports hc h hf rfl hc.slot

/-- A request that passes the checks and does something. -/
theorem serve_carries {f : Facts} {body} {q : Req} {s : State} (hc : CanServe q s)
    (h : firstFailure f q s = none) (hf : f.report = false) :
    serve f body q s = carryOut f.code body q (noteActivity q.m s) := by
  simp [serve, hc.ready, settle_quiet hc.quiet, h, hf]

/-- With every hall's crossings open, those of any mask are. -/
theorem halls_any {s : State} (h : hallsOpen 0x7F s = true) (k : Nat) : hallsOpen k s = true := by
  have e : maskList 0x7F 7 = List.range 7 := by decide
  simp only [hallsOpen, e, List.all_eq_true] at h
  simp only [hallsOpen, maskList, List.all_eq_true, List.mem_filter]
  exact fun x hx => h x hx.1

/-- The checks pass where the ones the command itself brings pass. -/
theorem no_failure {f : Facts} {q : Req} {s : State} (hc : CanServe q s) (ho : f.owner = true → s.own.owner = some q.m)
    (hl : f.len q.len = true) (hk : f.lenQ q = true) (hf : f.fields q s = true) : firstFailure f q s = none := by
  have h1 := halls_any hc.halls (f.halls q)
  have h2 : ¬ 248 < q.len := Nat.not_lt.mpr hc.len
  have h3 : ¬ 1 < q.flags.toNat := Nat.not_lt.mpr hc.flags
  have h4 := hc.status
  have h5 : (f.owner && !isOwner s q.m) = false := by
    cases e : f.owner
    · rfl
    · simp [isOwner, ho e]
  unfold firstFailure
  rw [if_neg h2, h5, hl, hk, hf, h1, h4]
  simp [h3]

/-- What the note of a command's activity changes (R391). -/
theorem noteActivity_eq (m : Fin 4) (s : State) : noteActivity m s = { s with
    pwr := { s.pwr with lastActivity := s.time.now, abortBy := (noteActivity m s).pwr.abortBy } } := by
  unfold noteActivity
  simp only []
  split <;> rfl

@[simp] theorem portOf_noteActivity (m k : Fin 4) (s : State) : portOf (noteActivity m s) k = portOf s k := by
  rw [noteActivity_eq]; rfl

/-- The state in which the body of a command runs: activity noted, the command PENDING under its number. -/
def started (code : Nat) (q : Req) (s : State) : State :=
  pend code s.own.nextCid q { noteActivity q.m s with own := { s.own with nextCid := s.own.nextCid + 1 } }

theorem started_eq (code : Nat) (q : Req) (s : State) : started code q s = { s with
    ports := (started code q s).ports, own := { s.own with nextCid := s.own.nextCid + 1 }
    pwr := { s.pwr with lastActivity := s.time.now, abortBy := (noteActivity q.m s).pwr.abortBy } } := by
  unfold started
  rw [noteActivity_eq]
  rfl

/-- The page of the master when the body runs. -/
theorem portOf_started (code : Nat) (q : Req) (s : State) : portOf (started code q s) q.m = { portOf s q.m with
    pend := (portOf s q.m).pend ++
      [{ cid := s.own.nextCid, seq := q.seq.toNat, code := code, quiet := q.flags.getLsbD 0 }] } := by
  unfold started pend
  rw [portOf_onPort, noteActivity_eq]
  rfl

theorem portOf_started_ne (code : Nat) {q : Req} {m : Fin 4} (h : m ≠ q.m) (s : State) :
    portOf (started code q s) m = portOf s m := by
  unfold started pend
  rw [portOf_onPort_ne h, noteActivity_eq]
  rfl

/-- A command that ends with a final status. -/
theorem serve_final {f : Facts} {body} {q : Req} {s t : State} {a : Answer} (hc : CanServe q s)
    (h : firstFailure f q s = none) (hf : f.report = false)
    (hb : body s.own.nextCid q (started f.code q s) = (t, a)) (ha : a.status ≠ .pending) :
    serve f body q s = respond f.code q a (unpend s.own.nextCid q t) := by
  rw [serve_carries hc h hf]
  have e : (noteActivity q.m s).own = s.own := by rw [noteActivity_eq]
  unfold carryOut
  unfold started at hb
  simp only [e]
  rw [hb]
  simp [ha]

/-- A command that becomes PENDING. -/
theorem serve_pending {f : Facts} {body} {q : Req} {s t : State} {a : Answer} (hc : CanServe q s)
    (h : firstFailure f q s = none) (hf : f.report = false)
    (hb : body s.own.nextCid q (started f.code q s) = (t, a)) (ha : a.status = .pending) :
    serve f body q s = respond f.code q a t := by
  rw [serve_carries hc h hf]
  have e : (noteActivity q.m s).own = s.own := by rw [noteActivity_eq]
  have r : ¬ 8 ≤ pendCount { noteActivity q.m s with own := { s.own with nextCid := s.own.nextCid + 1 } } q.m := by
    have := hc.room
    rw [noteActivity_eq]
    simp only [pendCount, portOf] at *
    omega
  unfold carryOut
  unfold started at hb
  simp only [e]
  rw [hb]
  simp [ha, r]

/-- A response in its slot. -/
theorem replied_respond {code : Nat} {q : Req} {st : Status} {p : List Byte} {t : State}
    (h : (portOf t q.m).rspReady = false) : Replied code q st p (respond code q { status := st, payload := p } t) := by
  rw [respond_free h]
  simp [Replied, writeRsp]

end Sys2Proof.Laws
end

