-- ==== Sys2Proof/Laws/Vectors.lean ====
section
/-! SUPPORT. Entries of vectors by number. -/

namespace Sys2Proof.Laws

open Sys2Proof Sys2Proof.Machine

theorem vget_lt {α : Type} [Inhabited α] {n : Nat} (v : Vector α n) {i : Nat} (h : i < n) : vget v i = v[i] := by
  simp [vget, h]

theorem vget_ge {α : Type} [Inhabited α] {n : Nat} (v : Vector α n) {i : Nat} (h : n ≤ i) : vget v i = default := by
  simp [vget, h]

/-- The entry just written. -/
theorem vget_vset {α : Type} [Inhabited α] {n : Nat} (v : Vector α n) {i : Nat} (a : α) (h : i < n) :
    vget (vset v i a) i = a := by
  simp [vget, vset, h]

/-- Another entry. -/
theorem vget_vset_ne {α : Type} [Inhabited α] {n : Nat} (v : Vector α n) {i k : Nat} (a : α) (h : k ≠ i) :
    vget (vset v i a) k = vget v k := by
  by_cases hk : k < n
  · rw [vget_lt _ hk, vget_lt _ hk]
    simp [vset, Ne.symm h]
  · rw [vget_ge _ (Nat.le_of_not_lt hk), vget_ge _ (Nat.le_of_not_lt hk)]

/-- The entry just changed. -/
theorem vget_vupd {α : Type} [Inhabited α] {n : Nat} (v : Vector α n) {i : Nat} (f : α → α) (h : i < n) :
    vget (vupd v i f) i = f (vget v i) := vget_vset v _ h

/-- Another entry. -/
theorem vget_vupd_ne {α : Type} [Inhabited α] {n : Nat} (v : Vector α n) {i k : Nat} (f : α → α) (h : k ≠ i) :
    vget (vupd v i f) k = vget v k := vget_vset_ne v _ h

/-- Every entry changed by its index. -/
theorem vget_vmapi {α : Type} [Inhabited α] {n : Nat} (v : Vector α n) {i : Nat} (f : Nat → α → α) (h : i < n) :
    vget (vmapi v f) i = f i (vget v i) := by
  rw [vget_lt _ h, vget_lt _ h]
  simp [vmapi]

end Sys2Proof.Laws
end

