-- ==== Sys2Proof/Tests/Slice0.lean ====
section
/-! SUPPORT. The model's own tests: what `Instr.wf` refuses, single steps whose results the spec gives, and for the
statements with hypotheses a state and operands that meet them. -/

namespace Sys2Proof.Tests

open Sys2Proof Sys2Proof.Machine

set_option maxRecDepth 20000

/-! ### Small states and requests -/

/-- The boot state of a running firmware. -/
def bootRun : Boot := { life := .firmware, ready := true, booted := true, phase := 3, source := 2 }

/-- The part runs, M0 owns it, and every hall has its crossings OPEN. -/
def base : State := { State.reset with boot := bootRun, own.owner := some 0, halls := Vector.replicate 7 {} }

/-- A request of M0 with a payload. -/
def rq (p : List Byte) : Req := { m := 0, seq := 1, flags := 0, status := 0, payload := p }

/-- A state in which a request meets what every request must meet, and its master is the owner, as a truth value. -/
def serveOk (q : Req) (s : State) : Bool :=
  s.boot.ready && !closedO s.own.claimEnd s && (s.own.hbPeriod == 0 || !closed s.own.hbDue s) && s.own.handover.isNone
    && !(portOf s q.m).rspReady && decide ((portOf s q.m).pend.length < 8) && hallsOpen 0x7F s && decide (q.len ≤ 248)
    && q.status == 0 && decide (q.flags.toNat ≤ 1) && isOwner s q.m

/-- `serveOk` is what the statements ask. -/
theorem serveOk_spec (q : Req) (s : State) (h : serveOk q s = true) : CanServeOwner q s := by
  simp only [serveOk, Bool.and_eq_true, Bool.not_eq_true', Bool.or_eq_true, beq_iff_eq, decide_eq_true_eq,
    Option.isNone_iff_eq_none] at h
  obtain ⟨⟨⟨⟨⟨⟨⟨⟨⟨⟨a, b⟩, c⟩, d⟩, e⟩, f⟩, g⟩, i⟩, j⟩, k⟩, l⟩ := h
  exact { ready := a, quiet := ⟨b, c, fun x hx => by simp [d] at hx⟩, slot := e, room := f, halls := g, len := i
          status := j, flags := k, owner := by simpa [isOwner] using l }

/-- The part runs, as a truth value. -/
def runsOk (s : State) : Bool :=
  s.pwr.asleep.isNone && !s.pwr.supplyFault && s.boot.life == .firmware && s.pwr.entry.isNone
    && (List.range 7).all (hallRuns s) && hallsOpen 0x7F s

/-- `runsOk` is what the statements ask. -/
theorem runsOk_spec (s : State) (h : runsOk s = true) : Runs s := by
  simp only [runsOk, Bool.and_eq_true, Bool.not_eq_true', beq_iff_eq, Option.isNone_iff_eq_none] at h
  exact { awake := h.1.1.1.1.1, supply := h.1.1.1.1.2, life := h.1.1.1.2, entry := h.1.1.2, cross := h.2
          halls := fun k hk => by simpa using List.all_eq_true.mp h.1.2 k (List.mem_range.mpr hk) }

/-! ### Witnesses: reports and the host port -/

theorem test_base : serveOk (rq []) base = true ∧ runsOk base = true ∧ portsLive base = true := by decide

theorem test_wit_EmptyQueueStep : base.pending = [] ∧ base.own.inbox = [] ∧ base.boot.life = .firmware
    ∧ base.time.held = false ∧ base.pwr.asleep = none ∧ hallsOpen 0x7F base = true
    ∧ (decodeRequest 2 (slotBytes ((Vector.replicate 64 (0 : Word)).set 0 0x00010200))).toOption
        = some (.ownGet { rq [] with m := 2, seq := 1 }) := by decide

theorem test_wit_RequestRoundTrip : requestOf (.ownGet (rq [])) = some (0x0200, rq [])
    ∧ Instr.wf (.ownGet (rq [])) = true := by decide

theorem test_wit_OperandReports :
    (rq [196, 0, 60, 0]).u16 0 + (rq [196, 0, 60, 0]).u8 2 = 256 ∧ zeros (rq [196, 0, 60, 0]) 3 1 = true
    ∧ pageLive base 0x1400 = some (20, base.pwr.page1400.toNat) ∧ (rq [0, 20, 0, 0, 20, 0, 0, 0]).u16 0 = 0x1400
    ∧ trimChain 0 = true ∧ serveOk (rq [0, 0, 0, 0, 1, 0, 0, 0]) (onChain 0 (fun c => { c with
        bankA := { c.bankA with image := [7] } }) base) = true
    ∧ (rq [0xF9, 3, 7, 0]).u16 0 + 7 = 1024 ∧ serveOk (rq [23, 1, 0, 0]) base = true := by decide

theorem test_wit_cert : serveOk (rq [0, 0, 1, 0, 0, 0, 0, 0]) base = true ∧ 0 + 1 ≤ Config.cert.length := by
  refine ⟨by decide, ?_⟩
  simp [Config.cert]

theorem test_wit_ClearingReports : serveOk (rq [97, 0, 0, 0]) base = true ∧ (rq [97, 0, 0, 0]).u8 0 = 97
    ∧ (rq [0xC4, 4, 60, 0]).u16 0 + (rq [0xC4, 4, 60, 0]).u8 2 = 1280 ∧ zeros (rq [15, 0, 0, 0]) 1 3 = true := by decide

theorem test_wit_EntryReports : (rq [0x62, 4, 30, 0]).u16 0 + 30 = 1152 ∧ (rq [4, 20, 0, 0]).u8 0 + 20 = 24
    ∧ serveOk (rq [7, 0, 0, 0]) { base with prot.supplies := [{ id := 7, table := default }] } = true
    ∧ ([{ id := 7, table := default }] : List Supply).find? (fun y => y.id == (rq [7, 0, 0, 0]).u16 0)
        = some { id := 7, table := default } := by decide

/-- A graph with one MIXER node and one METER node of one input. -/
def twoNodes : Image :=
  { id := 1, frame := 5, fhMask := 1, banks := 0, crc := 0, edges := []
    nodes := [{ type := 3, prio := 0, nin := 1, nout := 1, param := [1, 2, 3, 4], region := 0, ofs := 0, stateLen := 0 },
      { type := 12, prio := 0, nin := 1, nout := 0, param := [], region := 0, ofs := 0, stateLen := 0 }] }

theorem test_wit_ConditionalReports :
    (let s := onDrv 23 (fun p => { p with load := some (List.replicate 32 0) }) base
     presentEntry s 23 = some (List.replicate 32 0) ∧ drvLoop s 23 = 0 ∧ (loadEntry s 23).isSome = true
      ∧ serveOk (rq [23, 0, 0, 0]) s = true)
    ∧ presentEntry base 23 = none
    ∧ (let s := onRx 1 (fun r => { r with status := some [1], user := some [2] }) base
       (rxOf s 1).status = some [1] ∧ (rxOf s 1).user = some [2]) ∧ (rxOf base 1).status = none
    ∧ vget base.svc.results 15 = none
    ∧ (let s := { base with svc.results := vset base.svc.results 15 (some { result := 0 }) }
       vget s.svc.results 15 = some { result := 0 } ∧ serveOk (rq [15, 0, 0, 0]) s = true)
    ∧ (let q := rq [0, 0, 0, 0, 3, 0, 0, 0, 1, 0, 0, 0]
       q.len = 12 ∧ q.u16 8 = 1 ∧ q.u32 4 + q.u16 8 ≤ (nodeAt twoNodes (q.u16 0)).param.length
        ∧ zeros q 2 2 = true ∧ zeros q 10 2 = true)
    ∧ (nodeAt twoNodes ((rq [1, 0, 0, 0]).u16 0)).type = 12
    ∧ (let s := { base with mic.hist := .opened, mic.served := 0, mic.relockAt := 1, mic.nextIndex := 40000 }
       let q := rq [0x40, 0x1F, 0, 0, 30, 0, 0, 0]
       streamOpen s 0 = true ∧ oldestInstant s ≤ q.u32 0 ∧ q.u32 0 + q.u8 4 ≤ writeIndex s ∧ serveOk q s = true)
    ∧ streamOpen base 0 = false := by decide

theorem test_wit_SlotAccess : portsLive base = true ∧ (portOf base 3).ptrSlot = false ∧ (portOf base 3).reqBusy = false
    ∧ (let s := { base with mic.hist := .opened, mic.served := 2, mic.relockAt := 1, mic.stream := [5] }
       portsLive s = true ∧ streamOpen s 2 = true ∧ s.mic.stream = [5] ∧ streamOpen s 3 = false)
    ∧ (portOf (onPort 3 (fun p => { p with ptrSlot := true }) base) 3).ptrSlot = true := by decide

theorem test_wit_Doorbells :
    (let s := { base with own.inbox := [(0, 1)] }
     portsLive s = true ∧ (portOf s 1).reqBusy = false ∧ ∀ x ∈ s.own.inbox, x.1 = s.time.now ∧ x.2.val ≤ 1)
    ∧ (let s := onPort 1 (fun p => { p with reqBusy := true, rspReady := true }) base
       (portOf s 1).reqBusy = true ∧ (portOf s 1).rspReady = true ∧ (portOf s 1).heldRsp = none ∧ portsLive s = true)
    ∧ (let r : Resp := { code := 0x200, seq := 1, flags := 0, status := .ok, payload := [] }
       (portOf (onPort 1 (fun p => { p with rspReady := true, heldRsp := some r }) base) 1).heldRsp = some r) := by decide

theorem test_wit_PageResets :
    (let s := onPort 2 (fun p => { p with resetWait := true }) base
     (portOf s 2).reqBusy = false ∧ (portOf s 2).resetWait = true ∧ portsLive s = true)
    ∧ (portOf (onPort 2 (fun p => { p with reqBusy := true }) base) 2).reqBusy = true
    ∧ base.boot.life = .firmware ∧ base.own.owner = some 0 := by decide

theorem test_wit_OwnershipCommands :
    (rq [0x10, 0x27, 0, 0]).u16 0 = 10000 ∧ (rq [100, 0, 0, 0]).u16 0 = 100 ∧ serveOk (rq [100, 0, 0, 0]) base = true
    ∧ (rq [3, 0, 0, 0]).u8 0 = (3 : Fin 4).val ∧ base.own.handover = none ∧ zeros (rq [3, 0, 0, 0]) 1 3 = true := by decide

theorem test_wit_OwnershipAccept :
    ∃ (q : Req) (s : State) (h : Handover), CanServe q s ∧ Awake s ∧ s.own.handover = some h ∧ h.target = q.m
      ∧ s.own.owner = some 1 ∧ (1 : Fin 4) ≠ q.m ∧ q.u8 0 = (1 : Fin 4).val ∧ zeros q 1 3 = true ∧ q.len = 4 := by
  refine ⟨rq [1, 0, 0, 0], { base with own.owner := some 1, own.handover := some { target := 0, due := 1, cid := 0 } },
    { target := 0, due := 1, cid := 0 }, ⟨rfl, ⟨rfl, Or.inl rfl, ?_⟩, by decide, by decide, by decide, by decide, rfl,
      by decide⟩, ⟨rfl, by decide⟩, rfl, rfl, rfl, by decide, by decide, by decide, by decide⟩
  rintro h ⟨⟩
  decide

theorem test_wit_OwnershipWindows :
    (let s := onPort 3 (fun p => { p with claim := true }) { base with own.owner := none, own.claimEnd := some 5, time.now := 5 }
     s.own.claimEnd = some 5 ∧ s.time.now = 5 ∧ s.own.owner = none ∧ s.own.handover = none ∧ (portOf s 3).claim = true
      ∧ (∀ k : Fin 4, k ≠ 3 → (portOf s k).claim = false) ∧ s.pwr.asleep = none)
    ∧ (let s := { base with own.hbPeriod := 100, own.hbDue := 7, time.now := 7 }
       runsOk s = true ∧ s.own.owner = some 0 ∧ s.own.hbDue ≤ s.time.now ∧ (∀ k : Fin 4, k ≠ 0 → (portOf s k).claim = false))
    ∧ (let s := { base with own.handover := some { target := 1, due := 9, cid := 0 }, time.now := 9 }
       s.own.handover = some { target := 1, due := 9, cid := 0 } ∧ s.pwr.asleep = none)
    ∧ (let s := { base with own.claimEnd := some 5, time.now := 4 }; s.own.claimEnd = some 5 ∧ s.time.now < 5) := by decide

theorem test_wit_ClaimWrites : portsLive base = true ∧ base.own.claimEnd = none ∧ (0x80000003 : Word).getLsbD 31 = true
    ∧ base.own.owner = some 0 ∧ (∀ k : Fin 4, (portOf base k).claim = false)
    ∧ serveOk (rq []) base = true := by decide

/-! ### Witnesses: events, clocks, analog, microphones -/

/-- The part runs with ASYN and CSYN locked. -/
def locked : State := { base with clk.asyn := .locked, clk.csyn := .locked, clk.edge := true }

theorem test_wit_EventRouting :
    (let q := rq [255, 0, 1, 0, 0x10, 0, 0xB8, 0]
     serveOk q base = true ∧ q.u16 0 + q.u8 2 = 256 ∧ q.len = 4 + 4 * q.u8 2 ∧ ∀ k < q.u8 2, routeWordOk base (q.u32 (4 + 4 * k)) = true)
    ∧ (rq [7, 23, 3, 9]).u8 1 = (23 : Fin 24).val ∧ gpioOutUse base 23 = false ∧ (rq [7, 0xFF, 0, 0]).u8 1 = 0xFF
    ∧ (let s := { base with ev.hirqPulse := vset base.ev.hirqPulse 1 (some 3), time.now := 3 }; vget s.ev.hirqPulse 1 = some 3)
    ∧ (let s := { base with ev.gpioPulse := vset base.ev.gpioPulse 23 (some 3), time.now := 3 }
       vget s.ev.gpioPulse 23 = some 3 ∧ 3 ≤ s.time.now) := by decide

/-- The debounce window of an edge to high whose end is tu 4. -/
def edgeWin : SlotWindow := { start := 0, epoch := 0, born := 0, heldAt := 0, level := true, due := 4 }

theorem test_wit_GpioEdges : base.ev.gpioIn.getLsbD 5 ≠ true ∧ runsOk base = true ∧ base.time.held = false
    ∧ (∀ n < 8, (vget base.ev.slots n).window = none)
    ∧ (let s := { base with ev.slots := vset base.ev.slots 7 { gpio := some 5, edge := 1, window := some edgeWin }, time.now := 4 }
       (vget s.ev.slots 7).gpio = some 5 ∧ (vget s.ev.slots 7).window = some edgeWin ∧ edgeWin.due ≤ s.time.now
        ∧ (vget s.ev.slots 7).edge.testBit 0 = true ∧ swPtt s ≠ 7 ∧ runsOk s = true)
    ∧ (let s := { base with ev.slots := vset base.ev.slots 7 { gpio := some 5, edge := 2, window := some edgeWin }, time.now := 4 }
       (vget s.ev.slots 7).edge.testBit 0 = false) := by decide

/-- A record that has been held 64 tu. -/
def oldRecord : Record := { ev := 224, arg := 0, epoch := 0, time := 0, masters := 3 }

theorem test_wit_RecordRelease :
    (let s := onPort 1 (fun p => { p with queue := List.replicate 64 oldRecord })
       { base with ev.held := [oldRecord], time.now := 64 }
     runsOk s = true ∧ s.ev.held = [oldRecord] ∧ s.time.held = false ∧ oldRecord.born + 64 ≤ s.time.now
      ∧ (∀ n < 8, (vget s.ev.slots n).window = none) ∧ mergeable oldRecord.ev = false
      ∧ oldRecord.masters.testBit 0 = true ∧ oldRecord.masters.testBit 2 = false ∧ (portOf s 0).queue.length < 64
      ∧ (portOf s 1).queue.length = 64) := by decide

theorem test_wit_ClockCommands : serveOk (rq [0, 0, 0, 0]) locked = true ∧ (rq [0, 0, 0, 0]).u8 0 = locked.clk.ref
    ∧ locked.clk.famCheck = none ∧ locked.clk.familyChange = false ∧ locked.clk.cid = none ∧ locked.clk.rebased = none
    ∧ serveOk (rq [0, 2, 0, 0]) { locked with clk.ref := 16 } = true
    ∧ (let q := rq [3, 1, 0, 16, 255, 15, 63, 0]
       q.u8 0 = 3 ∧ q.u8 1 = 1 ∧ q.u16 2 = 4096 ∧ q.u16 4 = 4095 ∧ q.u8 6 = 63 ∧ zeros q 7 1 = true ∧ serveOk q locked = true)
    ∧ (outOf locked 3).on = false ∧ (outOf locked 3).start = none
    ∧ (rq [1, 0, 0, 0]).u8 0 = fhCode locked ∧ fhCode locked % 2 ≠ b2n (famOf locked)
    ∧ (let s := { locked with fab.page0A00 := Page.put locked.fab.page0A00 24 2 0 }
       (rq [0, 0, 0, 0]).u8 0 = fhCode s ∧ fhCode s % 2 = b2n (famOf s)) := by decide

theorem test_wit_AsynLoop :
    (let s := { locked with clk.asyn := .measuring, clk.measureDue := 4, time.now := 4 }
     runsOk s = true ∧ s.clk.measureDue ≤ s.time.now ∧ s.clk.newWord = none ∧ s.clk.famCheck = none
      ∧ refMeets (famOf s) 47952 (-1000000) = true)
    ∧ (let s := { locked with clk.asyn := .search, clk.target := 16, clk.attempts := 1 }
       s.clk.rejoinRef = none ∧ s.clk.newWord = none ∧ s.clk.attempts + 1 < 3 ∧ runsOk s = true)
    ∧ (let s := { locked with clk.asyn := .search, clk.target := 16, clk.attempts := 2 }
       s.clk.target ≠ 0 ∧ s.clk.attempts = 2 ∧ runsOk s = true)
    ∧ (let s := { locked with clk.ref := 16 }; s.clk.asyn = .locked ∧ s.clk.ref ≠ 0)
    ∧ (let s := { locked with clk.asyn := .coasting, clk.lost := true, time.now := 24576 }
       s.clk.cid = none ∧ s.clk.lost = true ∧ s.clk.lostFrom + 24576 ≤ s.time.now ∧ runsOk s = true
        ∧ refMeets (famOf s) 47952 (-1000000) = true)
    ∧ (let s := { locked with clk.asyn := .coasting, clk.returning := true, clk.measureDue := 4, time.now := 4 }
       s.clk.returning = true ∧ s.clk.measureDue ≤ s.time.now ∧ 1 < (phaseReduce (alignPeriod s) (-2)).natAbs
        ∧ runsOk s = true)
    ∧ (let s := { locked with clk.asyn := .rejoining, clk.alignDue := 4, time.now := 4 }
       s.clk.famCheck = none ∧ s.clk.alignDue ≤ s.time.now) := by decide +kernel

theorem test_wit_CsynLoop : runsOk locked = true ∧ locked.pwr.change = none
    ∧ (let s := { locked with clk.csyn := .search, clk.csynAttempts := 1 }
       s.clk.waitCsyn = false ∧ s.clk.csynFell = false ∧ s.clk.csynAttempts + 1 < 3)
    ∧ (let s := onOut 3 (fun o => { o with on := true, stopping := true }) locked
       (outOf s 3).on = true ∧ (outOf s 3).stopping = true ∧ (outOf s 3).start = none ∧ (outOf s 3).word = none)
    ∧ (let s := onOut 3 (fun o => { o with start := some 7 }) locked; (outOf s 3).on = false ∧ (outOf s 3).start = some 7
        ∧ (outOf s 3).stopping = false ∧ (outOf s 3).due ≤ s.time.now ∧ s.clk.asyn = .locked ∧ s.clk.edge = true ∧ runsOk s = true) := by decide

theorem test_wit_CrystalFailure : locked.clk.xtal = true
    ∧ (let s := { locked with clk.xtal := false, clk.xtalFailed := true, time.held := true }
       runsOk s = true ∧ s.clk.xtal = false ∧ s.clk.rebased = none ∧ 24551424 ≤ 24600576)
    ∧ (let s := { locked with fab.fhChange := some { target := 1, step := 3, cid := none } }
       s.fab.fhChange = some { target := 1, step := 3, cid := none } ∧ s.clk.asyn = .locked ∧ runsOk s = true
        ∧ s.gra.paused = false)
    ∧ (let s := { locked with fab.fhChange := some { target := 1, step := 3, cid := none }, gra.paused := true
                              gra.pause := 2 ^ causeFh }
       s.gra.paused = true ∧ graphFits s = true ∧ s.gra.pause = 2 ^ causeFh ∧ runsOk s = true) := by decide

theorem test_wit_AnalogCommands :
    (let q := rq [3, 1, 84, 3, 0, 0, 0, 0]
     serveOk q base = true ∧ q.u8 0 = 3 ∧ q.u8 2 = 84 ∧ q.u8 3 = 3 ∧ rateInFamily (famOf base) (q.u8 4) = true
      ∧ zeros q 5 3 = true ∧ (lineOf base 3).running = false)
    ∧ ((rq [8, 0, 1, 0]).u16 0 = 2 ^ 3 ∧ base.pwr.shut = false ∧ (fnOf base 3).st = .off
      ∧ closedO base.ana.holdEnd base = false
      ∧ ∀ j < 9, closedO (fnOf base j).due base = false)
    ∧ (rq [1, 10, 0, 0]).u8 1 = 10
    ∧ (lineOf (onLine 3 (fun l => { l with running := true }) base) 3).running = true := by decide

theorem test_wit_JackCommands : serveOk (rq [1, 1, 0, 0]) base = true ∧ (rq [1, 2, 0, 0]).u8 1 = 2
    ∧ (jackOf base 1).select = none
    ∧ (let s := onFn 5 (fun f => { f with st := .on, stage := 0x20 }) (onFn 4 (fun f => { f with st := .on, stage := 0x20 }) base)
       (∀ i, i = 4 ∨ i = 5 → (fnOf s i).st = .on ∧ (fnOf s i).stage = 0x20 ∧ (fnOf s i).due = none) ∧ s.ana.measure = none ∧ s.ana.holdEnd = none ∧ serveOk (rq []) s = true) := by
  refine ⟨by decide, by decide, by decide, ?_, rfl, rfl, by decide⟩
  rintro i (rfl | rfl) <;> decide

theorem test_wit_AnalogEvents :
    (let s := onFn 3 (fun f => { f with st := .starting, stage := 0x14, due := some 4 }) { base with time.now := 4 }
     (fnOf s 3).st = .starting ∧ (fnOf s 3).stage = 0x14 ∧ (fnOf s 3).due = some 4 ∧ runsOk s = true)
    ∧ (let s := onFn 8 (fun f => { f with st := .on }) (onFn 6 (fun f => { f with st := .on }) (onFn 5 (fun f => { f with st := .on }) base))
       (fnOf s 8).st = .on ∧ (fnOf s 8).toHeld = false ∧ (fnOf s 6).st = .on ∧ (fnOf s 5).st = .on
        ∧ s.ana.measure = none)
    ∧ (let s := onFn 4 (fun f => { f with st := .on })
         { base with ana.measure := some { step := 2, wasOn := true, due := some 4, cid := none }, ana.holdEnd := some 4, time.now := 4 }
       s.ana.holdEnd = some 4 ∧ (fnOf s 4).st = .on ∧ (fnOf s 5).st ≠ .starting ∧ runsOk s = true)
    ∧ (let s := onLine 3 (fun l => { l with running := true, gain := 1, target := 2, stepEnd := some 4 }) { base with time.now := 4 }
       (lineOf s 3).stepEnd = some 4 ∧ (lineOf s 3).gain < (lineOf s 3).target ∧ (lineOf s 3).running = true
        ∧ (lineOf s 3).quietTo = none ∧ hallRuns s hANA = true ∧ s.pwr.asleep = none)
    ∧ (let s := onLine 3 (fun l => { l with rampEnd := some 4 }) { base with time.now := 4 }
       (lineOf s 3).rampEnd = some 4 ∧ (lineOf s 3).again = false) := by decide

/-- Both jack detectors are enabled. -/
def jacksOn : State := { base with ana.page0600 := Page.put (Page.put base.ana.page0600 31 1 1) 63 1 1 }

theorem test_wit_JackEvents : jackRuns jacksOn 1 = true ∧ (jackOf jacksOn 1).window = none ∧ hallRuns jacksOn hCTRL = true
    ∧ (let s := onJack 1 (fun j => { j with window := some (4, jdPol jacksOn 1), timerEnd := some 4, present := true }) { jacksOn with time.now := 4 }
       jackRuns s 1 = true ∧ (jackOf s 1).window = some (4, jdPol jacksOn 1) ∧ plugAt s 1 (jdPol jacksOn 1) = true
        ∧ (jackOf s 1).timerEnd = some 4)
    ∧ (let s := onJack 1 (fun j => { j with present := true }) { jacksOn with time.now := 24576 }
       jackRuns s 1 = true ∧ devTime s % 24576 = 0 ∧ (jackOf s 1).useUser = false ∧ (jackOf s 1).select = none
        ∧ (jackOf s 1).state = 0 ∧ (jackOf s 1).present = true ∧ s.pwr.asleep = none ∧ (jackOf s 0).window = none
        ∧ (jackOf s 1).window = none ∧ (jackOf s 1).timerEnd = none)
    ∧ hpCtrl jacksOn ≠ 2 ∧ hpCtrl { jacksOn with ana.page0501 := Page.put jacksOn.ana.page0501 32 2 2 } = 2 := by decide

/-- Speedwell works, and 160 instants of its frame stand in the history. -/
def listening : State := { base with
  mic.page0800 := Page.put base.mic.page0800 31 1 1, mic.clk0 := 1, time.now := 245760
  mic.running := List.replicate 160 (0 : BitVec 64) }

theorem test_wit_MicrophoneCommands :
    (serveOk (rq [0, 128, 1, 0]) base = true ∧ (rq [0, 128, 1, 0]).u16 0 = 2 ^ 15 ∧ (micOf base 15).st = .off)
    ∧ ((rq [1, 30, 60, 0]).u8 1 = 30 ∧ (rq [1, 3, 1, 0]).u8 1 = 3 ∧ base.mic.mute = false ∧ swEn base = false
      ∧ base.mic.hist ≠ .opened ∧ base.mic.late0700 = none)
    ∧ (let s := { base with mic.hist := .opened, mic.relockAt := 1 }
       serveOk (rq []) s = true ∧ s.time.now < s.mic.relockAt) := by decide

theorem test_wit_ListeningEvents : runsOk listening = true ∧ swRuns listening = true
    ∧ listening.mic.clk0 ≠ 0 ∧ 160 ≤ listening.mic.running.length ∧ listening.mic.hangs = []
    ∧ (let s := { listening with mic.hangs := [(0, 245761)] }; ∃ w ∈ s.mic.hangs, s.time.now < w.2)
    ∧ (let s := { listening with mic.wantOpen := some (0, 0) }
       s.mic.hist = .locked ∧ s.boot.ready = true ∧ s.mic.wantOpen = some (0, 0))
    ∧ (let s := { listening with mic.hist := .opened, mic.relockAt := 245760, mic.nextIndex := 160 }
       s.mic.relockAt ≤ s.time.now ∧ s.mic.stream = [] ∧ cdiv (oldestInstant s) 160 * 160 ≤ s.mic.nextBlock
        ∧ s.mic.nextBlock + 160 ≤ s.mic.nextIndex)
    ∧ (let s := { listening with mic.hist := .erasing }; s.mic.hist = .erasing) := by decide

theorem test_wit_MicrophoneEvents :
    (let s := onMic 15 (fun m => { m with st := .starting, due := some 4 })
       { base with time.now := 4, mic.page0700 := Page.put base.mic.page0700 31 1 1 }
     micClocked s 15 = true ∧ (micOf s 15).st = .starting ∧ (micOf s 15).due = some 4 ∧ runsOk s = true)
    ∧ (let s := onMic 3 (fun m => { m with st := .running, watch := true }) listening
       micWatched s 3 = true ∧ micClocked s 3 = true ∧ (micOf s 3).st = .running ∧ (faultOf s 1 3).st = .normal
        ∧ (faultOf s 1 3).windowEnd = none)
    ∧ (base.mic.mute = false ∧ base.svc.sorrel = none)
    ∧ (let s := { base with mic.mute := true, mic.muteRelease := some 4, time.now := 4 }
       s.mic.muteRelease = some 4 ∧ s.mic.mute = true ∧ runsOk s = true)
    ∧ ((listening.time.now - listening.mic.frameStart) % 1536 = 0 ∧ clk0Want listening ≠ 0) := by decide

/-! ### Witnesses: filters, routes, landings, lanes, digital ports -/

theorem test_wit_FilterCommands : trimChain 97 = true ∧ (chainOf base 97).retired = false ∧ (chainOf base 97).wait = none
    ∧ (chainOf base 97).fade = none ∧ (chainOf base 97).resetAt = none ∧ (idleBank (chainOf base 97)).st = .ready
    ∧ serveOk (rq [97, 0, 0, 0, 0, 0, 0, 0, 5]) base = true
    ∧ (let q := rq [97, 7, 0, 0, 100, 0, 0, 0, 240, 0, 100, 0]
       q.u8 1 = 7 ∧ q.u32 4 < 49 * chainHz base 97 ∧ withinI (-240) 240 (q.i16 8) = true ∧ q.u16 10 = 100)
    ∧ ((rq [97, 0, 255, 63]).u16 2 = 16383 ∧ (chainOf base 97).delayFade = none)
    ∧ (let q := rq [97, 0, 0, 0, 1, 0, 0, 0, 0, 0, 0, 0]
       devTime base < q.u64 4 ∧ q.u64 4 ≤ devTime base + 1474560000 ∧ base.time.start ≤ base.time.now)
    ∧ (let q := rq ([1] ++ List.replicate 23 0)
       q.len = 24 ∧ syncMask q = 2 ^ 0 ∧ q.u64 16 = 0 ∧ trimChain 0 = true
        ∧ (chainOf (onChain 0 (fun k => { k with resetAt := some 0 }) base) 0).resetAt.isSome = true) := by decide

/-- A tick of every rate made from ASYN, 1,000 frames of 32 tu after the aligned base tick. -/
def onTicks : State := { locked with time.now := 245760 }

theorem test_wit_FilterEvents :
    (let s := onChain 97 (fun k => { k with
        resetAt := some 0, count := 64, dPrime := 24, sPrime := 40, wait := some ⟨0, 512, false, none, true⟩ }) onTicks
     (chainOf s 97).settled = false ∧ chainReached s 97 ((chainOf s 97).dPrime + (chainOf s 97).sPrime) = true
      ∧ chainReached s 97 65 = false ∧ (chainOf s 97).wait = some ⟨0, 512, false, none, true⟩ ∧ 512 ≤ s.time.now
      ∧ chainReady s 97 = true ∧ s.pwr.asleep = none)
    ∧ (let s := onChain 97 (fun k => { k with
        resetAt := some 0, fade := some ⟨2, 1, true, true, 0, none, 0, 0, true⟩, delayFade := some ⟨63, 0, none⟩ }) onTicks
       (chainOf s 97).fade = some ⟨2, 1, true, true, 0, none, 0, 0, true⟩ ∧ chainTick s 97 = true
        ∧ (chainOf s 97).delayFade = some ⟨63, 0, none⟩ ∧ (chainOf s 97).delayHeld = none)
    ∧ (let s := onChain 97 (fun k => { k with
        resetAt := some 0, fade := some ⟨2, 0, true, false, 1, none, 0, 0, true⟩ }) onTicks
       (chainOf s 97).fade = some ⟨2, 0, true, false, 1, none, 0, 0, true⟩ ∧ chainTick s 97 = true)
    ∧ (let s := onChain 97 (fun k => { k with resetAt := some 0 }) { onTicks with
        flt.syncs := [{ mask := 2 ^ 97, at_ := 0, late := false, cid := 0 }] }
       (chainOf s 97).resetAt.isSome = true ∧ (chainOf s 97).fade = none ∧ chainTick s 97 = true) := by decide

theorem test_wit_FilterSamples :
    (let s := onChain 4 (fun k => { k with resetAt := some 0, count := 64, dPrime := 24, sPrime := 40 }) onTicks
     let k := chainOf s 4
     k.dPrime ≤ k.count ∧ chainOpen s 4 = true ∧ isInterp 4 = false ∧ isSense 4 = false ∧ k.fade = none ∧ k.delayFade = none
      ∧ k.bankA.st = .active ∧ imgNbq k.bankA.image = 0 ∧ firTaps s 4 k.bankA.image = 0 ∧ chainDelayInt s 4 = 0)
    ∧ (let s := onChain 4 (fun k => { k with page := Page.put k.page 16 8 255 }) onTicks
       (chainOf s 4).count < 1 ∧ chainDelayInt s 4 = 254 + 1)
    ∧ (let s := onChain 84 (fun k => { k with resetAt := some 0, whole := true, late := some ⟨2 ^ 63, none⟩ }) onTicks
       (chainOf s 84).late = some ⟨2 ^ 63, none⟩ ∧ (chainOf s 84).resetAt.isSome = true ∧ (chainOf s 84).whole = true)
    ∧ (chainOf base 84).late = none ∧ ({} : Chain).cal = 0 := by decide +kernel

theorem test_wit_RouteCommands :
    (let q := rq [0x7F, 4, 0xFF, 0xFF, 0, 128, 0xFF, 0xFF]
     serveOk q base = true ∧ q.u16 0 = 1151 ∧ srcOk (q.u16 2) = true ∧ gainOk (q.i16 4) = true ∧ q.u16 6 = 0xFFFF
      ∧ routeRetired base q = false ∧ gainJob base 1151 = none ∧ (targetOf base 1151).wait = none)
    ∧ (let q := rq [0x7F, 4, 255, 0, 0xE0, 1, 0, 0]; srcOk (q.u16 2) = true ∧ q.i16 4 = 480 ∧ zeros q 6 2 = true)
    ∧ ((rq [0xFF, 4, 0xA0, 0xF6]).u16 0 = 1279 ∧ gainOk ((rq [0xFF, 4, 0xA0, 0xF6]).i16 2) = true ∧ gainRetired base 1279 = false)
    ∧ (let s := { base with fab.gainJobs := [{ index := 1279, goal := 3, due := 9, cid := none }] }
       gainJob s 1279 = some { index := 1279, goal := 3, due := 9, cid := none }) := by decide

theorem test_wit_RouteGain : gainStored base 1279 = 0 ∧ (rq [0xFF, 4, 0, 0]).i16 2 = 0 := by
  constructor
  · simp [gainStored, base, State.reset, vget]
  · decide

/-- A line input runs, a line output is ON, a receiver gives PCM. -/
def audible : State :=
  onRx 0 (fun r => { r with st := .pcm, rate := some 7 })
    (onLine 0 (fun l => { l with running := true }) (onFn 0 (fun f => { f with st := .on }) locked))

theorem test_wit_LandingAndLaneCommands :
    (let q := rq ([3, 1, 0, 1, 1, 0, 0, 0] ++ [100, 0, 0, 0, 0, 0, 0, 0])
     serveOk q audible = true ∧ q.u8 0 = 3 ∧ q.len = 16 ∧ zeros q 5 3 = true ∧ zeros q (8 + q.u8 4) (8 - q.u8 4) = true
      ∧ landConfigOk audible (q.u8 2 == 1) ((List.range (q.u8 4)).map (fun i => q.u8 (8 + i))) = true
      ∧ (∀ j < 4, landHas (landOf audible j) false 100 = false) ∧ sourceRetired audible 100 = false ∧ (landOf audible 3).cid = none)
    ∧ (let q := rq [0, 255, 136, 1, 8, 7, 0, 0]
       serveOk q base = true ∧ q.u8 0 + q.u8 1 ≤ 256 ∧ q.i8 2 = -120 ∧ q.u16 4 = 1800 ∧ zeros q 6 2 = true)
    ∧ (let q := rq [7, 1, 0, 0, 0, 0, 1, 0]
       serveOk q audible = true ∧ gainOk (q.i16 4) = true ∧ zeros q 7 1 = true ∧ lanePoints (q.u8 2) (q.u8 3) = true
        ∧ lanesAt audible 7 (q.u8 3) < 2 ∧ sourceRetired audible (q.u8 2) = false ∧ sinkRetired audible (q.u8 3) = false
        ∧ laneLive (laneOf audible 7) = false ∧ (laneOf audible 7).ramp = none
        ∧ laneEnds audible (q.u8 2) (q.u8 3) = true ∧ laneEnds base (q.u8 2) (q.u8 3) = false)
    ∧ laneLive (laneOf (onLane 7 (fun l => { l with st := .running }) audible) 7) = true := by decide +kernel

theorem test_wit_RouteEvents :
    (let s := onTarget 1151 (fun x => { x with wait := some ⟨none, 0, 0, 0, none⟩ }) { base with gra.lastBoundary := some 1 }
     (targetOf s 1151).wait = some ⟨none, 0, 0, 0, none⟩ ∧ (targetOf s 1151).fade = none ∧ boundarySince 0 s = true
      ∧ runsOk s = true)
    ∧ (let s := onTarget 1151 (fun x => { x with fade := some ⟨1, 0, none, 0, none, 0⟩ }) base
       (targetOf s 1151).fade = some ⟨1, 0, none, 0, none, 0⟩ ∧ 0 + samplesTu (fhHz s) (1 - 1) ≤ s.time.now)
    ∧ (let s := { onTicks with fab.gainJobs := [{ index := 1287, goal := 3, due := 245761, cid := none }] }
       gainJob s 1287 = some { index := 1287, goal := 3, due := 245761, cid := none } ∧ s.time.now < 245761
        ∧ gainTick s 1287 = true ∧ gainCross s 1287 (gainInput s 1287) = true)
    ∧ (let s := onTarget 127 (fun x => { x with src := some 191 }) { onTicks with
        fab.src := vset base.fab.src 191 { v := 5, valid := true, settled := true }
        fab.gainJobs := [{ index := 127, goal := 3, due := 245761, cid := none }] }
       gainJob s 127 = some { index := 127, goal := 3, due := 245761, cid := none } ∧ gainTick s 127 = true
        ∧ gainCross s 127 (gainInput s 127) = false)
    ∧ (let s := { onTicks with fab.gainJobs := [{ index := 1279, goal := 3, due := 0, cid := none }] }
       gainJob s 1279 = some { index := 1279, goal := 3, due := 0, cid := none } ∧ 0 ≤ s.time.now ∧ gainTick s 1279 = true)
    ∧ (let s := { base with
        fab.gainJobs := [{ index := 1287, goal := 3, due := 0, ramp := some (0, none), cid := none }], time.now := 32768 }
       gainJob s 1287 = some { index := 1287, goal := 3, due := 0, ramp := some (0, none), cid := none }
        ∧ 0 + samplesTu (rampHz s 1287) (rampLen 1287) ≤ s.time.now)
    ∧ (let s := { base with fab.mixClip := 1 <<< 63 }
       s.fab.mixClip.getLsbD (63 : Fin 64).val = true ∧ s.fab.clipQuiet[63] ≤ s.time.now
        ∧ s.time.now < ({ s with fab.clipQuiet := Vector.replicate 64 1 } : State).fab.clipQuiet[63])
    ∧ base.fab.mixClip.getLsbD (63 : Fin 64).val = false := by decide +kernel

/-- Sink 127 takes point 191 at 0 dB, sink 126 nothing, and the microphones are muted. -/
def routed : State := onTarget 127 (fun x => { x with src := some 191 }) { base with
  fab.src := vset base.fab.src 191 { v := 2 ^ 31 - 1, valid := true, settled := true }, mic.mute := true }

theorem test_wit_FabricSamples : (targetOf routed 127).fade = none ∧ (targetOf routed 127).src = some 191
    ∧ (vget routed.fab.src 191).valid = true ∧ routed.fab.gainJobs = [] ∧ (targetOf routed 126).src = none
    ∧ (vget base.fab.src 191).valid = false ∧ (∀ i < 16, (targetOf routed (128 + 16 * 63 + i)).src = none)
    ∧ routed.mic.mute = true ∧ sourceOpen routed 19 = true ∧ sourceOpen routed 4 = true ∧ pointHome routed false 19 = true := by decide +kernel

theorem test_wit_FabricGains : gainNow base 127 = 0 ∧ gainNow base (1152 + 127) = 0 := by
  constructor <;> simp [gainNow, gainJob, gainStored, base, State.reset, vget]

theorem test_wit_LandingAndLaneEvents :
    (let page : BitVec 96 := BitVec.ofNat 96 (2 ^ 31 + 2 ^ 24 + 100 * 2 ^ 32)
     let s := onLand 3 (fun l => { l with page := page, st := .acquiring, cid := some (0, 0) }) audible
     runsOk s = true ∧ (landOf s 3).st = .acquiring ∧ landClock s (landOf s 3) = true
      ∧ landConfigOk s (landOut (landOf s 3)) (landChans (landOf s 3)) = true ∧ hallsOpen 8 s = true
      ∧ (landOf s 3).cid = some (0, 0) ∧ landAsync s (landOf s 3) = true ∧ (landOf s 3).fall = 0)
    ∧ (let s := onLand 3 (fun l => { l with page := BitVec.ofNat 96 (2 ^ 31 + 2 ^ 24 + 100 * 2 ^ 32), st := .locked }) audible
       (landOf s 3).st = .locked ∧ landAsync s (landOf s 3) = true ∧ ((7 : Int) - (landOf s 3).mark).natAbs ≤ 100000
        ∧ 100000 < ((100001 : Int) - (landOf s 3).mark).natAbs)
    ∧ (let s := onSilence 254 (fun x => { x with quietAt := some 0 }) { base with time.now := 245760000 }
       (silenceOf s 254).silent = false ∧ (silenceOf s 254).quietAt = some 0
        ∧ 0 + 24576000 * (silenceOf s 254).hold ≤ s.time.now)
    ∧ (let s := onSilence 191 (fun x => { x with silent := true, quietAt := some 0, thresh := -40, hold := 11 }) { base with
        time.now := 245760000, fab.src := vset base.fab.src 191 { v := -(2 ^ 31), valid := true, settled := true } }
       (silenceOf s 191).silent = true ∧ (vget s.fab.src 191).valid = true
        ∧ 2 ^ 620 ≤ (vget s.fab.src 191).v.natAbs ^ 20 * 10 ^ (-(silenceOf s 191).thresh).toNat
        ∧ ((List.range 256).all (fun j => match (silenceOf s j).quietAt with
            | some d => decide (s.time.now < d + 24576000 * (silenceOf s j).hold)
            | none => true)) = true)
    ∧ (let s := { audible with fab.page0A10 := Page.put audible.fab.page0A10 (64 * 7 + 31) 1 1 }
       laneEn s 7 = true ∧ laneMayStart s 7 = true)
    ∧ (let s := onLane 7 (fun l => { l with ramp := some (.stop true, 0) }) base
       (laneOf s 7).ramp = some (.stop true, 0) ∧ 0 ≤ s.time.now) := by decide +kernel

/-- A format of two slots at 48 kHz. -/
def twoSlots : TdmFormat := { framing := 0, slots := 2, slotBits := 32, dataBits := 24, rate := 7, flags := 0, width := 0 }

theorem test_wit_TdmAndSpdifCommands :
    (let s := onTdm 5 (fun p => { p with formats := List.replicate 8 twoSlots }) locked
     serveOk (rq [5, 1, 1, 7]) s = true ∧ (rq [5, 1, 1, 7]).u8 3 < (tdmOf s 5).formats.length ∧ tdmIsRef s 5 = false
      ∧ (tdmOf s 5).st ≠ .retired ∧ tdmEn s 5 = false ∧ (rq [5, 1, 0, 7]).u8 2 = 0)
    ∧ (let q := rq [1, 1, 1, 1, 0, 5, 30, 0]; serveOk q base = true ∧ q.u8 5 = 5 ∧ q.u8 6 = 30 ∧ (rxOf base 1).st = .off)
    ∧ (serveOk (rq [1, 11, 2, 1]) base = true ∧ (rq [1, 5, 0, 0]).u8 1 = 5)
    ∧ ((rq (List.replicate 96 0)).len = 96 ∧ ((rq (List.replicate 96 0)).u8 24).testBit 1 = false ∧ outEn base = false
      ∧ outEn { base with tdm.page0D00 := Page.put base.tdm.page0D00 63 1 1 } = true) := by decide

theorem test_wit_TdmEvents :
    (let s := onTdm 5 (fun p => { p with newFormats := some [twoSlots], newMap := some [] }) base
     (tdmOf s 5).newFormats = some [twoSlots] ∧ (tdmOf s 5).newMap = some [] ∧ runsOk s = true)
    ∧ (let s := onTdm 5 (fun p => { p with page := Page.put p.page 31 1 1, st := .acquiring }) onTicks
       (tdmOf s 5).backoff = false ∧ tdmEn s 5 = true ∧ tdmMaster s 5 = false
        ∧ framesPassed s (tdmOf s 5).since (11 : Fin 12).val 64 = true)
    ∧ (let s := onTdm 5 (fun p => { p with page := 0, st := .running, errWindow := some (0, 2) }) { locked with clk.ref := 13 }
       tdmSlaveRuns s 5 = true ∧ (tdmOf s 5).errWindow = some (0, 2) ∧ s.time.now < 0 + 245760 ∧ tdmFaultEn s 5 = false
        ∧ tdmIsRef s 5 = true ∧ s.clk.asyn = .locked)
    ∧ (let s := onTdm 5 (fun p => { p with st := .running }) base
       tdmSlaveRuns s 5 = true ∧ (tdmOf s 5).errWindow = none ∧ tdmFaultEn s 5 = true ∧ (faultOf s 3 5).st = .normal
        ∧ (faultOf s 3 5).windowEnd = none) := by decide

/-- Channel status of an audio block, and of one whose bit 1 says that it is none. -/
def audioStatus : List Byte := List.replicate 48 1

theorem test_wit_SpdifEvents :
    (let s := onRx 1 (fun r => { r with st := .unlocked }) { onTicks with tdm.page0D00 := Page.put base.tdm.page0D00 15 1 1 }
     rxEn s 1 = true ∧ (rxOf s 1).st = .unlocked ∧ runsOk s = true
      ∧ rxRate (11 : Fin 12).val = true ∧ framesPassed s (rxOf s 1).since (11 : Fin 12).val 64 = true)
    ∧ (let s := onRx 1 (fun r => { r with st := .pcm, candidate := some audioStatus }) { locked with clk.ref := 15 }
       (rxOf s 1).st = .pcm ∧ s.clk.ref = 14 + 1 ∧ s.clk.asyn = .locked ∧ (rxOf s 1).candidate = some audioStatus
        ∧ audioStatus.length = 48 ∧ nonAudio audioStatus = false ∧ nonAudio (List.replicate 48 2) = true
        ∧ (rxOf s 1).status.map (fun x => x.take 24) ≠ some (audioStatus.take 24))
    ∧ (let s := onRx 1 (fun r => { r with st := .nonPcm, clean := true, rate := some 11 }) onTicks
       (rxOf s 1).st = .nonPcm ∧ (rxOf s 1).clean = true
        ∧ framesPassed { s with time.now := 24576000 } (rxOf s 1).since ((rxOf s 1).rate.getD 0) 4096 = true)
    ∧ (rxOf base 1).candidate = none
    ∧ (let s := { base with tdm.page0D00 := Page.put base.tdm.page0D00 63 1 1, tdm.outNext := some ([1], [0]), tdm.outState := 1, tdm.outValid := true }
       outEn s = true ∧ s.tdm.outNext = some ([1], [0]) ∧ s.tdm.outState ≠ 0 ∧ s.tdm.outValid = true)
    ∧ base.tdm.outNext = none ∧ base.tdm.outValid = false := by decide

theorem test_wit_SpdifExit : (exitSample base 62).valid = false ∧ (exitSample base 63).valid = false := by decide
/-- The bytes of a graph of one SOURCE node that takes point 0 in frames of 32 at Fh code 1. -/
def oneSource : List Byte :=
  [0x42, 0x4C, 0x47, 0x49, 1, 0, 0, 0, 104, 0, 0, 0, 0x05, 0x55, 0xB5, 0x13, 1, 0, 0, 2, 1, 0, 0, 0, 64, 0, 0, 0, 96, 0, 0, 0]
    ++ [96, 0, 0, 0, 8, 0, 0, 0, 1, 0, 0, 0] ++ List.replicate 20 0
    ++ [0, 0, 0, 1, 0, 0, 0, 0, 8, 0, 0, 0, 0, 0, 0, 0, 0, 0, 0, 0, 0, 0, 2, 0] ++ List.replicate 8 0
    ++ [1, 0, 0, 0, 0, 0, 0, 0]

/-- The image of `oneSource`. -/
def oneImage : Image :=
  { id := 1, frame := 0, fhMask := 2, banks := 1, crc := 0x13B55505, edges := []
    nodes := [{ type := 0, prio := 0, nin := 0, nout := 1, param := [1, 0, 0, 0, 0, 0, 0, 0], region := 0, ofs := 0, stateLen := 131072 }] }

theorem oneSource_read : readImage oneSource = oneImage := by decide +kernel

theorem oneImage_place : placeFail oneImage = none := by
  have h : Config.stateNeed 0 [1, 0, 0, 0, 0, 0, 0, 0] ≤ 131072 := by
    simp only [Config.stateNeed, if_true]
    omega
  have h0 : nodePlaceOk oneImage 0 (nodeAt oneImage 0) = true := by
    show ((if (131072 : Nat) = 0 then _ else true) && decide (Config.stateNeed 0 [1, 0, 0, 0, 0, 0, 0, 0] ≤ 131072) && _) = true
    rw [decide_eq_true h]
    decide
  have hi : oneImage.indexed = [(0, nodeAt oneImage 0)] := by decide
  unfold placeFail
  rw [hi]
  simp only [List.find?_cons, h0, Bool.not_true, List.find?_nil]
  decide

theorem oneImage_ok : imageFail oneSource base = none := by
  unfold imageFail
  simp only [oneSource_read, oneImage_place]
  rw [if_neg (by decide +kernel), if_neg (by decide +kernel), if_neg (by decide +kernel)]
  decide +kernel

theorem test_wit_GraphAndTaskCommands :
    (serveOk (rq [1, 0, 0, 0]) base = true ∧ base.pwr.asleep = none ∧ dspRuns base = true ∧ base.gra.image = none
      ∧ (let s := { base with gra.image := some twoNodes }
         s.gra.pause.testBit 0 = false ∧ (rq [1, 0, 0, 0]).u8 0 = 1 ∧ s.svc.sorrel = none)
      ∧ (({ base with gra.pause := 1 } : State).gra.pause.testBit 0 = true))
    ∧ ((rq [0, 0, 0, 0, 0, 0, 0, 0, 7]).u32 0 = 0 ∧ base.own.mbxLock = false
      ∧ (let s := { base with own.mbxStage := List.replicate 3 0 }
         (rq [3, 0, 0, 0, 0, 0, 0, 0, 7]).u32 0 = s.own.mbxStage.length))
    ∧ (let s := { base with own.mbxStage := [7] }
       (rq (List.replicate 16 0)).len = 16 ∧ s.gra.commit = none
        ∧ imageFail (commitBytes s ((rq (List.replicate 16 0)).u8 0) 0) s = some (1, 0xFFFF))
    ∧ (let q := rq [1, 0, 0, 0, 0, 0, 0, 0, 2, 0, 0, 0]
       paramWriteOk base twoNodes (q.u16 0) (q.u32 4) (q.payload.drop 8) = false ∧ q.len ≤ 240)
    ∧ (let q := rq [0, 0, 0, 0, 4, 0, 0, 0, 5]
       paramWriteOk base oneImage (q.u16 0) (q.u32 4) (q.payload.drop 8) = true)
    ∧ (let s := onTask 959 (fun t => { t with st := .held }) base
       let q := rq [0xBF, 3, 5, 0, 0, 0, 0, 0, 0, 0, 0, 0, 63, 0, 0, 0]
       noneDue s = true ∧ q.u16 0 = 959 ∧ (taskOf s 959).st ≠ .free ∧ q.u8 2 = 5 ∧ q.u8 12 = 63 ∧ taskReady s 959 = false
        ∧ (taskOf s 959).kind ≠ .flight)
    ∧ taskReady (onTask 959 (fun t => { t with st := .armed, kind := .step }) base) 959 = true
    ∧ noneDue (onTask 959 (fun t => { t with st := .armed, kind := .step }) base) = true
    ∧ (taskOf (onTask 0 (fun t => { t with st := .cancelled }) base) 0).st = .cancelled
    ∧ noneDue (onTask 0 (fun t => { t with st := .cancelled }) base) = true
    ∧ (let s := onTask 959 (fun t => { t with st := .held }) base
       let q := rq ([0, 3, 31, 0, 0xBF, 3, 0, 0] ++ leBytes 8 4294967295 ++ leBytes 4 1 ++ [0, 0, 0, 0])
       q.len = 24 ∧ q.u16 4 < 960 ∧ (taskOf s (q.u16 4)).st ≠ .free ∧ max 1 (listTick s 3) ≤ q.u32 16 ∧ q.u64 8 < 2 ^ 32
        ∧ freeSlot (listOf s 3) = some 0)
    ∧ (let s := { base with sch.delays := Vector.replicate 4 [⟨9, 0, 0, 0, 0, 0⟩] }
       (listOf s 3).any (fun e => e.slot == (rq [1, 3, 31, 9]).u8 3) = true) := by decide +kernel

theorem test_wit_GraphImageCommit :
    (let s := { base with own.mbxStage := oneSource }
     let q := rq (List.replicate 16 0)
     serveOk q s = true ∧ q.len = 16 ∧ q.u64 8 = 0 ∧ s.gra.commit = none ∧ commitBytes s (q.u8 0) 0 = oneSource)
    ∧ imageFail oneSource base = none ∧ banksOff base (readImage oneSource) ≤ 4 :=
  ⟨by decide, oneImage_ok, by decide +kernel⟩
theorem test_wit_GraphAndTaskEvents :
    (runsOk base = true ∧ base.time.held = false ∧ boundaryDue base = true ∧ base.fab.fhChange = none
      ∧ boundaryDue { base with gra.lastBoundary := some 1 } = false)
    ∧ (let s := { base with fab.fhChange := some ⟨3, 1, none⟩ }
       s.time.held = false ∧ boundaryDue s = true ∧ s.fab.fhChange = some ⟨3, 1, none⟩)
    ∧ (let c : Commit := ⟨oneImage, 0, false, .boundary, 0, none, []⟩
       let s := { base with gra.commit := some c, gra.lastBoundary := some 1, gra.image := some { oneImage with banks := 2 } }
       switchDue s = true ∧ banksShared s c.image = false ∧ s.svc.sorrel = none)
    ∧ (let s := { base with gra.commit := some ⟨oneImage, 0, false, .fill, 0, none, []⟩ }
       s.sch.ops = [] ∧ s.sch.store = [] ∧ s.sch.spill = [])
    ∧ (let s := { base with sch.store := [{ (default : Item) with core := 7 }] }
       execOn s 7 < 2 ∧ flightOn s 7 < 32 ∧ nextItem s 7 = some ({ (default : Item) with core := 7 }, false))
    ∧ (let o : Oper := { item := { (default : Item) with task := 959 }, core := 7, began := some 0 }
       let s := onTask 959 (fun t => { t with kind := .step }) { base with sch.ops := List.replicate 255 o ++ [o] }
       s.sch.ops[255]? = some o ∧ s.gra.oldImage = none ∧ (∀ x ∈ s.sch.ops, x.item.task = o.item.task → x.done = false)
        ∧ (taskOf s o.item.task).kind ≠ .flight)
    ∧ (let o : Oper := { item := default, core := 0, began := some 0 }
       o.item.num = (taskOf base o.item.task).ret)
    ∧ (let e : DelayEntry := ⟨255, 959, 31, 0, 0, 0⟩
       let s := onTask 959 (fun t => { t with st := .armed }) (onList 3 (fun _ => [e]) base)
       (listOf s 3).find? (entryDue s 3) = some e ∧ (taskOf s e.task).st ≠ .free)
    ∧ (let s := { base with sch.spill := [{ (default : Item) with prio := 7 }] }
       s.sch.spill ≠ [] ∧ (∀ x ∈ s.sch.spill, x.prio ≤ 7) ∧ s.sch.store.length < 512)
    ∧ (let s := { onTask 959 (fun t => { t with st := .held, items := 512 }) base with sch.heldOrder := [959] }
       s.sch.heldOrder = [959] ∧ roomFor s (taskOf s 959).items (taskOf s 959).prio = true)
    ∧ (let s := { base with time.now := 24576000, sch.busy := vset base.sch.busy 7 951, sch.cycles := 1000 }
       s.sch.windowEnd ≤ s.time.now ∧ loadAbove s 950 7 = true ∧ loadAbove s 951 7 = false) := by decide +kernel

theorem test_wit_NothingDue : noneDue (onTask 959 (fun t => { t with st := .armed }) base) = true := by decide

theorem test_wit_TaskReady :
    let s := onTask 959 (fun t => { t with st := .armed }) base
    taskReady s (959 : Fin 960).val = true ∧ ∀ j < (959 : Fin 960).val, taskReady s j = false := by
  refine ⟨by decide +kernel, fun j hj => ?_⟩
  have hj : j < 959 := hj
  have h : (taskOf (onTask 959 (fun t => { t with st := .armed }) base) j).st = .free := by
    have e : taskOf (onTask 959 (fun t => { t with st := .armed }) base) j = taskOf base j := by
      simp only [taskOf, onTask]
      exact Sys2Proof.Laws.vget_vupd_ne _ _ (by omega)
    rw [e]
    show (vget (Vector.replicate 1024 ({} : Task)) j).st = .free
    rw [Sys2Proof.Laws.vget_lt _ (by omega), Vector.getElem_replicate]
  simp [taskReady, h]
/-- A valid load entry: 10 µH, 470 nF, 8 Ω. -/
def loadEntry8 : List Byte := leBytes 4 10000 ++ leBytes 4 470 ++ leBytes 4 8000 ++ [0, 0, 0, 0, 0xBC, 2, 0xE8, 3] ++ List.replicate 12 0

theorem test_wit_DriveCommands :
    (let s := onGrp 5 (fun g => { g with st := .on }) (onDrv 23 (fun p => { p with load := some loadEntry8 }) locked)
     let q := rq [0, 0, 128, 0, 1, 0, 0, 0]
     serveOk q s = true ∧ runsOk s = true ∧ s.pwr.queue.length < 24 ∧ q.u32 0 = 2 ^ 23 ∧ drvRefusal (2 ^ 23) true s = none
      ∧ (drvOf s 23).st = .stopped ∧ (grpOf s (23 / 4)).st = .on ∧ quietCause s = false ∧ drvLocked s = true
      ∧ s.drv.char = none ∧ s.pwr.shut = false ∧ loadOk loadEntry8 = true)
    ∧ (let s := onDrv 0 (fun p => { p with load := some loadEntry8 }) locked
       drvRefusal 1 true s = none ∧ (drvOf s 0).st = .stopped ∧ (grpOf s 0).st = .off ∧ grpRefusal 32 true s = none
        ∧ (grpOf s 5).st = .off ∧ grpRefusal 32 false s = none ∧ quietCause s = false ∧ (drvOf s 0).again = false
        ∧ s.drv.char = none ∧ drvRefusal 1 false s = none)
    ∧ (let s := onDrv 0 (fun p => { p with load := some loadEntry8 }) { locked with clk.familyChange := true }
       serveOk (rq [1, 0, 0, 0, 1, 0, 0, 0]) s = true ∧ drvRefusal 1 true s = none ∧ (drvOf s 0).st = .stopped
        ∧ quietCause s = true)
    ∧ (let s := onDrv 0 (fun p => { p with load := some loadEntry8, st := .running }) locked
       drvRefusal 1 true s = none ∧ drvRefusal 1 false s = none ∧ (drvOf s 0).st = .running ∧ s.drv.char = none)
    ∧ (let s := onGrp 5 (fun g => { g with st := .on }) locked
       (rq [32, 0, 0, 0]).u8 0 = 2 ^ 5 ∧ serveOk (rq [32, 0, 0, 0]) s = true ∧ grpRefusal 32 true s = none
        ∧ grpRefusal 32 false s = none ∧ (grpOf s 5).autoAsk = false ∧ s.drv.char = none
        ∧ ∀ n ∈ grpPorts 5, (drvOf s n).again = false ∧ retryWaits s n = false) := by decide

/-- Port 23 at the end of a stage. -/
def staged (st : DrvState) (stage : Nat) : State :=
  onDrv 23 (fun p => { p with st := st, stage := stage, due := some 0 }) base

/-- Group 5 at the end of a stage. -/
def grouped (st : GroupState) : State := onGrp 5 (fun g => { g with st := st, due := some 0 }) base

theorem test_wit_DriveEvents :
    ((∀ k ∈ [0x11, 0x12, 0x13, 0x14], (drvOf (staged .softStart k) 23).stage = k)
      ∧ (drvOf (staged .softStop 4) 23).st = .softStop ∧ (drvOf (staged .softStart 0x14) 23).due = some 0
      ∧ runsOk (staged .softStart 0x14) = true ∧ (staged .softStart 0x14).drv.char = none
      ∧ 0 ≤ (staged .softStart 0x14).time.now)
    ∧ ((grpOf (grouped .starting) 5).st = .starting ∧ (grpOf (grouped .starting) 5).thenDown = false
      ∧ (grpOf (grouped .stopping) 5).due = some 0 ∧ (grpOf (grouped .on) 5).st = .on)
    ∧ ((drvOf (staged .quietStop 4) 23).again = false
      ∧ (let s := onDrv 23 (fun p => { p with again := true }) (staged .quietStop 4)
         (drvOf s 23).again = true ∧ quietCause s = true ∧ s.time.held = false))
    ∧ (drvLive (staged .running 0) 23 = true ∧ drvWatches (staged .running 0) 23 = true ∧ (drvOf (staged .running 0) 23).limitRun = 0
      ∧ faultSeen (onChain 49 (fun k => { k with resetAt := some 0 }) (staged .running 0)) 23 (2 : Fin 3) = true
      ∧ (let s := staged .running 0
         blankEnd s 23 (carrierPos s 23) < edgeUnits s 23 ∧ charPort s ≠ some 23)
      ∧ (let s := onDrv 23 (fun p => { p with limitRun := 1 }) (staged .running 0)
         0 < (drvOf s 23).limitRun ∧ (drvOf s 23).lastLimit = carrierAt s 23 (driveClock s) ∧ charPort s ≠ some 23
          ∧ blankEnd s 23 (carrierPos s 23) < edgeUnits s 23)
      ∧ (let s := onDrv 23 (fun p => { p with pwm := { p.pwm with blankTo := 16384 } }) (staged .running 0)
         drvLive s 23 = true ∧ edgeUnits s 23 ≤ blankEnd s 23 (carrierPos s 23))
      ∧ (faultOf base 0 23).st = .normal ∧ (faultOf base 0 23).windowEnd = none)
    ∧ (let ch : Characterise := { mask := 2 ^ 23, left := [23], step := 6, due := some 0, results := Vector.replicate 24 0, cid := none }
       ({ base with drv.char := some ch } : State).drv.char = some ch ∧ ch.tripped = false ∧ charCode 10000 470 8000 false = 0) := by decide

theorem test_wit_CarrierPulses :
    legsOf (staged .running 0) 23 = .pulses
    ∧ 0 < modUnits (staged .running 0) 23 (drvMinPulse (staged .running 0) 23 + drvDead (staged .running 0) 23)
    ∧ 4 * modUnits (staged .running 0) 23 (drvMinPulse (staged .running 0) 23 + drvDead (staged .running 0) 23)
        ≤ edgeUnits (staged .running 0) 23
    ∧ legsOf base 23 = .idle ∧ drvBridge base 23 = 0
    ∧ (let s := onDrv 23 (fun p => { p with page := Page.put p.page 27 2 2 }) (staged .running 0)
       legsOf s 23 = .pulses ∧ 2 ≤ drvBridge s 23) := by decide

/-- A graph whose SPEAKER_MODEL holds port 23 under driver table 5 and whose SUPPLY_LIMIT names supply 7 and port 23. -/
def protImage : Image :=
  { id := 1, frame := 0, fhMask := 2, banks := 0, crc := 0, edges := []
    nodes := [{ type := 16, prio := 0, nin := 1, nout := 1, param := [1, 0, 0, 0, 23, 0, 5, 0], region := 0, ofs := 0, stateLen := 0 },
      { type := 17, prio := 0, nin := 1, nout := 1, param := [1, 0, 7, 0, 23, 0, 0, 0], region := 0, ofs := 0, stateLen := 0 }] }

/-- A driver with a thermal and an excursion model. -/
def driver23 : Driver := { (default : Driver) with port := 23, thermal := true, excursion := true }

/-- The graph of `protImage` runs with a supply. -/
def guarded (x : Supply) : State :=
  { base with gra.image := some protImage, prot.drivers := [(5, [driver23])], prot.supplies := [x], time.now := 10000000 }

theorem test_wit_ProtectionRows :
    (let s := onFault 4 23 (fun c => { c with st := .backoff, backoffEnd := some 0, windowEnd := some 0 }) base
     (faultOf s 4 23).st = .backoff ∧ (faultOf s 4 23).backoffEnd = some 0 ∧ 23 < classSize 4 ∧ (faultOf s 4 23).windowEnd = some 0
      ∧ runsOk s = true)
    ∧ (let s := onFault 0 23 (fun c => { c with st := .retryWait, reask := some 0 }) base
       (faultOf s 0 23).st = .retryWait ∧ (faultOf s 0 23).reask = some 0 ∧ (grpOf s (23 / 4)).st = .off
        ∧ s.pwr.queue.length < 24 ∧ (drvOf s 23).wanted = false)
    ∧ (let s := { base with prot.moves := [⟨23, 127, 63, 0, some 0⟩], gra.lastBoundary := some 1 }
       s.prot.moves.find? (fun v => v.mixer == 63) = some ⟨23, 127, 63, 0, some 0⟩ ∧ boundarySince 0 s = true
        ∧ (targetOf s 127).fade = none)
    ∧ (let s := onProt 23 (fun p => { p with limiting := true, holdFrom := some 0 }) { base with time.now := 2457600 }
       (protOf s 23).holdFrom = some 0 ∧ (protOf s 23).limiting = true ∧ 0 + holdTu s ≤ s.time.now)
    ∧ (let x : Supply := { id := 7, table := default, told := some 4, holdFrom := some 0 }
       limitSupply (guarded x) = some x ∧ 0 + holdTu (guarded x) ≤ (guarded x).time.now)
    ∧ (let x : Supply := { id := 7, table := default, clamp := true, clearFrom := some 0 }
       limitSupply (guarded x) = some x ∧ x.riseFrom = none ∧ 0 + 245760 ≤ (guarded x).time.now
        ∧ modelEntry (guarded x) 23 = some driver23 ∧ graphRuns (guarded x) = true
        ∧ (protOf (guarded x) 23).set = none ∧ serveOk (rq [23, 0, 208, 7, 0, 0, 0, 0]) (guarded x) = true
        ∧ withinI 0 2000 ((rq [23, 0, 208, 7, 0, 0, 0, 0]).i16 2) = true)
    ∧ (let x : Supply := { id := 7, table := default, clamp := true, riseFrom := some 0, clearFrom := some 0 }
       limitSupply (guarded x) = some x)
    ∧ (let s := onProt 23 (fun p => { p with modelled := true }) { guarded default with time.now := 24576000 }
       modelEntry s 23 = some driver23 ∧ driver23.excursion = true ∧ graphRuns s = true ∧ (protOf s 23).modelled = true
        ∧ (protOf s 23).rmsFrom + 24576000 ≤ s.time.now)
    ∧ (modelEntry base 23).isNone = true
    ∧ (let q := rq [4, 0, 0, 0, 0, 0, 128, 0]
       q.len = 8 ∧ q.u8 0 = 4 ∧ q.u32 4 = 2 ^ 23 ∧ q.u32 4 < 2 ^ classSize 4
        ∧ (∀ i < 24, (q.u32 4).testBit i = true → (faultOf base 4 i).st = .normal)
        ∧ (faultOf (onFault 4 23 (fun c => { c with st := .retired }) base) 4 23).st ≠ .normal) := by decide
/-- GALA up, FAULT_EN off, BULK_ACCEPT on, port A and B enabled. -/
def linked : State :=
  onGal 0 (fun k => { k with st := .up, addr := 4094 }) { locked with
    ring.page := Page.put (Page.put locked.ring.page 28 1 0) 29 3 7, ring.role := .member }

theorem test_wit_RingLinks :
    (let q := rq [0xFE, 15, 1, 0x7C, 16, 0, 0, 0] ; runsOk linked = true ∧ serveOk q linked = true
      ∧ q.u16 0 = 4094 ∧ q.u8 3 % 4 = 0 ∧ q.u8 3 < 0x80 ∧ q.u8 4 = 16 ∧ ringLinkUp linked = true ∧ ringLinkUp base = false)
    ∧ (let q := rq [1, 0, 0, 0x7C, 1, 0, 0, 0] ; q.len = 8 + 4 * (q.u8 2 * q.u8 4))
    ∧ (let q := rq [0xFE, 15, 1, 0, 0, 0, 4, 0] ; q.u32 4 = 262144 ∧ q.len = 8 ∧ linked.ring.send = none
        ∧ ({ linked with ring.send := some ⟨1, 0, 4, false, 0, 0, 0, none⟩ } : State).ring.send.isSome = true)
    ∧ (let s := onGal 1 (fun k => { k with st := .noSignal, signal := true }) linked
       galEn s 1 = true ∧ (galOf s 1).signal = true ∧ (galOf s 1).asked = false ∧ (galOf s 1).trainDue = none
        ∧ s.pwr.queue.length < 24 ∧ (galOf s 1).been = false ∧ (galOf s 1).pollAt ≤ s.time.now ∧ asynRuns s = true
        ∧ (galOf s 1).backoff = false ∧ (galOf s 1).dozed = false ∧ s.boot.ready = true)
    ∧ (galOf (onGal 1 (fun k => { k with st := .retired }) linked) 1).st = .retired
    ∧ (let s := onGal 1 (fun k => { k with st := .training, trainDue := some 0, uid := some 5 }) linked
       (galOf s 1).st = .training ∧ (galOf s 1).uid = some 5 ∧ (galOf s 1).trainDue = some 0 ∧ (galOf s 1).been = false
        ∧ ringHead s = false ∧ ringPagePrio s ≠ 15
        ∧ ringPagePrio { s with ring.page := Page.put s.ring.page 24 4 15 } = 15)
    ∧ (ringRuns linked = true ∧ galUp linked 0 = true ∧ planned linked 0 = false ∧ ringFaultEn linked = false
      ∧ (galOf (onGal 1 (fun k => { k with been := true }) linked) 1).been = true
      ∧ planned (onGal 0 (fun k => { k with leaving := some 0 }) linked) 0 = true)
    ∧ ({ linked with ring.unfoldAt := some 0 } : State).ring.unfoldAt = some 0 ∧ periodReached linked 0 = true := by decide +kernel

theorem test_wit_RingPeriods :
    (ringRuns linked = true ∧ galUp linked 0 = true ∧ ringHead linked = false ∧ (∀ j : Fin 2, (galOf linked j).dropAt = none)
      ∧ (let s := { linked with ring.role := .head }; ringHead s = true ∧ asynRuns s = true ∧ ringRuns s = true))
    ∧ (let s := { linked with clk.ref := 16, ring.map := [⟨false, 31, false, 0⟩], ring.presTu := 512, time.now := 512 }
       ringMissing s 31 = true ∧ asynRuns s = true ∧ s.ring.role ≠ .off
        ∧ (concealOf (onConceal 31 (fun c => { c with gain := some 9, last := some 7 }) s) 31).last = some 7)
    ∧ (({ linked with ring.presChange := some (0, 5) } : State).ring.presChange = some (0, 5)
      ∧ periodReached linked 0 = true ∧ periodReached linked 1 = false ∧ linked.ring.late = none
      ∧ (let s := { linked with ring.presChange := some (0, 5), ring.late := some ⟨2 ^ 63, none⟩ }
         s.ring.presChange = some (0, 5) ∧ s.ring.late = some ⟨2 ^ 63, none⟩))
    ∧ (let s := { linked with ring.headPrio := 14, time.now := 8192 }
       ringHead s = false ∧ s.ring.standing = none ∧ s.ring.lastTiming + ringPeriods s 8 ≤ s.time.now)
    ∧ (let s := { linked with ring.standing := some 0, ring.beaten := true }
       s.ring.standing = some 0 ∧ s.ring.beaten = true ∧ linked.ring.beaten = false)
    ∧ (let s := { linked with clk.ref := 16 }
       s.ring.clockLost = false ∧ s.ring.role ≠ .off ∧ s.clk.asyn = .locked) := by decide

theorem test_wit_RingMessages :
    (portsLive linked = true ∧ ringRuns linked = true ∧ ringM3From linked = 0 ∧ ((0x18 : Byte) &&& 0x7C) ≠ 0x14
      ∧ (16 : Byte).toNat ≤ 16 ∧ (List.replicate 64 (255 : Byte)).length = 4 * (16 : Byte).toNat)
    ∧ (let a : PpAccess := ⟨4094, 255, 0, 16, 0, none⟩
       let s := { linked with ring.access := [a] }
       s.ring.access = [a] ∧ (0 :: (16 : Byte) :: List.replicate 66 0).length = 4 + 4 * leAt (0 :: (16 : Byte) :: List.replicate 66 0) 1 1)
    ∧ (let p : List Byte := [1, 0, 0, 0, 0, 0, 4, 0, 0, 0, 0, 0]
       p.length = 12 ∧ leAt p 4 4 = 262144 ∧ zeroIn p 1 3 = true ∧ linked.ring.recv = none ∧ linked.ring.recvLock = false
        ∧ ringBulkAccept linked = true)
    ∧ (let r : BulkRecv := ⟨1, 0, 2, 0, 1⟩
       let s := { linked with ring.recv := some r }
       s.ring.recv = some r ∧ leAt [1, 0, 0, 0, (7 : Byte)] 0 4 = r.written ∧ r.written + (5 - 4) = r.len
        ∧ leAt [2, 0, 0, 0, (7 : Byte)] 0 4 ≠ r.written ∧ s.boot.life = .firmware)
    ∧ (let b : BulkSend := ⟨4094, 0, 1, true, 1, 0, 0, none⟩
       let s := { linked with ring.send := some b }
       s.ring.send = some b ∧ b.due ≤ s.time.now ∧ leAt [1, 0, 0, 0, 0, 0, (1 : Byte), 0] 6 1 = 1 ∧ s.boot.install = none)
    ∧ (let s := { linked with ring.standing := some 1 }
       s.ring.standing.isSome = true ∧ s.ring.headPrio < 15 ∧ leAt (15 :: List.replicate 23 (0 : Byte)) 0 1 = 15)
    ∧ (let p : List Byte := [2, 1, 0, 0, 0, 0, 0, 0]
       (galOf linked 0).addr = 4094 ∧ (leAt p 0 1).testBit (1 - 0) = true ∧ leAt p 1 1 = 1) := by decide

/-- The converter is live with its internal reference settled; the sequence is enabled and triggered by command. -/
def converting : State :=
  { base with hk.settled := Vector.replicate 3 true, hk.page1300 := Page.put base.hk.page1300 21 3 3
              hk.page1301 := Page.put base.hk.page1301 127 1 1 }

theorem test_wit_HousekeepingRows :
    (runsOk converting = true ∧ hkLive converting = true ∧ hkSettled converting = true ∧ converting.hk.nextRef = none
      ∧ serveOk (rq [4, 0, 0, 0]) converting = true ∧ hkEn converting = true ∧ hkTrig converting = 3
      ∧ slotEn converting 3 = true ∧ slotTrig converting 3 = 3 ∧ tansySlot converting = none ∧ converting.hk.inj = 0
      ∧ converting.hk.run = none ∧ converting.hk.pass = false ∧ converting.hk.calWait = none ∧ converting.hk.next1300 = none
      ∧ converting.hk.calDeferred = false)
    ∧ (let s := { converting with hk.pass := true, hk.run := some (.regular 15) }
       s.hk.pass = true ∧ s.hk.trig = false ∧ s.hk.run = some (.regular 15)
        ∧ ({ s with hk.trig := true } : State).hk.trig = true ∧ s.hk.due ≤ s.time.now ∧ hkEntryCh s 15 < 24
        ∧ hkDelivers s (hkEntryCh s 15) = true ∧ hkFaultEn s (hkEntryCh s 15) = false)
    ∧ ((∃ d, ({ converting with hk.run := some (.calibrating 9) } : State).hk.run = some (.calibrating d))
      ∧ ({ converting with hk.run := some (.injected 3) } : State).hk.run = some (.injected 3))
    ∧ (let s := { converting with hk.page1300 := Page.put (Page.put converting.hk.page1300 21 3 2) 16 2 3 }
       seqSource s = true)
    ∧ (let s := { converting with hk.page1301 := Page.put (Page.put converting.hk.page1301 124 3 2) 120 2 3 }
       slotTrig s 3 = 2 ∧ slotSource s 3 = true) :=
  ⟨by decide, by decide +kernel, ⟨⟨9, rfl⟩, rfl⟩, by decide, by decide⟩

theorem test_wit_HousekeepingReferences :
    (let s := { base with time.now := 24576000, hk.settled := Vector.replicate 3 false }
     runsOk s = true ∧ (hallOf s hANA).powered = true ∧ s.hk.nextRef = none ∧ vget s.hk.settled 0 = false
      ∧ s.hk.anaSince + usTu 40 ≤ s.time.now ∧ hkSettled s = false ∧ hkLive s = true ∧ hkEn s = true
      ∧ seqSource s = true ∧ serveOk (rq [0, 0, 0, 0]) s = true
      ∧ s.hk.run = none ∧ s.hk.calWait = none ∧ s.hk.calDeferred = false)
    ∧ (let s := { base with time.now := 24576000, hk.settled := #v[true, false, false], hk.page1300 := Page.put base.hk.page1300 29 2 1 }
       hkRef s = 1 ∧ vget s.hk.settled 1 = false ∧ s.hk.refBad = false ∧ s.hk.refSince + usTu (100 * hkSettle s) ≤ s.time.now
        ∧ 98 * hkRefMv s ≤ 100 * 1275 ∧ 100 * 1275 ≤ 102 * hkRefMv s ∧ 102 * hkRefMv s < 100 * 1276)
    ∧ hkTrig { base with hk.page1300 := Page.put base.hk.page1300 21 3 3 } = 3 := by decide
/-- A grant asked for. -/
def asking (w : GrantFor) (op core : Nat) : Grant :=
  { op := op, prio := 4, requester := 0, work := w, asked := 0, due := some 0, core := core }

theorem test_wit_PowerCommandsAndGrants :
    (let q := rq [4, 0, 0, 0]
     runsOk base = true ∧ serveOk q base = true ∧ q.u8 0 = 4 ∧ base.clk.xtalFailed = false ∧ base.pwr.shut = false
      ∧ base.pwr.change = none ∧ base.clk.rebased = none ∧ q.u8 0 ≠ base.pwr.level ∧ levelReason 4 true base = 0
      ∧ base.pwr.queue.length < 24 ∧ (rq [0, 0, 0, 0]).u8 0 = base.pwr.level
      ∧ levelReason 4 true { base with pwr.page1400 := Page.put base.pwr.page1400 31 1 1 } = 3)
    ∧ ((rq [4, 0, 0, 0, 0, 0, 0, 0]).u8 0 = 4 ∧ (rq [4, 0, 0, 0, 0, 0, 0, 0]).u32 4 = 0 ∧ sleepRefused base = false
      ∧ sleepRefused { base with pwr.shut := true } = true ∧ offCount base = true)
    ∧ (let g := asking .fwVerify 9 0
       let s := { base with pwr.queue := [g] }
       g.due = some 0 ∧ 0 ≤ s.time.now ∧ s.pwr.queue = [g])
    ∧ (let g := { asking .fwVerify 9 0 with due := some 1 }
       let s := { base with pwr.queue := [g] }
       runsOk s = true ∧ evalDue s = true ∧ s.pwr.held = [] ∧ 1 ≤ grantSlots s ∧ coreNeed s g ≤ coreBudget s
        ∧ bulkOk s g = true ∧ g.due = some 1 ∧ s.time.now < 1)
    ∧ (let g := { asking (.ringTrain 1) 8 45 with due := some 1 }
       let s := { base with pwr.queue := [g] }
       coreNeed s g ≤ coreBudget s ∧ bulkOk s g = true ∧ g.due = some 1 ∧ s.time.now < 1)
    ∧ (let g := { asking .fwVerify 9 65536 with due := some 1 }
       let s := { base with pwr.queue := [g] }
       coreBudget s < coreNeed s g ∧ bulkOk s g = true ∧ g.warned = false ∧ g.due = some 1 ∧ s.time.now < 1)
    ∧ (let g : Grant := { op := 4, prio := 5, requester := 0, work := .psgEnable 5, asked := 0, due := none, core := 0, bulk := 1, ports := 2 ^ 23 }
       let s := { guarded { id := 7, table := { (default : SupplyTable) with mask := 2 ^ 23 } } with pwr.queue := [g] }
       bulkOk s g = false ∧ coreNeed s g ≤ coreBudget s)
    ∧ evalDue { base with time.now := 1 } = false
    ∧ (let c : LevelChange := { source := 0, target := 4, step := .settleUp, cid := none }
       let s := { base with pwr.change := some c, time.now := 24576 }
       s.pwr.change = some c ∧ c.due + usTu 10 + settleTu s ≤ s.time.now + 49152 ∧ c.due ≤ s.time.now ∧ s.pwr.next = none
        ∧ s.pwr.wake = none)
    ∧ (base.pwr.vsel ≠ 7 ∧ base.pwr.wake = none ∧ ({ base with pwr.supplyFault := true } : State).pwr.supplyFault = true) := by
  decide +kernel

/-- An entry into OFF at a step. -/
def entering (step : Nat) : State :=
  { base with pwr.entry := some { target := 4, step := step, cid := none, began := 0, wakeAfter := 5 }, time.now := 2457600 }

/-- Asleep. -/
def sleeping (target : Nat) : State :=
  { base with pwr.asleep := some { target := target, commit := 0, wakeDue := some 0, settled := true }, time.now := 5000000 }

/-- A wake at a step. -/
def waking (target step : Nat) : State :=
  { sleeping target with pwr.wake := some { step := step, source := 0x100, leaving := target } }

theorem test_wit_SleepAndWake :
    (let s := { base with pwr.page1400 := Page.put base.pwr.page1400 21 1 1, time.now := 2457600 * 600 }
     runsOk s = true ∧ idleRuns s = true ∧ lastingActivity s = false ∧ s.pwr.lastActivity + idleTu s ≤ s.time.now
      ∧ lastingActivity { s with mic.hist := .opened } = true)
    ∧ ((entering 6).pwr.asleep = none ∧ (entering 6).pwr.abortBy = none ∧ (entering 3).sch.drained = false
      ∧ 0 + drainTu (entering 3) ≤ (entering 3).time.now)
    ∧ (hostWakes (sleeping 3) 2 = true ∧ (sleeping 3).pwr.wake = none ∧ 0 ≤ clockNow (sleeping 3) ∧ (sleeping 3).clk.xt32 = true
      ∧ (let s := { sleeping 4 with pwr.page1400 := Page.put (sleeping 4).pwr.page1400 14 1 1, pwr.offLevelTicks := 2 }
         offGpioWake s = true ∧ 2 ≤ s.pwr.offLevelTicks))
    ∧ ((waking 2 3).clk.xtalFailed = false ∧ (waking 1 6).boot.life = .firmware ∧ 0 ≤ clockNow (waking 2 2) ∧ 0 ≤ clockNow (waking 2 3)
      ∧ (let s := { waking 4 2 with pwr.wake := some { step := 2, source := 0x200, leaving := 4, retryAt := some 0 } }
         s.pwr.asleep = (sleeping 4).pwr.asleep ∧ 0 ≤ clockNow s)) := by decide

/-- The source service is enabled with source 7 defined as point 9 on target 96. -/
def sources : State :=
  { base with svc.page1500 := Page.put (Page.put (Page.put base.svc.page1500 31 1 1) (64 + 32 * 7 + 31) 1 1) (64 + 32 * 7 + 16) 8 9 }

theorem test_wit_SourceAndVolume :
    (let q := rq [1, 7, 0, 0]
     runsOk sources = true ∧ serveOk q sources = true ∧ srcEn base = false ∧ srcEn sources = true ∧ srcDef sources 7 = true
      ∧ srcDef sources 0 = false ∧ (srcPoints sources 7).all (sourceRetired sources) = false ∧ sources.svc.select = none
      ∧ sources.svc.source ≠ q.u8 1 ∧ ({ sources with svc.source := 7 } : State).svc.source = 7 ∧ q.u8 1 ≤ 8
      ∧ (srcTargets sources)[1]? = some 97 ∧ targetRetired sources 97 = false ∧ (srcPoints sources 7)[0]? = some 9
      ∧ sourceRetired sources 9 = false ∧ srcManual sources = false ∧ sources.svc.timerEnd = none ∧ devTime sources % tuPerMs = 0 ∧ sources.boot.ready = true)
    ∧ (volEn base = false ∧ volAsked (rq [0, 0, 0xA0, 0xF6]) base = some (-2400)
      ∧ (let s := { base with svc.page1501 := Page.put base.svc.page1501 31 1 1, time.now := 1 }
         volEn s = true ∧ volAsked (rq [1, 1, 0xFF, 0x7F]) s = some (volMax s) ∧ s.gra.image = none ∧ s.svc.capAt ≤ s.time.now
          ∧ capWorks s = false ∧ volEn s = true))
    ∧ (let s := { sources with svc.timer := true }
       s.svc.restart = false ∧ (srcTable s)[s.svc.state]? = some ((srcTable s).getD 0 default)
        ∧ ({ sources with svc.restart := true } : State).svc.restart = true)
    ∧ (({ sources with svc.timerEnd := some 0 } : State).svc.timerEnd = some sources.time.now ∧ sources.time.now < 1)
    ∧ (let x : Supply := { id := 7, table := default }
       let s := { guarded x with svc.page1501 := Page.put (Page.put (Page.put base.svc.page1501 29 3 7) 32 16 7) 48 16 3,
                                 prot.curves := [(3, [])], svc.cap := some 0 }
       capWorks s = true ∧ volEn s = true ∧ s.svc.cap = some 0 ∧ s.svc.capAt ≤ s.time.now) := by decide +kernel

/-- A graph with the three nodes a Sorrel run needs: TONE 0, MIXER 1 and PEQ 2, one channel each. -/
def sorrelImage : Image :=
  { id := 1, frame := 0, fhMask := 2, banks := 0, crc := 0, edges := []
    nodes := [{ type := 13, prio := 0, nin := 0, nout := 1, param := [1] ++ List.replicate 23 0, region := 0, ofs := 0, stateLen := 0 },
      { type := 3, prio := 0, nin := 1, nout := 1, param := [1, 1, 0, 0, 0, 0, 0, 0], region := 0, ofs := 0, stateLen := 0 },
      { type := 4, prio := 0, nin := 1, nout := 1, param := [1, 8, 1, 0] ++ List.replicate 160 0, region := 0, ofs := 0, stateLen := 0 }] }

/-- The graph of `sorrelImage` runs and page 0x1502 names its nodes. -/
def sorrelReady : State :=
  { base with gra.image := some sorrelImage
              svc.page1502 := Page.put (Page.put (Page.put base.svc.page1502 16 16 0) 0 16 1) 48 16 2 }

theorem test_wit_SorrelRows :
    (runsOk sorrelReady = true ∧ serveOk (rq [1, 0, 0, 0]) sorrelReady = true ∧ sorrelReady.gra.image ≠ none
      ∧ sorrelReady.svc.sorrel = none ∧ sorrelOk 0x8000 sorrelReady = false ∧ sorrelOk 1 sorrelReady = true ∧ maskList 1 16 = [0] ∧ base.gra.image = none
      ∧ sorrelReady.pwr.queue.length < 24)
    ∧ (let r : SorrelRun := { mask := 0x8000, left := [15], step := 4, due := some 0, cid := none }
       let s := { base with svc.sorrel := some r }
       s.svc.sorrel = some r ∧ r.left = [15] ∧ (15 : Nat) ∉ ([] : List Nat) ∧ r.limited = false ∧ 0 ≤ s.time.now
        ∧ ({ r with step := 5, due := none, limited := true } : SorrelRun).limited = true
        ∧ captureClipped r.capture = false) := by decide +kernel
/-- A firmware image of 128 bytes with ROLLBACK 64. -/
def smallFw : List Byte :=
  [0x42, 0x4C, 0x46, 0x57, 1, 0, 0, 0, 128, 0, 0, 0, 0, 2, 4, 0, 64, 0xB1] ++ List.replicate 110 0

/-- Bytes from an address on as cells of the flash. -/
def cells (a : Nat) : List Byte → List Host.Cell
  | [] => []
  | b :: l => (a, b) :: cells (a + 1) l

/-- Slot B holds `smallFw` with a NEW record of SEQ 1. -/
def slotB : List Host.Cell := cells 0x80000 smallFw ++ cells (0x80000 + 0x7FFF0) [1, 0, 0, 0]

/-- The boot ROM of a flash boot with image B. -/
def booting : State := { State.reset with boot := { life := .rom, bootsel := 0, phase := 1, flash := slotB } }

theorem test_wit_ResetsAndBoot :
    (({ base with boot.life := .off } : State).boot.life = .off ∧ base.boot.life ≠ .off
      ∧ (let s := { base with boot.life := .rising, time.now := 24576 }
         s.boot.life = .rising ∧ 24576 ≤ s.time.now))
    ∧ (booting.boot.life = .rom ∧ booting.clk.xtalFailed = false ∧ booting.boot.loaded = none ∧ booting.boot.bootsel = 0
      ∧ booting.boot.phase = 1 ∧ booting.pwr.asleep = none ∧ booting.pwr.wake = none ∧ booting.time.epoch = 0
      ∧ ({ booting with time.epoch := 1 } : State).time.epoch ≠ 0
      ∧ booting.boot.began + msTu 5 ≤ ({ booting with time.now := 122880 } : State).time.now)
    ∧ slotPick State.reset = none
    ∧ (let s := { booting with boot := { life := .rom, bootsel := 1, source := 2, loaded := some smallFw } }
       s.boot.loaded = some smallFw ∧ 2 ≤ s.boot.source)
    ∧ ({ base with boot.life := .restarting } : State).boot.life = .restarting := by decide +kernel

/-- Where the signature of `smallFw` verifies, slot B is picked: the clause about a slot that boots. Whether a signature
verifies is open (`Config.imageSigned`), so a witness can only assume it. -/
theorem test_wit_slotPick (h : Config.imageSigned smallFw = true) :
    slotFirst booting = some 1 ∧ slotPick booting = some 1 ∧ memWf booting.boot.flash = true := by
  have f : slotFirst booting = some 1 := by decide +kernel
  have i : slotImage booting 1 = smallFw := by decide +kernel
  refine ⟨f, ?_, by decide +kernel⟩
  simp [slotPick, f, i, h]

/-- The same for the check of an image: with the signature it passes at level 64, the highest. -/
theorem test_wit_fwReason (h : Config.imageSigned smallFw = true) :
    fwReason smallFw 128 64 = 0 := by
  have a : fwHeaderReason smallFw 128 = 0 := by decide +kernel
  have b : fwLevelBad 64 smallFw = false := by decide +kernel
  simp [fwReason, a, b, h]

theorem test_wit_FirmwareUpdate :
    (let q := rq [0, 0, 0, 0, 0, 0, 0, 0, 1]
     serveOk q base = true ∧ q.len = 9 ∧ q.u32 0 = 0 ∧ base.own.mbxLock = false
      ∧ (let s := { base with own.mbxStage := [5] }
         (rq [1, 0, 0, 0, 0, 0, 0, 0, 1]).u32 0 = s.own.mbxStage.length))
    ∧ (let q := rq [2, 1, 0, 0, 0, 0, 16, 0, 128, 0, 0, 0]
       q.len = 12 ∧ 0x100000 ≤ q.u32 4 ∧ base.boot.install = none ∧ memPort base = false
        ∧ memPort { base with boot.page1600 := Page.put base.boot.page1600 31 1 1 } = true ∧ base.pwr.queue.length < 24)
    ∧ (fromFlash base = false ∧ base.boot.imgLevel ≤ base.boot.otpLevel
      ∧ (let s := { base with boot.source := 0, boot.imgLevel := 64 }
         fromFlash s = true ∧ slotMark s s.boot.source ≠ 3 ∧ s.boot.otpLevel < s.boot.imgLevel)
      ∧ (let s := { base with boot.source := 1, boot.flash := cells (0x80000 + 0x7FFF4) [0, 0, 0, 0] }
         slotMark s s.boot.source = 3))
    ∧ (let s := { booting with boot := { life := .rom, bootsel := 4, phase := 0 } }
       romMaster s = some (rq []).m ∧ (portOf s 0).rspReady = false
        ∧ fwReason s.own.mbxStage (stagedBytes s.own.mbxStage 128) 0 = 1)
    ∧ (let i : Install := { step := 3, cid := none, action := 1, source := 0, image := smallFw, total := 128, slot := 1 }
       let s := { base with boot.install := some i, boot.confirm := [1], boot.advance := [2] }
       s.boot.install = some i ∧ hallRuns s hCTRL = true ∧ i.slot ≤ 1 ∧ i.image.length ≤ 262144 ∧ memWf s.boot.flash = true ∧ s.boot.confirm ≠ []
        ∧ s.boot.advance ≠ [] ∧ fwReason [0] (stagedBytes [0] 1) 0 = 1) := by decide +kernel

/-- A retirement map with one entry: port 5 moves to port 6. -/
def oneMap : List Byte :=
  let e : List Byte := [5, 1, 0xFF, 0xFF, 6] ++ List.replicate 15 0
  let h : List Byte := [7, 0, 0x10, 0x11, 1, 0, 1, 0, 20, 0, 0, 0]
  h ++ leBytes 4 (crc32 (h ++ e)).toNat ++ e

/-- Curve table 5 with two points. -/
def oneCurve : List Byte :=
  let e : List Byte := [0, 0, 0, 0, 1, 0, 1, 0]
  let h : List Byte := [1, 0, 5, 0, 1, 0, 2, 0, 4, 0, 0, 0]
  h ++ leBytes 4 (crc32 (h ++ e)).toNat ++ e

theorem test_wit_PagesTablesAndAttestation :
    (let q := rq [1, 0x14, 0, 0, 1, 0, 0, 0]
     serveOk q base = true ∧ q.u16 0 = 0x1401 ∧ pageLive base 0x1401 = some (36, base.pwr.page1401.toNat) ∧ q.u8 4 = 1
      ∧ (portOf base 0).shadow = none ∧ pageOk base 0x1401 base.pwr.page1401.toNat = true ∧ pageOk base 0x1401 0 = false
      ∧ (portOf (onPort 0 (fun p => { p with shadow := some (0x1400, 0) }) base) 0).shadow = some (0x1400, 0))
    ∧ (let s := onPort 0 (fun p => { p with staging := List.replicate 8 0 }) base
       (rq [8, 0, 0, 0, 0, 0, 0, 0, 1]).u32 0 = (portOf s 0).staging.length
        ∧ tableFail (List.replicate 8 0) 8 s = some (5, 0))
    ∧ (tableFail oneMap 36 base = none ∧ leAt oneMap 0 2 = 7 ∧ tableFail oneCurve 24 base = none ∧ leAt oneCurve 0 2 = 1
      ∧ base.prot.curves.any (fun x => x.1 == leAt oneCurve 2 2) = false ∧ volEn base = false)
    ∧ (let s := { base with prot.curves := [(5, [])], svc.page1501 := Page.put (Page.put base.svc.page1501 31 1 1) 0 16 5 }
       tableFail oneCurve 24 s = none ∧ s.prot.curves.any (fun x => x.1 == 5) = true ∧ curveUsed s 5 = true)
    ∧ base.boot.attest = none
    ∧ ({ base with boot.attest := some (1, [2]) } : State).boot.attest = some (1, [2]) := by decide +kernel

theorem test_wit_RefusedRequests :
    requestOf (.ownHeartbeat (rq (List.replicate 249 0))) = some (0x0201, rq (List.replicate 249 0))
    ∧ 248 < (rq (List.replicate 249 0)).len ∧ base.own.owner ≠ some ({ rq [] with m := 1 } : Req).m
    ∧ runsOk base = true ∧ base.boot.ready = true ∧ ({ rq [] with flags := 2 } : Req).flags.toNat = 2 := by decide

theorem test_wit_BootSound : BootSound State.reset where
  flash := by decide
  otp := by decide
  image := by decide
  loaded := by intro im h; cases h
  ready := by decide

theorem test_wit_BootSound_run : BootSound base where
  flash := by decide
  otp := by decide
  image := by decide
  loaded := by intro im h; cases h
  ready := by decide

/-- The halls of a part whose firmware runs and that is awake stand as they must. -/
theorem halls_run (s : State) (h : runsOk s = true) (w : s.pwr.wake = none) (r : s.boot.life = .firmware) : HallsStand s := by
  have k := runsOk_spec s h
  have p : AllPowered s := fun j hj => by have := k.halls j hj; simp [hallRuns] at this; exact this.1
  exact {
    ao := k.halls 0 (by decide)
    aoOpen := by
      have h0 := k.cross
      simp only [hallsOpen, List.all_eq_true] at h0
      simpa using h0 0 (by decide)
    powered := fun _ _ => p
    cross := fun _ _ _ => k.cross
    run := fun _ _ _ => k.halls
    doze := fun sl hs => by simp [k.awake] at hs
    woken := fun v hv => by simp [w] at hv
    sleeping := fun hs => by simp [k.awake] at hs
    wakes := fun v hv => by simp [w] at hv
    readies := fun _ => r
    boots := fun hf => absurd r hf }

theorem test_wit_HallsStand : HallsStand base ∧ base.pwr.asleep = none ∧ base.pwr.entry = none
    ∧ base.boot.life = .firmware ∧ base.pwr.supplyFault = false :=
  ⟨halls_run base (by decide) rfl rfl, rfl, rfl, rfl, rfl⟩

/-- In DOZE, with the halls that stop gated. -/
theorem test_wit_HallsStand_doze :
    HallsStand { base with pwr.asleep := some { target := 1, commit := 0, wakeDue := none, settled := true }, boot.ready := false
                           halls := (Vector.replicate 7 { gated := true }).set 0 {} } where
  ao := by decide
  aoOpen := by decide
  powered := by intro _ h; cases h
  run := by intro _ h; cases h
  cross := by intro _ h; cases h
  doze := by
    intro sl h _ _
    cases h
    exact ⟨rfl, by unfold AllPowered; decide⟩
  woken := by intro w h; cases h
  sleeping := by decide
  wakes := by intro w h; cases h
  readies := by decide
  boots := by intro h; exact absurd rfl h


/-! ### Ill-formed commands, one for each check -/

theorem test_wf_request : Instr.wf (.ownGet (rq (List.replicate 249 0))) = false := by decide
theorem test_wf_spdif_status : Instr.wf (.spdifBlockEnd 0 false (List.replicate 47 0) (List.replicate 48 0)) = false := by decide
theorem test_wf_spdif_user : Instr.wf (.spdifBlockEnd 0 false (List.replicate 48 0) (List.replicate 49 0)) = false := by decide
theorem test_wf_ring_message : Instr.wf (.ringEventRecordMsg 1 (List.replicate 1013 0)) = false := by decide
theorem test_wf_ring_arbitration : Instr.wf (.ringArbitrationMsg (List.replicate 1013 0)) = false := by decide


end Sys2Proof.Tests
end

section
/-! PROOFS of the family 00_scope: a request's bytes decode to its command, and what writes of the port-page
registers change. -/

namespace Sys2Proof.Proofs

open Sys2Proof Sys2Proof.Machine Sys2Proof.Laws

/-! ### The command table (R48) -/

/-- The code of a mailbox command names that command: no earlier row of the command table has the same code. -/
theorem commandOf_of_requestOf {i : Instr} {code : Nat} {q : Req} (h : requestOf i = some (code, q)) :
    commandOf code q = some i := by
  cases i <;> cases h -- the rows with a code remain
  all_goals rfl

/-- Command codes fit the two bytes of COMMAND. -/
theorem code_lt_of_commandOf {i : Instr} {code : Nat} {q : Req} (h : commandOf code q = some i) : code < 256 ^ 2 := by
  have codes : ∀ c ∈ commandTable, c.1 < 256 ^ 2 := by decide
  simp only [commandOf, Option.map_eq_some_iff] at h
  obtain ⟨c, found, -⟩ := h
  have named : c.1 = code := by simpa using List.find?_some found
  exact named ▸ codes c (List.mem_of_find?_eq_some found)

theorem encode_of_requestOf {i : Instr} {code : Nat} {q : Req} (h : requestOf i = some (code, q)) :
    encode i = encodeRequest code q := by
  simp [encode, h]

theorem wf_iff_of_requestOf {i : Instr} {code : Nat} {q : Req} (h : requestOf i = some (code, q)) :
    Instr.wf i = true ↔ q.payload.length ≤ 248 := by
  simp [Instr.wf, h, Req.wf]

/-! ### The fields of an encoded request (R45, Table 2.18) -/

/-- A field of `k` bytes behind `pre`. -/
theorem leAt_field {k x : Nat} (h : x < 256 ^ k) (pre post : List Byte) :
    leAt (pre ++ (leBytes k x ++ post)) pre.length k = x := by
  simp [leAt, leNat_leBytes, Nat.mod_eq_of_lt h]

/-- A field of one byte behind `pre`. -/
theorem leAt_byte (b : Byte) (pre post : List Byte) : leAt (pre ++ b :: post) pre.length 1 = b.toNat := by
  simp [leAt, leNat]

section
variable (code : Nat) (q : Req) (rest : List Byte)

theorem command_encodeRequest (h : code < 256 ^ 2) : leAt (encodeRequest code q ++ rest) 0 2 = code :=
  leAt_field h [] _

theorem seq_encodeRequest : leAt (encodeRequest code q ++ rest) 2 1 = q.seq.toNat :=
  leAt_byte q.seq (leBytes 2 code) _

theorem flags_encodeRequest : leAt (encodeRequest code q ++ rest) 3 1 = q.flags.toNat :=
  leAt_byte q.flags (leBytes 2 code ++ [q.seq]) _

theorem length_encodeRequest (h : q.payload.length ≤ 248) :
    leAt (encodeRequest code q ++ rest) 4 2 = q.payload.length :=
  leAt_field (by omega) (leBytes 2 code ++ [q.seq, q.flags]) _

theorem status_encodeRequest : leAt (encodeRequest code q ++ rest) 6 2 = q.status.toNat :=
  leAt_field q.status.isLt (leBytes 2 code ++ [q.seq, q.flags] ++ leBytes 2 q.payload.length) _

theorem payload_encodeRequest : sliceBytes (encodeRequest code q ++ rest) 8 q.payload.length = q.payload := by
  have behind : (encodeRequest code q ++ rest).drop 8 = q.payload ++ rest := rfl
  rw [sliceBytes_whole (by simp [encodeRequest]; omega), behind, List.take_left]

/-- A request read back from its bytes, whatever stands behind them in the slot. -/
theorem readReq_encodeRequest (h : q.payload.length ≤ 248) : readReq q.m (encodeRequest code q ++ rest) = q := by
  simp [readReq, seq_encodeRequest, flags_encodeRequest, status_encodeRequest, length_encodeRequest code q rest h,
    payload_encodeRequest]

end

/-- The bytes of a request that fits its slot decode to the command its code names. -/
theorem decodeRequest_encodeRequest {i : Instr} {code : Nat} {q : Req} (rest : List Byte)
    (named : commandOf code q = some i) (fits : q.payload.length ≤ 248) :
    decodeRequest q.m (encodeRequest code q ++ rest) = .ok i := by
  have hlen := length_encodeRequest code q rest fits
  have hcode := command_encodeRequest code q rest (code_lt_of_commandOf named)
  simp [decodeRequest, hlen, Nat.not_lt.2 fits, hcode, readReq_encodeRequest code q rest fits, named]

/-- Settles O3: the code of the command names it, and its request is read back from the bytes field by field. -/
theorem requestRoundTrip : Obligations.RequestRoundTrip := by
  intro i code q rest h wf
  rw [encode_of_requestOf h]
  exact decodeRequest_encodeRequest rest (commandOf_of_requestOf h) ((wf_iff_of_requestOf h).1 wf)

/-! ### Bits of the event registers (Table 2.15) -/

/-- A field replaced: the bits of the field are those of the value, the others stay. -/
theorem testBit_putBits (x start len v j : Nat) :
    (putBits x start len v).testBit j
      = if start ≤ j ∧ j < start + len then v.testBit (j - start) else x.testBit j := by
  have low : bitsAt x start len * 2 ^ start + x % 2 ^ start = x % 2 ^ (start + len) := by
    rw [bitsAt, Nat.shiftRight_eq_div_pow, Nat.pow_add, Nat.mod_mul, Nat.mul_comm, Nat.add_comm]
  have whole : 2 ^ (start + len) * (x >>> (start + len)) + x % 2 ^ (start + len) = x := by
    rw [Nat.shiftRight_eq_div_pow, Nat.div_add_mod]
  have parts : putBits x start len v
      = 2 ^ start * (2 ^ len * (x >>> (start + len)) + v % 2 ^ len) + x % 2 ^ start := by
    rw [putBits, Nat.mul_add, ← Nat.mul_assoc, ← Nat.pow_add, Nat.mul_comm (v % 2 ^ len)]
    omega
  rw [parts, Nat.testBit_two_pow_mul_add _ (Nat.mod_lt _ (Nat.two_pow_pos _)),
    Nat.testBit_two_pow_mul_add _ (Nat.mod_lt _ (Nat.two_pow_pos _))]
  by_cases below : j < start
  · simp [below, Nat.testBit_mod_two_pow, Nat.not_le.2 below]
  · by_cases inside : j < start + len
    · have within : j - start < len := by omega
      simp [below, inside, within, Nat.testBit_mod_two_pow, Nat.not_lt.1 below]
    · have beyond : ¬ j - start < len := by omega
      have above : start + len + (j - start - len) = j := by omega
      simp [below, inside, beyond, Nat.testBit_shiftRight, above]

/-- A word of a 256-bit group cleared where `v` holds 1. -/
theorem getLsbD_clearWord (x : BitVec 256) (v : Word) (k : Nat) {j : Nat} (hj : j < 256) :
    (x &&& ~~~(BitVec.ofNat 256 (v.toNat * 2 ^ (32 * k)))).getLsbD j
      = (x.getLsbD j && !(decide (j / 32 = k) && v.getLsbD (j % 32))) := by
  have word : (BitVec.ofNat 256 (v.toNat * 2 ^ (32 * k))).getLsbD j
      = (decide (32 * k ≤ j) && v.getLsbD (j - 32 * k)) := by
    rw [BitVec.getLsbD_ofNat, Nat.testBit_mul_two_pow, decide_eq_true hj, Bool.true_and, BitVec.getLsbD]
  rw [BitVec.getLsbD_and, BitVec.getLsbD_not, word]
  by_cases inside : j / 32 = k
  · have place : j - 32 * k = j % 32 := by omega
    have from_start : 32 * k ≤ j := by omega
    simp [hj, inside, place, from_start]
  · by_cases below : j < 32 * k
    · simp [hj, inside, Nat.not_le.2 below]
    · have above : 32 ≤ j - 32 * k := by omega
      simp [hj, inside, BitVec.getLsbD_of_ge _ _ above]

/-- A word of a 256-bit group replaced. -/
theorem getLsbD_putWord (x : BitVec 256) (v : Word) (k : Nat) {j : Nat} (hj : j < 256) :
    (BitVec.ofNat 256 (putBits x.toNat (32 * k) 32 v.toNat)).getLsbD j
      = if j / 32 = k then v.getLsbD (j % 32) else x.getLsbD j := by
  rw [BitVec.getLsbD_ofNat, decide_eq_true hj, Bool.true_and, testBit_putBits]
  by_cases inside : j / 32 = k
  · have place : j - 32 * k = j % 32 := by omega
    rw [if_pos inside, if_pos (by omega), place, BitVec.getLsbD]
  · rw [if_neg inside, if_neg (by omega), BitVec.getLsbD]

/-! ### Writes of the port page (R34) -/

/-- An event leaves the port pages answering. -/
theorem portsLive_raise (ev arg : Nat) (s : State) : portsLive (raise ev arg s) = portsLive s := by
  unfold portsLive powered active
  rw [raise_boot, raise_pwr]

/-- A write while the pages answer reaches the register of the offset that remains. -/
theorem exec_registerWrite {s : State} (live : portsLive s = true) (m : Fin 4) (offset : Byte) (v : Word) :
    exec (.registerWrite m offset v) s
      = .next (regWrite m (hostOffset offset s).1 v (hostOffset offset s).2) :=
  congrArg Host.Outcome.next (if_pos live)

theorem hostOffset_aligned {offset : Byte} (h : offset &&& 0x83 = 0) (s : State) :
    hostOffset offset s = (offset.toNat, s) :=
  if_pos h

theorem hostOffset_misaligned {offset : Byte} (h : offset &&& 0x83 ≠ 0) (s : State) :
    hostOffset offset s = ((offset &&& 0x7C).toNat, raise 244 2 s) :=
  if_neg h

/-- What remains of an offset is aligned. -/
theorem masked_aligned (offset : Byte) : (offset &&& 0x7C) &&& 0x83 = 0 := by
  rw [BitVec.and_assoc]
  exact BitVec.and_zero

theorem registerWrite_aligned {s : State} (live : portsLive s = true) {offset : Byte} (h : offset &&& 0x83 = 0)
    (m : Fin 4) (v : Word) : exec (.registerWrite m offset v) s = .next (regWrite m offset.toNat v s) := by
  rw [exec_registerWrite live, hostOffset_aligned h]

/-- The offsets of the page's words (Table 2.4). -/
theorem wordOffset_aligned : ∀ a < 0x80, a % 4 = 0 → BitVec.ofNat 8 a &&& 0x83 = 0 := by decide

/-- A write of the word at `a`. -/
theorem registerWrite_word {s : State} (live : portsLive s = true) {a : Nat} (below : a < 0x80) (word : a % 4 = 0)
    (m : Fin 4) (v : Word) : exec (.registerWrite m (BitVec.ofNat 8 a) v) s = .next (regWrite m a v s) := by
  have offset : (BitVec.ofNat 8 a).toNat = a := Nat.mod_eq_of_lt (by omega)
  rw [registerWrite_aligned live (wordOffset_aligned a below word), offset]

section
variable (m : Fin 4) (v : Word) (s : State)

/-- PP_MBX_PTR (Table 2.11). -/
theorem regWrite_mbxPtr : regWrite m 0x18 v s = onPort m (fun p => { p with
    ptrSlot := v.getLsbD 8, ptrWord := Fin.ofNat 64 (v.toNat / 4) }) s := by
  have word : Fin.ofNat 64 (bitsAt v.toNat 2 6) = Fin.ofNat 64 (v.toNat / 4) := by
    simp [Fin.ext_iff, bitsAt, Nat.shiftRight_eq_div_pow]
  rw [← word]
  rfl

/-- PP_IRQCFG, written by the owner or while there is none (Table 2.14). -/
theorem regWrite_irqcfg (h : s.own.owner = none ∨ s.own.owner = some m) :
    regWrite m 0x24 v s = { s with own.irqcfg := v &&& 0x00FF3F3F } := by
  have may : ownerOrNone s m = true := by rcases h with h | h <;> simp [ownerOrNone, isOwner, h]
  simp [regWrite, may]

/-- PP_EVSUMk (Table 2.15). -/
theorem regWrite_evsum {k : Nat} (h : k < 8) : regWrite m (0x40 + 4 * k) v s = onPort m (fun p => { p with
    evsum := p.evsum &&& ~~~(BitVec.ofNat 256 (v.toNat * 2 ^ (32 * k))) }) s := by
  have register : (0x40 + 4 * k) / 4 = k + 16 := by omega
  have inSum : 16 ≤ k + 16 ∧ k + 16 < 24 := by omega
  rw [regWrite, register]
  exact if_pos inSum

/-- PP_EVMASKk (Table 2.15). -/
theorem regWrite_evmask {k : Nat} (h : k < 8) : regWrite m (0x60 + 4 * k) v s = onPort m (fun p => { p with
    evmask := BitVec.ofNat 256 (putBits p.evmask.toNat (32 * k) 32 v.toNat) }) s := by
  have register : (0x60 + 4 * k) / 4 = k + 24 := by omega
  have pastSum : ¬ (16 ≤ k + 24 ∧ k + 24 < 24) := by omega
  have inMask : 24 ≤ k + 24 ∧ k + 24 < 32 := by omega
  rw [regWrite, register]
  exact (if_neg pastSum).trans (if_pos inMask)

end

/-- Settles O9: a write at an aligned offset is the register's own write, and the E244 of a misaligned one leaves the
pages answering. -/
theorem registerWrites : Obligations.RegisterWrites := by
  intro m v s live
  refine ⟨registerWrite_word live (a := 0x08) (by decide) rfl m v, ?ptr, ?irqcfg, ?evsum, ?evmask, ?misaligned⟩
  case ptr =>
    rw [← regWrite_mbxPtr]
    exact registerWrite_word live (a := 0x18) (by decide) rfl m v
  case irqcfg =>
    intro owner
    rw [← regWrite_irqcfg m v s owner]
    exact registerWrite_word live (a := 0x24) (by decide) rfl m v
  case evsum =>
    intro k hk
    refine ⟨_, registerWrite_word live (by omega) (by omega) m v, ?_⟩
    rw [regWrite_evsum m v s hk, portOf_onPort]
    exact ⟨rfl, fun j hj => getLsbD_clearWord _ v k hj⟩
  case evmask =>
    intro k hk
    refine ⟨_, registerWrite_word live (by omega) (by omega) m v, ?_⟩
    rw [regWrite_evmask m v s hk, portOf_onPort]
    exact ⟨rfl, fun j hj => getLsbD_putWord _ v k hj⟩
  case misaligned =>
    intro offset h
    rw [exec_registerWrite live, hostOffset_misaligned h,
      registerWrite_aligned ((portsLive_raise ..).trans live) (masked_aligned offset)]

end Sys2Proof.Proofs
end

section
/-! PROOFS of the family 04_clock_synthesis: what the stop and the return of audio leave as they were, the loops of ASYN
and CSYN, the edge line, the clock outputs, and the commands of the chapter. -/

namespace Sys2Proof.Proofs

open Sys2Proof Sys2Proof.Machine Sys2Proof.Laws

/-! ### What the stop and the return of audio leave as they were (R90, Tables 4.10, 4.11 and 8.8) -/

/-- What no operation of the audio paths changes but by name: halls, device time, boot, clocks, sleep, the change of Fh,
and whether a response stands on each master's page.  Each operation below is shown to keep it whole, so that a row which runs
through many of them changes of it only what the row itself writes. -/
structure Backbone where
  halls : Vector Hall 7
  time : Time
  boot : Boot
  clk : Clk
  asleep : Option Sleep
  entry : Option SleepEntry
  fhChange : Option FhChange
  rspReady : Vector Bool 4

/-- The backbone of a state. -/
def backbone (s : State) : Backbone where
  halls := s.halls
  time := s.time
  boot := s.boot
  clk := s.clk
  asleep := s.pwr.asleep
  entry := s.pwr.entry
  fhChange := s.fab.fhChange
  rspReady := s.ports.map (·.rspReady)

/-- The backbone of a state written out field by field. The proof goes by rewriting: a definitional one would have the kernel
compare the fields that are left out, page contents among them, whenever it is used. -/
@[simp] theorem backbone_mk (halls : Vector Hall 7) (ports : Vector Port 4) (own : Own) (ev : Events) (time : Time)
    (pwr : Power) (boot : Boot) (clk : Clk) (ana : Ana) (mic : Mic) (flt : Flt) (fab : Fabric) (tdm : Tdm) (gra : Graph)
    (sch : Sched) (drv : Drv) (prot : Prot) (ring : Ring) (hk : Hk) (svc : Svc) (free : Nat) (pending : List Instr) :
    backbone ⟨halls, ports, own, ev, time, pwr, boot, clk, ana, mic, flt, fab, tdm, gra, sch, drv, prot, ring, hk, svc,
        free, pending⟩
      = ⟨halls, time, boot, clk, pwr.asleep, pwr.entry, fab.fhChange, ports.map (·.rspReady)⟩ := by
  rw [backbone]

/-- The fields of one state put together again. -/
@[simp] theorem backbone_eta (s : State) :
    Backbone.mk s.halls s.time s.boot s.clk s.pwr.asleep s.pwr.entry s.fab.fhChange (s.ports.map (·.rspReady))
      = backbone s := rfl

@[simp] theorem backbone_clk (s : State) : (backbone s).clk = s.clk := rfl
@[simp] theorem backbone_asleep (s : State) : (backbone s).asleep = s.pwr.asleep := rfl
@[simp] theorem backbone_entry (s : State) : (backbone s).entry = s.pwr.entry := rfl

@[simp] theorem backbone_ite (c : Prop) [Decidable c] (a b : State) :
    backbone (if c then a else b) = if c then backbone a else backbone b := apply_ite ..

/-- Steps that keep the backbone, one after another. -/
@[simp] theorem backbone_foldl {α : Type} {f : State → α → State} (h : ∀ s a, backbone (f s a) = backbone s) (l : List α)
    (s : State) : backbone (l.foldl f s) = backbone s := by
  induction l generalizing s with
  | nil => rfl
  | cons a l ih => exact (ih _).trans (h s a)

/-! #### Pages, events and completions -/

theorem backbone_onPort {m : Fin 4} {f : Port → Port} (h : ∀ p, (f p).rspReady = p.rspReady) (s : State) :
    backbone (onPort m f s) = backbone s := by
  have ports : (onPort m f s).ports.map (·.rspReady) = s.ports.map (·.rspReady) := by
    ext k hk
    by_cases at_ : m.val = k <;> simp [onPort, get_eq_getElem, h, at_]
  simp only [backbone, ports, onPort_halls, onPort_time, onPort_boot, onPort_clk, onPort_pwr, onPort_fab]

theorem rspReady_raiseAt (ev arg stamp : Nat) (s : State) :
    (raiseAt ev arg stamp s).ports.map (·.rspReady) = s.ports.map (·.rspReady) := by
  unfold raiseAt raiseRec
  split
  · rfl
  · split
    · rfl
    · simp [deliver_ports]

@[simp] theorem backbone_raise (ev arg : Nat) (s : State) : backbone (raise ev arg s) = backbone s := by
  have ports := rspReady_raiseAt ev arg (stampNow s) s
  unfold backbone
  rw [show (raise ev arg s).ports.map (·.rspReady) = _ from ports, raise_halls, raise_time, raise_boot, raise_clk,
    raise_fab, raise_pwr]

theorem backbone_completeOn (m : Fin 4) (cid : Nat) (st : Status) (flags : Nat) (payload : List Byte) (s : State) :
    backbone (completeOn m cid st flags payload s) = backbone s := by
  unfold completeOn
  split
  · rfl
  · simp [backbone_onPort]

@[simp] theorem backbone_completeWith (cid : Nat) (st : Status) (flags : Nat) (payload : List Byte) (s : State) :
    backbone (completeWith cid st flags payload s) = backbone s := by
  unfold completeWith
  split
  · simp [completeNow, backbone_completeOn]
  · simp [completeNow, backbone_completeOn]

@[simp] theorem backbone_complete (cid : Option Nat) (st : Status) (s : State) :
    backbone (complete cid st s) = backbone s := by
  cases cid <;> simp [complete]

@[simp] theorem backbone_completeP (cid : Option Nat) (st : Status) (flags : Nat) (payload : List Byte) (s : State) :
    backbone (completeP cid st flags payload s) = backbone s := by
  cases cid <;> simp [completeP]

@[simp] theorem backbone_completeAll (cids : List Nat) (st : Status) (s : State) :
    backbone (completeAll cids st s) = backbone s :=
  backbone_foldl (fun _ _ => backbone_completeWith ..) cids s

@[simp] theorem backbone_lateDone (before after : Option Late) (s : State) :
    backbone (lateDone before after s) = backbone s := by
  simp [lateDone]

/-! #### Grants, open values, and pauses of the graph -/

@[simp] theorem backbone_askGrant (work : GrantFor) (cid : Option Nat) (requester core bulk ports : Nat) (s : State) :
    backbone (askGrant work cid requester core bulk ports s).1 = backbone s := by
  unfold askGrant
  simp only []
  split
  · simp
  · split <;> simp

@[simp] theorem backbone_releaseGrant (work : GrantFor) (s : State) :
    backbone (releaseGrant work s) = backbone s := by
  simp [releaseGrant]

@[simp] theorem backbone_freshNat (s : State) : backbone (freshNat s).2 = backbone s := rfl

@[simp] theorem backbone_pauseSet (c : Nat) (s : State) : backbone (pauseSet c s) = backbone s := by
  simp [pauseSet]

@[simp] theorem backbone_pauseClear (c : Nat) (s : State) : backbone (pauseClear c s) = backbone s := by
  simp [pauseClear]

@[simp] theorem backbone_fhGraph (s : State) : backbone (fhGraph s) = backbone s := by simp [fhGraph]

/-! #### Chains, lanes and landings -/

section
variable (c n : Nat) (s : State)

@[simp] theorem backbone_onChain (f : Chain → Chain) : backbone (onChain c f s) = backbone s := rfl

@[simp] theorem backbone_fadeEnd (b : Bool) : backbone (fadeEnd c b s) = backbone s := by
  unfold fadeEnd
  split <;> simp

@[simp] theorem backbone_chainSync : backbone (chainSync c s) = backbone s := by
  unfold chainSync
  split
  · rfl
  · split <;> simp

@[simp] theorem backbone_chainSyncAll : backbone (chainSyncAll s) = backbone s :=
  backbone_foldl (fun _ _ => backbone_chainSync ..) _ s

@[simp] theorem backbone_chainStart : backbone (chainStart c s) = backbone s := by simp [chainStart]

@[simp] theorem backbone_delayCut : backbone (delayCut c s) = backbone s := by simp [delayCut]

@[simp] theorem backbone_delayBegin (d : Nat) (cid : Option Nat) : backbone (delayBegin c d cid s).1 = backbone s := by
  unfold delayBegin
  simp only []
  split <;> simp [putDelay]

@[simp] theorem backbone_delayDone : backbone (delayDone c s) = backbone s := by
  unfold delayDone
  split
  · rfl
  · simp only []
    split <;> simp

@[simp] theorem backbone_chainTake (mask : Nat) : backbone (chainTake mask c s) = backbone s := by
  unfold chainTake
  simp only []
  split
  · rfl
  · simp

@[simp] theorem backbone_chainStop : backbone (chainStop c s) = backbone s := by
  unfold chainStop
  split <;> simp

@[simp] theorem backbone_onLane (f : Lane → Lane) : backbone (onLane c f s) = backbone s := rfl

@[simp] theorem backbone_laneTo (st : LaneState) : backbone (laneTo c st s) = backbone s := by simp [laneTo]

@[simp] theorem backbone_laneDone (st : Status) : backbone (laneDone c st s) = backbone s := by simp [laneDone]

@[simp] theorem backbone_laneFollow : backbone (laneFollow s) = backbone s :=
  backbone_foldl (fun _ _ => by simp) _ _

@[simp] theorem backbone_lanesKeep (on : Bool) : backbone (lanesKeep on s) = backbone s := rfl

@[simp] theorem backbone_landLose : backbone (landLose c s) = backbone s := by simp [landLose, onLand]

@[simp] theorem backbone_landFollow : backbone (landFollow s) = backbone s :=
  backbone_foldl (fun _ _ => by simp) _ _

@[simp] theorem backbone_landAfresh : backbone (landAfresh s) = backbone s :=
  backbone_foldl (fun _ _ => by simp) _ _

@[simp] theorem backbone_pathFollow : backbone (pathFollow s) = backbone s := by simp [pathFollow]

/-! #### Drive ports -/

@[simp] theorem backbone_onDrv (f : DrvPort → DrvPort) : backbone (onDrv n f s) = backbone s := rfl

@[simp] theorem backbone_onGrp (f : DrvGroup → DrvGroup) : backbone (onGrp n f s) = backbone s := rfl

@[simp] theorem backbone_drvJobsDone : backbone (drvJobsDone s) = backbone s :=
  backbone_foldl (fun _ _ => backbone_complete ..) _ _

@[simp] theorem backbone_drvSettle : backbone (drvSettle s) = backbone s := by simp [drvSettle]

@[simp] theorem backbone_drvTo (st : DrvState) : backbone (drvTo n st s) = backbone s := by simp [drvTo]

@[simp] theorem backbone_drvTake : backbone (drvTake n s) = backbone s := by simp [drvTake]

@[simp] theorem backbone_drvIdle : backbone (drvIdle n s) = backbone s := by simp [drvIdle]

@[simp] theorem backbone_drvTakeEn : backbone (drvTakeEn n s) = backbone s := by simp [drvTakeEn, drvPutEn]

@[simp] theorem backbone_drvStage (code len : Nat) : backbone (drvStage n code len s) = backbone s := rfl

@[simp] theorem backbone_drvGo : backbone (drvGo n s) = backbone s := by simp [drvGo, drvBias]

@[simp] theorem backbone_grpRefused : backbone (grpRefused n s) = backbone s := by
  simp [grpRefused]

@[simp] theorem backbone_grpStart (cid : Option Nat) (who : Nat) : backbone (grpStart n cid who s) = backbone s := by
  unfold grpStart
  simp only []
  split <;> simp

@[simp] theorem backbone_drvStart (cid : Option Nat) (who : Nat) : backbone (drvStart n cid who s) = backbone s := by
  simp [drvStart, drvLoad]

@[simp] theorem backbone_drvQuietOver : backbone (drvQuietOver s) = backbone s := by
  simp [drvQuietOver]

@[simp] theorem backbone_grpDown : backbone (grpDown n s) = backbone s := by
  unfold grpDown
  simp only []
  split <;> simp [grpStop, retryLater]

@[simp] theorem backbone_grpIdle : backbone (grpIdle n s) = backbone s := by
  simp [grpIdle]

@[simp] theorem backbone_drvStopped : backbone (drvStopped n s) = backbone s := by simp [drvStopped]

@[simp] theorem backbone_drvDown (code : Nat) : backbone (drvDown n code s) = backbone s := by
  unfold drvDown
  simp only []
  split <;> simp

@[simp] theorem backbone_drvDisable : backbone (drvDisable n s) = backbone s := by
  unfold drvDisable
  simp only []
  split
  case h_5 =>
    split
    · simp
    · split <;> simp [drvReverse]
  all_goals simp

@[simp] theorem backbone_charPut (code : Nat) : backbone (charPut n code s) = backbone s := by simp [charPut]

@[simp] theorem backbone_grpsIdle : backbone (grpsIdle s) = backbone s :=
  backbone_foldl (fun _ _ => backbone_grpIdle ..) _ _

@[simp] theorem backbone_charFinish : backbone (charFinish s) = backbone s := by
  unfold charFinish
  split <;> simp

@[simp] theorem backbone_charAbort : backbone (charAbort s) = backbone s := by
  unfold charAbort
  split
  · rfl
  · rw [backbone_charFinish]
    refine (backbone_foldl (fun _ _ => backbone_charPut ..) _ _).trans ?_
    split <;> simp

@[simp] theorem backbone_drvQuiet : backbone (drvQuiet n s) = backbone s := by
  unfold drvQuiet
  simp only []
  split <;> simp

@[simp] theorem backbone_drvQuietAll : backbone (drvQuietAll s) = backbone s := by
  simp [drvQuietAll]
end

/-! #### Analog functions -/

section
variable (i : Nat) (s : State)

@[simp] theorem backbone_onFn (f : AnaFn → AnaFn) : backbone (onFn i f s) = backbone s := rfl

@[simp] theorem backbone_stageEvent (code : Nat) : backbone (stageEvent i code s) = backbone s := backbone_raise ..

@[simp] theorem backbone_restHeld : backbone (restHeld i s) = backbone s := by simp [restHeld]

@[simp] theorem backbone_enterStage (code len : Nat) : backbone (enterStage i code len s) = backbone s := by
  simp [enterStage]

@[simp] theorem backbone_upFrom (code : Nat) : backbone (upFrom i code s) = backbone s := by
  unfold upFrom
  split <;> simp

@[simp] theorem backbone_waitStart : backbone (waitStart i s) = backbone s := rfl

@[simp] theorem backbone_pumpRefused : backbone (pumpRefused s) = backbone s := by
  unfold pumpRefused
  simp only []
  split <;> simp

@[simp] theorem backbone_askPump (cid : Option Nat) (who : Nat) : backbone (askPump cid who s) = backbone s := by
  simp [askPump]

@[simp] theorem backbone_needPump (cid : Option Nat) (who : Nat) : backbone (needPump cid who s) = backbone s := by
  unfold needPump
  split <;> simp

@[simp] theorem backbone_beginUp (cid : Option Nat) (who : Nat) : backbone (beginUp i cid who s) = backbone s := by
  simp [beginUp]

@[simp] theorem backbone_pumpIfIdle : backbone (pumpIfIdle s) = backbone s := by simp [pumpIfIdle]

@[simp] theorem backbone_downFrom (code : Nat) : backbone (downFrom i code s) = backbone s := by
  unfold downFrom
  split
  · simp
  · split <;> simp

@[simp] theorem backbone_anaJobsDone : backbone (anaJobsDone s) = backbone s := by simp [anaJobsDone]

@[simp] theorem backbone_unholdFn : backbone (unholdFn i s) = backbone s := by
  unfold unholdFn
  simp only []
  split <;> simp

@[simp] theorem backbone_anaUnhold : backbone (anaUnhold s) = backbone s := by simp [anaUnhold]

@[simp] theorem backbone_cancelWait : backbone (cancelWait i s) = backbone s := by simp [cancelWait]

@[simp] theorem backbone_measureLeave : backbone (measureLeave i s) = backbone s := by simp [measureLeave]

@[simp] theorem backbone_measureEnd (zl zr cl cr : Nat) : backbone (measureEnd zl zr cl cr s) = backbone s := by
  unfold measureEnd
  split
  · rfl
  · rw [backbone_completeP, backbone_pumpIfIdle, backbone_measureLeave, backbone_measureLeave]
    simp only [backbone_ite, backbone_mk, backbone_eta, backbone_raise, ite_self]

@[simp] theorem backbone_measureAbort : backbone (measureAbort s) = backbone s := by simp [measureAbort]

@[simp] theorem backbone_measureGo : backbone (measureGo s) = backbone s := by
  unfold measureGo
  split <;> simp

@[simp] theorem backbone_measureJoin (cid : Option Nat) (who : Nat) : backbone (measureJoin cid who s i) = backbone s := by
  unfold measureJoin
  split <;> simp [probeUp]

@[simp] theorem backbone_measureNext : backbone (measureNext s) = backbone s := by simp [measureNext]

@[simp] theorem backbone_thenDownGo : backbone (thenDownGo i s) = backbone s := by simp [thenDownGo]

@[simp] theorem backbone_stagePast : backbone (stagePast i s) = backbone s := by
  unfold stagePast
  simp only []
  split <;> simp

@[simp] theorem backbone_stageSettle : backbone (stageSettle i s) = backbone s := by simp [stageSettle, stageEnd]

@[simp] theorem backbone_holdFn (len : Nat) : backbone (holdFn i len s) = backbone s := by
  unfold holdFn
  simp only []
  split <;> simp

@[simp] theorem backbone_anaHold (len : Nat) : backbone (anaHold len s) = backbone s := by simp [anaHold]

@[simp] theorem backbone_linesResume : backbone (linesResume s) = backbone s := by
  simp [linesResume, lineStart, onLine]

theorem backbone_putAin (en gain imped rate : Nat) : backbone (putAin i en gain imped rate s) = backbone s := by
  simp [putAin]

@[simp] theorem backbone_lineFamily (fam : Bool) : backbone (lineFamily fam s) = backbone s := by
  exact backbone_foldl (fun _ _ => backbone_putAin ..) _ s

/-! #### The graph's parameters and a Sorrel run -/

@[simp] theorem backbone_svcWrite (node ofs : Nat) (data : List Byte) (cid : Option Nat) :
    backbone (svcWrite node ofs data cid s) = backbone s := rfl

@[simp] theorem backbone_mixWrite (g : Int) : backbone (mixWrite i g s) = backbone s := by
  unfold mixWrite
  split <;> simp

@[simp] theorem backbone_gainWrite (g : Int) (cid : Option Nat) : backbone (gainWrite i g cid s) = backbone s := by
  unfold gainWrite
  split <;> simp

@[simp] theorem backbone_gainFit (g : Int) : backbone (gainFit g s).2 = backbone s := by
  unfold gainFit
  split <;> rfl

@[simp] theorem backbone_roundOpen (x : Rat) : backbone (roundOpen x s).2 = backbone s := by
  unfold roundOpen
  simp only []
  split
  · rfl
  · split <;> rfl

@[simp] theorem backbone_volGain (v : Int) : backbone (volGain v s).2 = backbone s := by
  unfold volGain
  split
  · rfl
  · split <;> simp

@[simp] theorem backbone_volFollow (which : Option (Nat × Nat)) : backbone (volFollow which s) = backbone s := by
  unfold volFollow
  split
  · rfl
  · split
    · simp
    · simp only []
      split <;> simp

@[simp] theorem backbone_sorrelEnd : backbone (sorrelEnd s) = backbone s := by
  unfold sorrelEnd
  split <;> simp

@[simp] theorem backbone_sorrelPut (x : SorrelRes) : backbone (sorrelPut i x s) = backbone s := rfl

@[simp] theorem backbone_sorrelAbort : backbone (sorrelAbort s) = backbone s := by
  unfold sorrelAbort
  split
  · rfl
  · rw [backbone_sorrelEnd, backbone_foldl (fun _ _ => backbone_sorrelPut ..)]
    simp

/-! #### Digital ports and ring links -/

@[simp] theorem backbone_onTdm (f : TdmPort → TdmPort) : backbone (onTdm i f s) = backbone s := rfl

@[simp] theorem backbone_tdmQuiet : backbone (tdmQuiet i s) = backbone s := by simp [tdmQuiet]

@[simp] theorem backbone_tdmStart : backbone (tdmStart i s) = backbone s := by simp [tdmStart]

@[simp] theorem backbone_tdmResume : backbone (tdmResume s) = backbone s := by simp [tdmResume]

@[simp] theorem backbone_tdmHold : backbone (tdmHold s) = backbone s := by simp [tdmHold]

@[simp] theorem backbone_onGal (f : RingPort → RingPort) : backbone (onGal i f s) = backbone s := rfl

@[simp] theorem backbone_galTrainEnd (st : LinkState) : backbone (galTrainEnd i st s) = backbone s := by
  simp [galTrainEnd]

@[simp] theorem backbone_ringDrop : backbone (ringDrop s) = backbone s := by simp [ringDrop, forwardsDrop]

end

/-! #### The rate of the Home domain -/

@[simp] theorem backbone_convertLists (oldHz newHz from_ : Nat) (s : State) :
    backbone (convertLists oldHz newHz from_ s) = backbone s := rfl

@[simp] theorem backbone_fhApply (code : Nat) (s : State) : backbone (fhApply code s) = backbone s := by
  unfold fhApply
  rw [backbone_landAfresh, backbone_foldl (fun _ _ => by simp)]
  simp only [backbone_mk, backbone_eta, backbone_convertLists]

@[simp] theorem backbone_countGo (s : State) : backbone (countGo s) = backbone s := rfl

@[simp] theorem backbone_retimeList0 (due : Nat) (s : State) : backbone (retimeList0 due s) = backbone s := rfl

/-! ### Rows while the part runs -/

/-- Awake with no sleep entry in progress, an event wakes nothing and aborts nothing (R73, R395). -/
theorem wakeEvent_awake {ev : Nat} {s : State} (awake : s.pwr.asleep = none) (entry : s.pwr.entry = none) :
    wakeEvent ev s = s := by
  have nothing : entryCheck s = s := by
    unfold entryCheck
    split
    · simp [entryAbort, entry]
    · rfl
  simp [wakeEvent, awake, nothing]

theorem runs_awake {s : State} (runs : Runs s) : Awake s := ⟨runs.awake, runs.cross⟩

/-- HALL_CTRL, in which the loops are controlled, runs. -/
theorem runs_ctrl {s : State} (runs : Runs s) : hallRuns s hCTRL = true := runs.halls hCTRL (by decide)

theorem closed_of_le {due : Nat} {s : State} (h : due ≤ s.time.now) : closed due s = true := decide_eq_true h

@[simp] theorem raise_entry (ev arg : Nat) (s : State) : (raise ev arg s).pwr.entry = s.pwr.entry :=
  congrArg Backbone.entry (backbone_raise ev arg s)

/-- An event raised last while the part runs: the row ends with it. -/
theorem wakeEvent_raise {s : State} (ev e arg : Nat) (awake : s.pwr.asleep = none) (entry : s.pwr.entry = none) :
    wakeEvent ev (raise e arg s) = raise e arg s :=
  wakeEvent_awake ((raise_asleep ..).trans awake) ((raise_entry ..).trans entry)

/-! ### Summary bits over completions and grants (R52, R64, R383) -/

/-- Summary bits stand on the pages alone. -/
theorem raised_of_ports {e : Nat} {t u : State} (ports : t.ports = u.ports) (h : Raised e u) : Raised e t := by
  intro m
  have page : portOf t m = portOf u m := by rw [portOf, portOf, ports]
  rw [page]
  exact h m

theorem raised_ite {e : Nat} {c : Prop} [Decidable c] {a b : State} (ha : Raised e a) (hb : Raised e b) :
    Raised e (if c then a else b) := by
  split
  · exact ha
  · exact hb

theorem raised_completeNow {e cid flags : Nat} {st : Status} {payload : List Byte} {s : State} (h : Raised e s) :
    Raised e (completeNow cid st flags payload s) :=
  raised_completeOn (raised_completeOn (raised_completeOn (raised_completeOn h)))

theorem raised_completeWith {e cid flags : Nat} {st : Status} {payload : List Byte} {s : State} (h : Raised e s) :
    Raised e (completeWith cid st flags payload s) := by
  unfold completeWith
  split
  · exact raised_completeNow h
  · simp only []
    split
    · exact raised_of_ports rfl h
    · split
      · exact raised_of_ports rfl h
      · exact raised_completeNow (raised_of_ports rfl h)

theorem raised_completeP {e flags : Nat} {cid : Option Nat} {st : Status} {payload : List Byte} {s : State}
    (h : Raised e s) : Raised e (completeP cid st flags payload s) := by
  unfold completeP
  split
  · exact raised_completeWith h
  · exact h

theorem raised_completeAll {e : Nat} {cids : List Nat} {st : Status} {s : State} (h : Raised e s) :
    Raised e (completeAll cids st s) := by
  unfold completeAll
  induction cids generalizing s with
  | nil => exact h
  | cons c l ih => exact ih (raised_completeWith h)

theorem raised_askGrant {e requester core bulk ports : Nat} {work : GrantFor} {cid : Option Nat} {s : State}
    (h : Raised e s) : Raised e (askGrant work cid requester core bulk ports s).1 := by
  unfold askGrant
  simp only []
  split
  · exact raised_mono (raised_of_ports rfl h)
  · split
    · exact raised_mono (raised_of_ports rfl h)
    · exact raised_of_ports rfl h

theorem raised_releaseGrant {e : Nat} {work : GrantFor} {s : State} (h : Raised e s) :
    Raised e (releaseGrant work s) :=
  raised_ite (raised_of_ports rfl h) (raised_ite (raised_of_ports rfl h) h)

/-! ### ASYN: the reference (R87 to R93, R107) -/

section
variable {s : State} (runs : Runs s)

/-- The measurement of a reference that meets R87 ends and the search begins (Table 4.4 step 2). -/
theorem refMeasured_begins_search {freq : Nat} {e : Int} (measuring : s.clk.asyn = .measuring)
    (due : s.clk.measureDue ≤ s.time.now) (noWord : s.clk.newWord = none) (noCheck : s.clk.famCheck = none)
    (meets : refMeets (famOf s) freq e = true) :
    exec (.refMeasured freq true e) s = .next { s with clk.asyn := .search, clk.refFreq := freq, clk.refErr := e } := by
  show execRefMeasured freq true e s = _
  simp [execRefMeasured, refMeasured, noCheck, noWord, measuring, meets, closed_of_le due]

include runs

theorem exec_asynLockAttemptFail (search : s.clk.asyn = .search) : exec .asynLockAttemptFail s = .next (asynMiss s) := by
  show execAsynLockAttemptFail s = _
  simp [execAsynLockAttemptFail, search, runs_ctrl runs]

/-- The reference in use is lost: ASYN coasts, E149 (R91). -/
theorem refLost_coasts {cause : Fin 2} (locked : s.clk.asyn = .locked) (external : s.clk.ref ≠ 0) :
    exec (.refLost cause) s = .next (raise 149 (s.clk.ref * 256 + (cause.val + 1)) { s with
      clk.asyn := .coasting, clk.lost := true, clk.returning := false, clk.lostFrom := s.time.now
      clk.stepAt := none }) := by
  have lose : refLose (cause.val + 1) s = _ := if_pos (by simp [locked, external])
  show execRefLost cause s = _
  rw [execRefLost, if_pos (runs_ctrl runs), lose]
  exact congrArg Host.Outcome.next (wakeEvent_raise _ _ _ runs.awake runs.entry)

/-- A lost reference that has met R87 for 24,576 tu: E150, and the jump is measured over 8 of its periods (R92). -/
theorem refReturned_measures {freq : Nat} {e : Int} (coasts : s.clk.asyn = .coasting) (lost : s.clk.lost = true)
    (meets : refMeets (famOf s) freq e = true) (noCommand : s.clk.cid = none) (since : s.clk.lostFrom + 24576 ≤ s.time.now) :
    exec (.refReturned freq e) s = .next (raise 150 s.clk.ref { s with
      clk.lost := false, clk.returning := true, clk.refFreq := freq, clk.refErr := e
      clk.measureDue := s.time.now + (if s.clk.ref = 0 then 8 else cdiv (8 * 24576000) freq)
      clk.stepMode := Page.bit s.clk.page 15 }) := by
  show execRefReturned freq e s = _
  simp [execRefReturned, refReturned, runs_ctrl runs, coasts, lost, meets, noCommand, closed_of_le since,
    wakeEvent_raise, runs.awake, runs.entry]

end

/-! ### ASYN: the rejoin (R92, Table 4.5) -/

/-- What `t` has of the state `s` after a step of the rejoin: all but the clock, the router's state, what the router
reaches, and the place of the ticks. -/
def RejoinFrame (t s : State) : Prop :=
  t = { s with clk := t.clk, ev := t.ev, ports := t.ports, sch := t.sch, free := t.free, pwr := t.pwr, time := t.time }
    ∧ t.time.now = s.time.now ∧ t.time.start = s.time.start
    ∧ t.pwr.asleep = s.pwr.asleep ∧ t.pwr.entry = s.pwr.entry

theorem rejoinFrame_raise (ev arg : Nat) (s : State) : RejoinFrame (raise ev arg s) s := by
  refine ⟨?_, by simp, by simp, by simp, by simp⟩
  rw [show raise ev arg s = _ from raiseAt_frame ..]

theorem RejoinFrame.trans {a b c : State} (h : RejoinFrame a b) (k : RejoinFrame b c) : RejoinFrame a c := by
  obtain ⟨eq, now, start, asleep, entry⟩ := h
  obtain ⟨eq', now', start', asleep', entry'⟩ := k
  refine ⟨?_, now.trans now', start.trans start', asleep.trans asleep', entry.trans entry'⟩
  rw [eq, eq']

theorem rejoinFrame_retick (ppb : Int) (s : State) : RejoinFrame (retick ppb s) s := by
  unfold retick
  split
  · exact ⟨rfl, rfl, rfl, rfl, rfl⟩
  · exact ⟨rfl, rfl, rfl, rfl, rfl⟩

@[simp] theorem retick_clk (ppb : Int) (s : State) : (retick ppb s).clk = s.clk := by
  unfold retick
  split <;> rfl

@[simp] theorem retick_ports (ppb : Int) (s : State) : (retick ppb s).ports = s.ports := by
  unfold retick
  split <;> rfl

theorem roundMs_state (x : Rat) (s : State) : (roundMs x s).2 = { s with free := (roundMs x s).2.free } := by
  unfold roundMs
  simp only []
  split
  · rfl
  · split <;> rfl

/-- A jump of more than 1/16 tu is measured: E148 and the rejoin. -/
theorem phaseJump_rejoins {raw : Int} {s : State} (awake : Awake s)
    (jumps : 1 < (phaseReduce (alignPeriod s) raw).natAbs) :
    (phaseJump raw s).clk.asyn = .rejoining ∧ (phaseJump raw s).clk.jump = phaseReduce (alignPeriod s) raw
      ∧ Raised 148 (phaseJump raw s) ∧ RejoinFrame (phaseJump raw s) s := by
  unfold phaseJump
  extract_lets jump s₁ j _ s₂ _ step tu ms r off f lock
  have big : ¬ jump.natAbs ≤ 1 := by omega
  rw [if_neg big]
  have first : s₁ = { s with free := s₁.free } := by
    simp only [s₁]
    split <;> rfl
  have awake₁ : Awake { s₁ with clk.jump := jump, clk.returning := false } := by
    rw [first]
    exact awake
  have frame₁ : RejoinFrame { s₁ with clk.jump := jump, clk.returning := false } s := by
    rw [first]
    exact ⟨rfl, rfl, rfl, rfl, rfl⟩
  have measured : r.2.clk.jump = jump := by
    rw [show r.2 = _ from roundMs_state ms s₂]
    exact congrArg Clk.jump (raise_clk ..)
  have raised : Raised 148 r.2 := by
    refine raised_of_ports (u := s₂) ?_ (raised_raise awake₁ (by decide))
    rw [show r.2 = _ from roundMs_state ms s₂]
  have frame : RejoinFrame r.2 s := by
    refine .trans (b := s₂) ?_ ((rejoinFrame_raise ..).trans frame₁)
    rw [show r.2 = _ from roundMs_state ms s₂]
    exact ⟨rfl, rfl, rfl, rfl, rfl⟩
  split
  case isTrue => -- STEP
    refine ⟨rfl, measured, raised_of_ports (u := r.2) rfl raised, ?_⟩
    exact .trans (b := r.2) ⟨rfl, rfl, rfl, rfl, rfl⟩ frame
  case isFalse => -- SLEW
    refine ⟨rfl, (congrArg Clk.jump (retick_clk ..)).trans measured, raised_of_ports (retick_ports ..) raised, ?_⟩
    refine .trans (b := retick (refPpb s₂.clk.ref s₂ + off) r.2) ⟨rfl, rfl, rfl, rfl, rfl⟩ ?_
    exact (rejoinFrame_retick ..).trans frame

/-! ### Locks of ASYN (Tables 4.4, 4.5 and 4.10) -/

@[simp] theorem backbone_clkDone (st : Status) (s : State) :
    backbone (clkDone st s) = { backbone s with clk := { s.clk with cid := none, newWord := none } } := by
  unfold clkDone
  rw [backbone_completeP]
  rfl

@[simp] theorem clkDone_clk (st : Status) (s : State) :
    (clkDone st s).clk = { s.clk with cid := none, newWord := none } :=
  congrArg Backbone.clk (backbone_clkDone st s)

theorem raised_clkDone {e : Nat} {st : Status} {s : State} (h : Raised e s) : Raised e (clkDone st s) :=
  raised_completeP (raised_of_ports rfl h)

@[simp] theorem backbone_outsHold (s : State) : backbone (outsHold s) = { backbone s with clk := (outsHold s).clk } :=
  rfl

@[simp] theorem backbone_relockGrant (work : GrantFor) (s : State) : backbone (relockGrant work s) = backbone s := by
  simp [relockGrant]

@[simp] theorem relockGrant_clk (work : GrantFor) (s : State) : (relockGrant work s).clk = s.clk :=
  congrArg Backbone.clk (backbone_relockGrant work s)

/-- A relock holds its grant at priority 7 (R383). -/
theorem relockGrant_held (work : GrantFor) (s : State) :
    ((relockGrant work s).pwr.held.any (fun g => g.work == work && g.prio == 7)) = true := by
  rw [relockGrant, raise_pwr]
  simp

/-- The stop of the audio halls neither wakes the part nor lets it sleep. -/
theorem asynStop_sleep (s : State) :
    (asynStop s).pwr.asleep = s.pwr.asleep ∧ (asynStop s).pwr.entry = s.pwr.entry := by
  rw [← backbone_asleep, ← backbone_entry]
  simp [asynStop, countStop]

/-- What an observer sees of ASYN: its state, the band, the edge line, the reference, whether that is lost, the attempts
counted; and whether the part sleeps. -/
structure AsynView where
  asyn : Asyn
  band : Fin 64
  edge : Bool
  ref : Nat
  lost : Bool
  attempts : Nat
  asleep : Option Sleep
  entry : Option SleepEntry

/-- The view of ASYN in a backbone. -/
def Backbone.view (b : Backbone) : AsynView :=
  ⟨b.clk.asyn, b.clk.asynBand, b.clk.edge, b.clk.ref, b.clk.lost, b.clk.attempts, b.asleep, b.entry⟩

/-- What an observer sees of ASYN in a state. -/
def asynView (s : State) : AsynView := (backbone s).view

/-- The fields of a view are those of the state. -/
theorem asynView_fields {t : State} {v : AsynView} (h : asynView t = v) :
    t.clk.asyn = v.asyn ∧ t.clk.asynBand = v.band ∧ t.clk.edge = v.edge ∧ t.clk.ref = v.ref ∧ t.clk.lost = v.lost
      ∧ t.clk.attempts = v.attempts ∧ t.pwr.asleep = v.asleep ∧ t.pwr.entry = v.entry := by
  subst h
  exact ⟨rfl, rfl, rfl, rfl, rfl, rfl, rfl, rfl⟩

theorem asynView_of_backbone {t s : State} (h : backbone t = backbone s) : asynView t = asynView s :=
  congrArg Backbone.view h

theorem asynView_alignAt (m : Nat) (ppb : Int) (s : State) : asynView (alignAt m ppb s) = asynView s := by
  unfold alignAt
  simp only []
  split <;> rfl

theorem asynView_baseAlign (s : State) : asynView (baseAlign s) = asynView s := by
  have ref (ppb : Int) : asynView (alignRef ppb s) = asynView s := by
    unfold alignRef
    split
    · split
      · exact asynView_alignAt ..
      · exact asynView_alignAt ..
    · exact asynView_alignAt ..
  unfold baseAlign
  split
  · exact asynView_alignAt ..
  · exact ref _

theorem asynView_outsRestart (s : State) : asynView (outsRestart s) = asynView s := rfl

theorem asynView_clkDone (st : Status) (s : State) : asynView (clkDone st s) = asynView s :=
  (congrArg Backbone.view (backbone_clkDone st s)).trans rfl

/-- A lock on the reference aimed at: ASYN and the edge line are locked, the band found is the loop's, no attempts are
counted (Table 4.4 steps 5 to 7). -/
theorem asynView_asynLock (band : Fin 64) {s : State} (noRejoin : s.clk.rejoinRef = none) :
    asynView (asynLock band s)
      = ⟨.locked, band, true, s.clk.target, false, 0, s.pwr.asleep, s.pwr.entry⟩ := by
  unfold asynLock
  extract_lets c fam w s₁ _ s₂ s₃ s₄ s₅ s₆ s₇ s₈ _ s₉
  have locked : asynView s₁ = ⟨.locked, band, true, s.clk.target, false, 0, s.pwr.asleep, s.pwr.entry⟩ := by
    simp [s₁, c, noRejoin, asynView, Backbone.view, backbone, hallsNormal]
  have ticks : asynView s₂ = asynView s₁ := asynView_baseAlign { s₁ with clk.target := c.target }
  have told : asynView s₄ = asynView s₂ := asynView_of_backbone (by simp [s₄, s₃])
  have lines : asynView s₅ = asynView s₄ := asynView_of_backbone (by simp [s₅])
  have graph : asynView s₆ = asynView s₅ := asynView_of_backbone (by simp [s₆])
  have outs : asynView s₇ = asynView s₆ := (asynView_outsRestart _).trans (asynView_of_backbone (by simp))
  have audio : asynView s₈ = asynView s₇ := asynView_of_backbone (by simp [s₈])
  clear_value s₈
  have unbased : asynView s₉ = asynView s₈ := by
    simp only [s₉]
    split <;> rfl
  clear_value s₉
  have done : asynView (if s₉.clk.waitCsyn || s₉.clk.famCheck.isSome then s₉ else clkDone .ok s₉) = asynView s₉ := by
    split
    · rfl
    · exact asynView_clkDone ..
  rw [asynView_of_backbone (backbone_pathFollow _), done, unbased, audio, outs, graph, lines, told, ticks, locked]

/-- Neither the rate of the ticks nor their place bears on sleep and the crossings. -/
theorem retick_awake {ppb : Int} {s : State} (awake : Awake s) : Awake (retick ppb s) := by
  unfold retick
  split
  · exact awake
  · exact awake

/-- A rejoin that ends: ASYN is locked, the waiting command is done, E151 (R92). -/
theorem phaseAlign_locks {s : State} (awake : Awake s) (noCheck : s.clk.famCheck = none) :
    (phaseAlign s).clk.asyn = .locked ∧ (phaseAlign s).clk.cid = none ∧ Raised 151 (phaseAlign s)
      ∧ (phaseAlign s).pwr.asleep = s.pwr.asleep ∧ (phaseAlign s).pwr.entry = s.pwr.entry := by
  obtain ⟨-, -, -, asleep, entry⟩ := rejoinFrame_retick (refPpb s.clk.ref s) s
  have raised : Raised 151 (raise 151 s.clk.alignMs { retick (refPpb s.clk.ref s) s with
      clk.asyn := .locked, clk.returning := false, clk.stepAt := none }) :=
    raised_raise (retick_awake awake) (by decide)
  unfold phaseAlign
  rw [if_neg (by simp [noCheck])]
  refine ⟨by simp, by simp, raised_clkDone raised, ?_, ?_⟩
  · rw [← backbone_asleep, backbone_clkDone]
    exact (raise_asleep ..).trans asleep
  · rw [← backbone_entry, backbone_clkDone]
    exact (raise_entry ..).trans entry

/-- Lock lost: ASYN searches anew and holds its grant (Table 4.10). -/
theorem asynLose_searches (s : State) :
    (asynLose s).clk.asyn = .search ∧ (asynLose s).clk.attempts = 0
      ∧ ((asynLose s).pwr.held.any (fun g => g.work == .relockAsyn && g.prio == 7)) = true
      ∧ (asynLose s).pwr.asleep = s.pwr.asleep ∧ (asynLose s).pwr.entry = s.pwr.entry := by
  have sleep := asynStop_sleep (retick 0 (raise 144 0x78 (hallsFall 0x78 s)))
  unfold asynLose
  simp only []
  generalize asynStop (retick 0 (raise 144 0x78 (hallsFall 0x78 s))) = stopped at sleep ⊢
  obtain ⟨asleep, entry⟩ := sleep
  obtain ⟨-, -, -, tickAsleep, tickEntry⟩ := rejoinFrame_retick 0 (raise 144 0x78 (hallsFall 0x78 s))
  rw [tickAsleep, raise_asleep] at asleep
  rw [tickEntry, raise_entry] at entry
  refine ⟨congrArg Clk.asyn (relockGrant_clk ..), congrArg Clk.attempts (relockGrant_clk ..), relockGrant_held .., ?_, ?_⟩
  · rw [← backbone_asleep, backbone_relockGrant]
    exact asleep
  · rw [← backbone_entry, backbone_relockGrant]
    exact entry

section
variable {s : State} (runs : Runs s)
include runs

theorem asynLocked_locks {band : Fin 64} (search : s.clk.asyn = .search) (noRejoin : s.clk.rejoinRef = none) :
    exec (.asynLocked band) s = .next (asynLock band s) := by
  obtain ⟨-, -, -, -, -, -, asleep, entry⟩ := asynView_fields (asynView_asynLock band noRejoin)
  show execAsynLocked band s = _
  rw [execAsynLocked, if_pos (by simp [search, runs_ctrl runs]),
    wakeEvent_awake (asleep.trans runs.awake) (entry.trans runs.entry)]

theorem refPhaseJump_rejoins {raw : Int} (coasts : s.clk.asyn = .coasting) (returning : s.clk.returning = true)
    (due : s.clk.measureDue ≤ s.time.now) (jumps : 1 < (phaseReduce (alignPeriod s) raw).natAbs) :
    exec (.refPhaseJump raw) s = .next (phaseJump raw s) := by
  obtain ⟨-, -, -, -, -, -, asleep, entry⟩ := phaseJump_rejoins (runs_awake runs) jumps
  show execRefPhaseJump raw s = _
  rw [execRefPhaseJump, if_pos (by simp [coasts, returning, closed_of_le due, runs_ctrl runs]),
    wakeEvent_awake (asleep.trans runs.awake) (entry.trans runs.entry)]

/-- The rejoin ends at its time: E151, and the waiting command with it (R92). -/
theorem phaseAligned_locks (rejoins : s.clk.asyn = .rejoining) (noCheck : s.clk.famCheck = none)
    (due : s.clk.alignDue ≤ s.time.now) :
    ∃ t, exec .phaseAligned s = .next t ∧ t.clk.asyn = .locked ∧ t.clk.cid = none ∧ Raised 151 t := by
  obtain ⟨asyn, cid, raised, asleep, entry⟩ := phaseAlign_locks (runs_awake runs) noCheck
  refine ⟨phaseAlign s, ?_, asyn, cid, raised⟩
  show execPhaseAligned s = _
  rw [execPhaseAligned, if_pos (by simp [rejoins, closed_of_le due, runs_ctrl runs]),
    wakeEvent_awake (asleep.trans runs.awake) (entry.trans runs.entry)]

/-- Lock lost: a new search, with its grant at priority 7 (Table 4.10, R383). -/
theorem asynLockLost_searches (locked : s.clk.asyn = .locked) :
    ∃ t, exec .asynLockLost s = .next t ∧ t.clk.asyn = .search ∧ t.clk.attempts = 0
      ∧ (t.pwr.held.any (fun g => g.work == .relockAsyn && g.prio == 7)) = true := by
  obtain ⟨asyn, attempts, held, asleep, entry⟩ := asynLose_searches s
  refine ⟨asynLose s, ?_, asyn, attempts, held⟩
  show execAsynLockLost s = _
  rw [execAsynLockLost, if_pos (by simp [asynRuns, locked, runs_ctrl runs]),
    wakeEvent_awake (asleep.trans runs.awake) (entry.trans runs.entry)]
end

/-- Settles O21: each row is the operation its rule names, and the part that runs neither wakes nor gives up an entry with
its event. E149 with the third failure and the jump's whole unit are the model's choices (log entries "Lock attempts" and
"Base tick"). -/
theorem asynLoop : Obligations.AsynLoop := by
  intro s runs
  refine ⟨fun _ _ => refMeasured_begins_search, ?locked, ?fails, ?third, fun _ => refLost_coasts runs,
    fun _ _ => refReturned_measures runs, ?jump, phaseAligned_locks runs, asynLockLost_searches runs⟩
  case locked =>
    intro band search noRejoin _
    obtain ⟨asyn, asynBand, edge, ref, lost, attempts, -, -⟩ := asynView_fields (asynView_asynLock band noRejoin)
    exact ⟨_, asynLocked_locks runs search noRejoin, asyn, asynBand, edge, attempts, ref, lost⟩
  case fails =>
    intro search external fewer
    rw [exec_asynLockAttemptFail runs search, asynMiss, if_neg external, if_pos fewer]
  case third =>
    intro search external two
    rw [exec_asynLockAttemptFail runs search, asynMiss, if_neg external, if_neg (by omega)]
  case jump =>
    intro raw jump coasts returning due reduced big
    subst reduced
    obtain ⟨asyn, measured, raised, frame, now, start, -, -⟩ := phaseJump_rejoins (runs_awake runs) big
    exact ⟨_, refPhaseJump_rejoins runs coasts returning due big, asyn, measured, raised, now, start, frame⟩

/-! ### CSYN and AUTO's look at the level (Tables 4.7 and 4.11, R381) -/

@[simp] theorem backbone_levelBegin (level : Nat) (cid : Option Nat) (who : Nat) (s : State) :
    backbone (levelBegin level cid who s) = backbone s := by
  simp [levelBegin]

@[simp] theorem backbone_levelRequest (level : Nat) (cid : Option Nat) (who : Nat) (s : State) :
    backbone (levelRequest level cid who s) = backbone s := by
  unfold levelRequest
  split
  · simp
  · split
    · simp
    · simp only []
      split <;> simp

@[simp] theorem backbone_autoRaise (s : State) : backbone (autoRaise s) = backbone s := by
  simp [autoRaise, autoHold, ownLevel]

theorem raised_levelBegin {e level who : Nat} {cid : Option Nat} {s : State} (h : Raised e s) :
    Raised e (levelBegin level cid who s) := by
  unfold levelBegin
  extract_lets c cost _ r
  have asked : Raised e r.1 := raised_askGrant (raised_of_ports (u := s) rfl h)
  clear_value r
  split
  · exact raised_completeP (raised_of_ports (u := r.1) rfl asked)
  · exact asked

/-- Raising the level at a lock clears no summary bit. -/
theorem raised_autoRaise {e : Nat} {s : State} (noChange : s.pwr.change = none) (h : Raised e s) :
    Raised e (autoRaise s) := by
  have asked (level : Nat) : Raised e (levelRequest level none 4 s) := by
    have begins : levelRequest level none 4 s = if level = s.pwr.level then s else levelBegin level none 4 s := by
      simp [levelRequest, noChange, completeP]
    rw [begins]
    split
    · exact h
    · exact raised_levelBegin h
  have own (level : Nat) : Raised e (ownLevel level s) := raised_ite h (raised_ite h (raised_ite h (asked level)))
  exact raised_ite h (raised_ite (raised_ite (own _) h) h)

@[simp] theorem raise_change (ev arg : Nat) (s : State) : (raise ev arg s).pwr.change = s.pwr.change := by
  rw [raise_pwr]

@[simp] theorem releaseGrant_change (work : GrantFor) (s : State) :
    (releaseGrant work s).pwr.change = s.pwr.change := by
  unfold releaseGrant
  split
  · rfl
  · split <;> rfl

/-- A hall of the mask runs on its normal clock. -/
theorem hallsNormal_clk {mask h : Nat} (s : State) (hall : h < 7) (named : maskBit mask h = true) :
    (hallOf (hallsNormal mask s) h).clk = .normal := by
  rw [hallOf, hallsNormal, onHalls, vget_vmapi _ _ hall, if_pos named]

/-- The clocks of the halls bear on no crossing. -/
theorem hallsNormal_awake {mask : Nat} {s : State} (awake : Awake s) : Awake (hallsNormal mask s) := by
  obtain ⟨asleep, opened⟩ := awake
  refine ⟨asleep, ?_⟩
  simp only [hallsOpen, maskList, List.all_eq_true, List.mem_filter, List.mem_range] at opened ⊢
  intro h hall
  have cross : (hallOf (hallsNormal mask s) h).cross = (hallOf s h).cross := by
    rw [hallOf, hallsNormal, onHalls, vget_vmapi _ _ hall.1]
    split <;> rfl
  rw [cross]
  exact opened h hall

/-- CSYN loses lock with no change of level under way: it searches at the level in force (Table 4.11). -/
theorem csynLose_searches {s : State} (awake : Awake s) (noChange : s.pwr.change = none) :
    (csynLose s).clk.csyn = .search ∧ (csynLose s).clk.csynLost = true ∧ (csynLose s).clk.csynAttempts = 0
      ∧ (csynLose s).clk.csynLevel = s.pwr.level ∧ Raised 145 (csynLose s)
      ∧ ((csynLose s).pwr.held.any (fun g => g.work == .relockCsyn && g.prio == 7)) = true
      ∧ (csynLose s).pwr.asleep = s.pwr.asleep ∧ (csynLose s).pwr.entry = s.pwr.entry := by
  have level : csynLose s
      = relockGrant .relockCsyn (csynRetarget s.pwr.level (raise 145 6 { s with clk.csynLost := true })) := by
    simp [csynLose, noChange]
  have told : Raised 145 (raise 145 6 { s with clk.csynLost := true }) := raised_raise awake (by decide)
  have clk : (csynLose s).clk = { s.clk with
      csyn := .search, csynLost := true, csynLevel := s.pwr.level, csynAttempts := 0, csynFell := false } := by
    rw [level, relockGrant_clk]
    simp [csynRetarget, hallsFall]
  rw [clk]
  refine ⟨rfl, rfl, rfl, rfl, ?_, ?_, ?_, ?_⟩
  · rw [level]
    exact raised_mono (raised_of_ports rfl told)
  · rw [level]
    exact relockGrant_held ..
  · rw [level, ← backbone_asleep, backbone_relockGrant]
    exact raise_asleep ..
  · rw [level, ← backbone_entry, backbone_relockGrant]
    exact raise_entry ..

/-- CSYN locks with no change of level under way and no command waiting for it: E147, the halls change to CSYN, and AUTO
looks at the level (Table 4.7 step 4). -/
theorem csynLock_eq {band : Fin 64} {s : State} (noChange : s.pwr.change = none) (noWait : s.clk.waitCsyn = false) :
    csynLock band s = autoRaise (releaseGrant .relockCsyn (raise 147 band.val (hallsNormal 6 { s with
      clk.csyn := .locked, clk.csynBand := band, clk.csynAttempts := 0, clk.csynLost := false
      clk.csynBack := s.clk.csynBack || csynReturns s }))) := by
  unfold csynLock
  extract_lets back _ s₁ s₂
  have level : levelLocked s₂ = s₂ := by
    have none : s₂.pwr.change = none := by simp [s₂, s₁, hallsNormal, noChange]
    simp [levelLocked, none]
  have waited : csynWaited s₂ = s₂ := by
    have clk : s₂.clk = s₁.clk := congrArg Backbone.clk (show backbone s₂ = backbone s₁ by simp [s₂])
    have none : s₂.clk.waitCsyn = false := by
      rw [clk]
      exact noWait
    simp [csynWaited, none]
  rw [level, ite_self, waited]

theorem csynLock_locks {band : Fin 64} {s : State} (awake : Awake s) (noChange : s.pwr.change = none)
    (noWait : s.clk.waitCsyn = false) :
    (csynLock band s).clk.csyn = .locked ∧ (csynLock band s).clk.csynBand = band
      ∧ (csynLock band s).clk.csynAttempts = 0 ∧ Raised 147 (csynLock band s)
      ∧ (hallOf (csynLock band s) 1).clk = .normal ∧ (hallOf (csynLock band s) 2).clk = .normal
      ∧ (csynLock band s).time = s.time
      ∧ (csynLock band s).pwr.asleep = s.pwr.asleep ∧ (csynLock band s).pwr.entry = s.pwr.entry := by
  have eq := csynLock_eq (band := band) noChange noWait
  generalize locked : { s with
      clk.csyn := .locked, clk.csynBand := band, clk.csynAttempts := 0, clk.csynLost := false
      clk.csynBack := s.clk.csynBack || csynReturns s } = l at eq
  have kept : backbone (csynLock band s) = backbone (hallsNormal 6 l) := by
    rw [eq]
    simp
  have halls : (csynLock band s).halls = (hallsNormal 6 l).halls := congrArg Backbone.halls kept
  have clk : (csynLock band s).clk = l.clk := congrArg Backbone.clk kept
  have told : Raised 147 (raise 147 band.val (hallsNormal 6 l)) :=
    raised_raise (hallsNormal_awake (locked ▸ awake)) (by decide)
  refine ⟨?_, ?_, ?_, ?_, ?_, ?_, ?_, ?_, ?_⟩
  · rw [clk, ← locked]
  · rw [clk, ← locked]
  · rw [clk, ← locked]
  · rw [eq]
    exact raised_autoRaise (by simp [← locked, hallsNormal, noChange]) (raised_releaseGrant told)
  · rw [hallOf, halls]
    exact hallsNormal_clk l (by decide) (by decide)
  · rw [hallOf, halls]
    exact hallsNormal_clk l (by decide) (by decide)
  · rw [show (csynLock band s).time = _ from congrArg Backbone.time kept, ← locked]
    rfl
  · rw [show (csynLock band s).pwr.asleep = _ from congrArg Backbone.asleep kept, ← locked]
    rfl
  · rw [show (csynLock band s).pwr.entry = _ from congrArg Backbone.entry kept, ← locked]
    rfl

/-! ### The edge line and the clock outputs (R98 to R102) -/

/-- The line opens, and ASYN stays as it was (R98). -/
theorem edgeLose_opens (s : State) :
    (edgeLose s).clk.edge = false ∧ (edgeLose s).clk.asyn = s.clk.asyn
      ∧ (edgeLose s).pwr.asleep = s.pwr.asleep ∧ (edgeLose s).pwr.entry = s.pwr.entry := by
  unfold edgeLose
  extract_lets _ s₁ _ s₂
  have opened : asynView s₁ = asynView { s with clk.edge := false } := asynView_of_backbone (backbone_raise 156 0 _)
  clear_value s₁
  have quiet : asynView (drvQuietAll s₂) = asynView s₁ := (asynView_of_backbone (backbone_drvQuietAll s₂)).trans rfl
  obtain ⟨asyn, -, edge, -, -, -, asleep, entry⟩ := asynView_fields (quiet.trans opened)
  exact ⟨edge, asyn, asleep, entry⟩

/-- The line locks again: held outputs restart, the ports that waited for it go on (R98). -/
theorem edgeLock_closes (s : State) :
    let t := drvQuietOver (outsRestart (raise 155 0 { s with clk.edge := true }))
    t.clk.edge = true ∧ t.clk.asyn = s.clk.asyn ∧ t.pwr.asleep = s.pwr.asleep ∧ t.pwr.entry = s.pwr.entry := by
  intro t
  have view : asynView t = asynView { s with clk.edge := true } :=
    (asynView_of_backbone (backbone_drvQuietOver _)).trans
      ((asynView_outsRestart _).trans (asynView_of_backbone (backbone_raise 155 0 _)))
  obtain ⟨asyn, -, edge, -, -, -, asleep, entry⟩ := asynView_fields view
  exact ⟨edge, asyn, asleep, entry⟩

/-- The output that was changed. -/
theorem outOf_onOut {k : Nat} (h : k < 4) (f : ClkOut → ClkOut) (s : State) : outOf (onOut k f s) k = f (outOf s k) :=
  vget_vupd _ _ h

/-- Another output. -/
theorem outOf_onOut_ne {j k : Nat} (h : j ≠ k) (f : ClkOut → ClkOut) (s : State) :
    outOf (onOut k f s) j = outOf s j :=
  vget_vupd_ne _ _ h

/-- Outputs stand with the clocks. -/
theorem outOf_of_clk {t s : State} (h : t.clk = s.clk) (k : Nat) : outOf t k = outOf s k := by
  rw [outOf, h, outOf]

/-- A field just written (R4). -/
theorem page_get_put {n start len : Nat} (p : BitVec n) (v : Nat) (fits : start + len ≤ n) :
    Page.get (Page.put p start len v) start len = v % 2 ^ len := by
  refine Nat.eq_of_testBit_eq fun j => ?_
  simp only [Page.get, Page.put, bitsAt, BitVec.toNat_ofNat, Nat.testBit_mod_two_pow, Nat.testBit_shiftRight,
    testBit_putBits]
  by_cases inside : j < len
  · have field : start ≤ start + j ∧ start + j < start + len := by omega
    have within : start + j < n := by omega
    simp [inside, field, within]
  · simp [inside]

/-- A disable has taken effect: the ball is low, E158 (R102). -/
theorem outStopped_off {k : Nat} {s : State} (hk : k < 4) (awake : Awake s) (noStart : (outOf s k).start = none)
    (noWord : (outOf s k).word = none) :
    (outOf (outStopped k s) k).on = false ∧ (outOf (outStopped k s) k).stopping = false ∧ Raised 158 (outStopped k s)
      ∧ (∀ j < 4, j ≠ k → outOf (outStopped k s) j = outOf s j)
      ∧ (outStopped k s).pwr.asleep = s.pwr.asleep ∧ (outStopped k s).pwr.entry = s.pwr.entry := by
  have eq : outStopped k s = raise 158 (k * 256) (onOut k (fun o => { o with
      on := false, stopping := false, held := false, due := (outTick s).1 }) s) := by
    simp [outStopped, noStart, noWord]
  rw [eq]
  have same (j : Nat) := outOf_of_clk (raise_clk 158 (k * 256) (onOut k (fun o => { o with
      on := false, stopping := false, held := false, due := (outTick s).1 }) s)) j
  refine ⟨?_, ?_, raised_raise awake (by decide), ?_, raise_asleep .., raise_entry ..⟩
  · rw [same, outOf_onOut hk]
  · rw [same, outOf_onOut hk]
  · intro j _ other
    rw [same, outOf_onOut_ne other]

theorem outStarted_eq (k w : Nat) (s : State) : ∃ f : ClkOut → ClkOut,
    outStarted k w s
        = completeAll (outOf s k).cids .ok (raise 158 (k * 256 + 1) (outPut k w (onOut k f s)))
      ∧ ∀ o, (f o).on = true ∧ (f o).start = none ∧ (f o).cids = [] :=
  ⟨_, rfl, fun _ => ⟨rfl, rfl, rfl⟩⟩

/-- An enable has taken effect: the output runs with its word, the commands that waited are done, E158 (R101, R102). -/
theorem outStarted_runs {k w : Nat} {s : State} (hk : k < 4) (awake : Awake s) :
    (outOf (outStarted k w s) k).on = true ∧ (outOf (outStarted k w s) k).start = none
      ∧ (outOf (outStarted k w s) k).cids = []
      ∧ Page.get (outStarted k w s).clk.page (64 + 32 * k) 32 = w % 2 ^ 32 ∧ Raised 158 (outStarted k w s)
      ∧ (outStarted k w s).pwr.asleep = s.pwr.asleep ∧ (outStarted k w s).pwr.entry = s.pwr.entry := by
  obtain ⟨f, eq, runs⟩ := outStarted_eq k w s
  have kept : backbone (outStarted k w s) = backbone (outPut k w (onOut k f s)) := by
    rw [eq, backbone_completeAll, backbone_raise]
  have clk : (outStarted k w s).clk = (outPut k w (onOut k f s)).clk := congrArg Backbone.clk kept
  have out : outOf (outStarted k w s) k = f (outOf s k) := (outOf_of_clk clk k).trans (outOf_onOut hk f s)
  obtain ⟨on, start, cids⟩ := runs (outOf s k)
  have told : Raised 158 (raise 158 (k * 256 + 1) (outPut k w (onOut k f s))) := raised_raise awake (by decide)
  rw [out, clk]
  refine ⟨on, start, cids, page_get_put _ _ (by omega), ?_, congrArg Backbone.asleep kept, congrArg Backbone.entry kept⟩
  rw [eq]
  exact raised_completeAll told

section
variable {s : State} (runs : Runs s)
include runs

theorem csynLockLost_searches (locked : s.clk.csyn = .locked) (noChange : s.pwr.change = none) :
    ∃ t, exec .csynLockLost s = .next t ∧ t.clk.csyn = .search ∧ t.clk.csynLost = true ∧ t.clk.csynAttempts = 0
      ∧ t.clk.csynLevel = s.pwr.level ∧ Raised 145 t
      ∧ (t.pwr.held.any (fun g => g.work == .relockCsyn && g.prio == 7)) = true := by
  obtain ⟨csyn, lost, attempts, level, told, held, asleep, entry⟩ := csynLose_searches (runs_awake runs) noChange
  refine ⟨csynLose s, ?_, csyn, lost, attempts, level, told, held⟩
  show execCsynLockLost s = _
  rw [execCsynLockLost, if_pos (by simp [runs_ctrl runs, locked]),
    wakeEvent_awake (asleep.trans runs.awake) (entry.trans runs.entry)]

theorem csynLocked_locks {band : Fin 64} (search : s.clk.csyn = .search) (noChange : s.pwr.change = none)
    (noWait : s.clk.waitCsyn = false) :
    ∃ t, exec (.csynLocked band) s = .next t ∧ t.clk.csyn = .locked ∧ t.clk.csynBand = band ∧ t.clk.csynAttempts = 0
      ∧ Raised 147 t ∧ (hallOf t 1).clk = .normal ∧ (hallOf t 2).clk = .normal ∧ t.time = s.time := by
  obtain ⟨csyn, found, attempts, told, ctrl, dsp, time, asleep, entry⟩ :=
    csynLock_locks (band := band) (runs_awake runs) noChange noWait
  refine ⟨csynLock band s, ?_, csyn, found, attempts, told, ctrl, dsp, time⟩
  show execCsynLocked band s = _
  rw [execCsynLocked, if_pos (by simp [runs_ctrl runs, search]),
    wakeEvent_awake (asleep.trans runs.awake) (entry.trans runs.entry)]

theorem csynLockAttemptFail_counts (search : s.clk.csyn = .search) (notFell : s.clk.csynFell = false)
    (fewer : s.clk.csynAttempts + 1 < 3) :
    exec .csynLockAttemptFail s = .next { s with clk.csynAttempts := s.clk.csynAttempts + 1 } := by
  show execCsynLockAttemptFail s = _
  rw [execCsynLockAttemptFail, if_pos (by simp [search, runs_ctrl runs]), csynMiss, if_neg (by simp [notFell]),
    if_pos fewer]

theorem edgeLineLost_opens (locked : s.clk.asyn = .locked) (edge : s.clk.edge = true) :
    ∃ t, exec .edgeLineLost s = .next t ∧ t.clk.edge = false ∧ t.clk.asyn = .locked := by
  obtain ⟨opened, asyn, asleep, entry⟩ := edgeLose_opens s
  refine ⟨edgeLose s, ?_, opened, asyn.trans locked⟩
  show execEdgeLineLost s = _
  rw [execEdgeLineLost, if_pos (by simp [asynRuns, locked, edge, runs_ctrl runs]),
    wakeEvent_awake (asleep.trans runs.awake) (entry.trans runs.entry)]

theorem edgeLineLocked_closes (locked : s.clk.asyn = .locked) (edge : s.clk.edge = false) :
    ∃ t, exec .edgeLineLocked s = .next t ∧ t.clk.edge = true ∧ t.clk.asyn = .locked := by
  obtain ⟨closes, asyn, asleep, entry⟩ := edgeLock_closes s
  refine ⟨_, ?_, closes, asyn.trans locked⟩
  show execEdgeLineLocked s = _
  rw [execEdgeLineLocked, if_pos (by simp [asynRuns, locked, edge, runs_ctrl runs]),
    wakeEvent_awake (asleep.trans runs.awake) (entry.trans runs.entry)]

theorem clkoutState_stops {k : Fin 4} (stopping : (outOf s k.val).stopping = true)
    (noStart : (outOf s k.val).start = none) (noWord : (outOf s k.val).word = none) :
    ∃ t, exec (.clkoutState k) s = .next t ∧ (outOf t k.val).on = false ∧ (outOf t k.val).stopping = false
      ∧ Raised 158 t ∧ ∀ j < 4, j ≠ k.val → outOf t j = outOf s j := by
  obtain ⟨on, stopped, told, others, asleep, entry⟩ := outStopped_off k.isLt (runs_awake runs) noStart noWord
  refine ⟨outStopped k.val s, ?_, on, stopped, told, others⟩
  show execClkoutState k s = _
  rw [execClkoutState, if_neg (by simp [runs_ctrl runs]), if_pos stopping,
    wakeEvent_awake (asleep.trans runs.awake) (entry.trans runs.entry)]

theorem clkoutState_starts {k : Fin 4} {w : Nat} (start : (outOf s k.val).start = some w)
    (notStopping : (outOf s k.val).stopping = false) (due : (outOf s k.val).due ≤ s.time.now)
    (locked : s.clk.asyn = .locked) (edge : s.clk.edge = true) :
    ∃ t, exec (.clkoutState k) s = .next t ∧ (outOf t k.val).on = true ∧ (outOf t k.val).start = none
      ∧ (outOf t k.val).cids = [] ∧ Page.get t.clk.page (64 + 32 * k.val) 32 = w % 2 ^ 32 ∧ Raised 158 t := by
  obtain ⟨on, started, cids, page, told, asleep, entry⟩ := outStarted_runs (w := w) k.isLt (runs_awake runs)
  refine ⟨outStarted k.val w s, ?_, on, started, cids, page, told⟩
  have row : exec (.clkoutState k) s = .next (wakeEvent 158 (outStarted k.val w s)) := by
    show execClkoutState k s = _
    simp [execClkoutState, runs_ctrl runs, notStopping, start, asynRuns, locked, edge, closed_of_le due]
  rw [row, wakeEvent_awake (asleep.trans runs.awake) (entry.trans runs.entry)]

end

/-- Settles O22: each row is the operation its rule names, with the states of the loop, the line and the output read off
it. -/
theorem csynLoop : Obligations.CsynLoop := fun _ runs =>
  ⟨csynLockLost_searches runs,
    fun _ search noChange noWait _ => csynLocked_locks runs search noChange noWait,
    csynLockAttemptFail_counts runs, edgeLineLost_opens runs, edgeLineLocked_closes runs,
    fun _ _ stopping noStart noWord => clkoutState_stops runs stopping noStart noWord,
    fun _ _ _ start notStopping due locked edge => clkoutState_starts runs start notStopping due locked edge⟩

/-! ### Commands of the mailbox: what stays as it was (R50, R391) -/

theorem mailFrame_refl (q : Req) (s : State) : MailFrame q s s := ⟨rfl, fun _ _ => rfl⟩

theorem mailFrame_started (code : Nat) (q : Req) (s : State) : MailFrame q (started code q s) s := by
  refine ⟨?_, fun m other => portOf_started_ne code other s⟩
  rw [started_eq]

/-- What stands on the page of the master that asked is free. -/
theorem mailFrame_onPort {q : Req} {t s : State} (h : MailFrame q t s) (f : Port → Port) :
    MailFrame q (onPort q.m f t) s := by
  obtain ⟨eq, pages⟩ := h
  refine ⟨?_, fun m other => (portOf_onPort_ne other f t).trans (pages m other)⟩
  rw [onPort, eq]

/-- The same change of the clocks on both sides. -/
theorem mailFrame_setClk {q : Req} {t s : State} (h : MailFrame q t s) (c : Clk) :
    MailFrame q { t with clk := c } { s with clk := c } := by
  obtain ⟨eq, pages⟩ := h
  refine ⟨?_, pages⟩
  rw [eq]

@[simp] theorem started_clk (code : Nat) (q : Req) (s : State) : (started code q s).clk = s.clk := by
  rw [started_eq]

@[simp] theorem started_fab (code : Nat) (q : Req) (s : State) : (started code q s).fab = s.fab := by
  rw [started_eq]

/-- The slot of the master is free when the body runs. -/
theorem started_slot (code : Nat) {q : Req} {s : State} (h : (portOf s q.m).rspReady = false) :
    (portOf (started code q s) q.m).rspReady = false := by
  rw [portOf_started]
  exact h

/-- Whether a response stands on a page is told by the backbone. -/
theorem rspReady_of_backbone {t s : State} (h : (backbone t).rspReady = (backbone s).rspReady) (m : Fin 4) :
    (portOf t m).rspReady = (portOf s m).rspReady := by
  have page (u : State) : (portOf u m).rspReady = (backbone u).rspReady[m.val] := by
    show _ = (u.ports.map (·.rspReady))[m.val]
    simp [portOf, get_eq_getElem]
  rw [page, page, h]

section
variable {f : Facts} {body : Nat → Req → State → State × Answer} {q : Req} {s t u : State} {st : Status} {p : List Byte}
  (serves : CanServe q s) (passes : firstFailure f q s = none) (acts : f.report = false)
  (does : body s.own.nextCid q (started f.code q s) = (t, ans st p))
include serves passes acts does

/-- A command that ends with a final status: its answer, and what its body changed. -/
theorem serve_final_replies (final : st ≠ .pending) (slot : (portOf t q.m).rspReady = false) (frame : MailFrame q t u) :
    MailFrame q (serve f body q s) u ∧ Replied f.code q st p (serve f body q s) := by
  rw [serve_final serves passes acts does final]
  have left : (portOf (unpend s.own.nextCid q t) q.m).rspReady = false := by
    rw [unpend, portOf_onPort]
    exact slot
  exact ⟨mailFrame_onPort (mailFrame_onPort frame _) _, replied_respond left⟩

/-- A command that becomes PENDING: its answer, in the state its body left. -/
theorem serve_pending_answers (pending : st = .pending) (slot : (portOf t q.m).rspReady = false) :
    serve f body q s = answered f.code q .pending p t := by
  subst pending
  rw [serve_pending serves passes acts does rfl]
  exact respond_free slot

end

theorem replied_answered (code : Nat) (q : Req) (st : Status) (p : List Byte) (t : State) :
    Replied code q st p (answered code q st p t) := by
  rw [Replied, answered, portOf_onPort]
  exact ⟨rfl, rfl, rfl⟩

/-- An answer leaves the list of PENDING commands as it was. -/
theorem stands_answered {code c : Nat} {q : Req} {st : Status} {p : List Byte} {t s : State}
    (pend : (portOf t q.m).pend = (portOf (started code q s) q.m).pend) : Stands code q (answered c q st p t) s := by
  have written (r : Resp) (p : Port) : (writeRsp r p).pend = p.pend := by rw [writeRsp]
  rw [Stands, answered, portOf_onPort, written, pend, portOf_started]

/-! ### What the commands of the clocks ask for (R93, R101, R102, R216) -/

theorem asynRuns_of_locked {s : State} (locked : s.clk.asyn = .locked) : asynRuns s = true := by
  simp [asynRuns, locked]

/-- A selection of the reference in use changes nothing (R93). -/
theorem clkSelect_inUse {step : Bool} {cid : Nat} {s : State} (locked : s.clk.asyn = .locked) (quiet : famBusy s = false)
    (crystal : s.clk.xtalFailed = false) (based : s.clk.rebased = none) :
    clkSelect s.clk.ref step cid none s = (s, .ok) := by
  rw [clkSelect, if_neg (by simp [quiet, crystal]), if_pos (by simp [based, asynRuns_of_locked locked])]

/-- A selection of the crystal, with none waiting: ASYN coasts, and the crystal is the reference (R93). -/
theorem clkSelect_crystal {step : Bool} {cid : Nat} {s : State} (locked : s.clk.asyn = .locked) (quiet : famBusy s = false)
    (crystal : s.clk.xtalFailed = false) (based : s.clk.rebased = none) (other : s.clk.ref ≠ 0)
    (noCommand : s.clk.cid = none) :
    ∃ c : Clk, clkSelect 0 step cid none s = ({ s with clk := c }, .pending) ∧ c.ref = 0 ∧ c.asyn = .coasting
      ∧ c.lost = true ∧ c.cid = some cid := by
  have selects : clkSelect 0 step cid none s = ({ s with
      clk.cid := some cid, clk.newWord := none, clk.jump := 0, clk.alignMs := 0
      clk.page := Page.put s.clk.page 0 32 (putBits (Page.get s.clk.page 0 32) 0 5 0), clk.ref := 0
      clk.asyn := .coasting, clk.lost := true, clk.lostFrom := s.time.now, clk.returning := false
      clk.stepMode := step, clk.stepAt := none }, .pending) := by
    simp [clkSelect, quiet, crystal, based, asynRuns, locked, other, refSeen, clkDone, noCommand, completeP]
  exact ⟨_, selects, rfl, rfl, rfl, rfl⟩

/-- The fields of a CLKOUT word below its enable leave bit 31 to it (Table 4.13). -/
theorem outWordReq_enable {q : Req} (en : q.u8 1 ≤ 1) (div : q.u16 2 ≤ 4096) (coarse : q.u16 4 ≤ 4095)
    (fine : q.u8 6 ≤ 63) : (outWordReq q).testBit 31 = decide (q.u8 1 = 1) := by
  rw [outWordReq, Nat.testBit_eq_decide_div_mod_eq]
  congr 1
  rw [eq_iff_iff]
  omega

/-- A disable of an output that is off writes its word (R102). -/
theorem outAsk_disable {k w cid : Nat} {s : State} (enable : w.testBit 31 = false) (off : (outOf s k).on = false)
    (noStart : (outOf s k).start = none) : outAsk k w cid s = (outPut k w s, .ok) := by
  simp [outAsk, enable, off, noStart]

/-- An enable of an output that is off waits for the base tick (R102). -/
theorem outAsk_enable {k w cid : Nat} {s : State} (enable : w.testBit 31 = true) (off : (outOf s k).on = false)
    (locked : s.clk.asyn = .locked) :
    ∃ f : ClkOut → ClkOut, outAsk k w cid s = (onOut k f s, .pending) ∧ (f (outOf s k)).start = some w
      ∧ (f (outOf s k)).stopping = false := by
  have asked : outAsk k w cid s = (onOut k (fun o => { o with
      stopping := o.on, start := some w, word := some w, due := (outTick s).1, cids := o.cids ++ [cid] }) s,
      .pending) := by
    simp [outAsk, enable, off, asynRuns_of_locked locked]
  exact ⟨_, asked, rfl, off⟩

/-- An Fh of the family in force is asked for while no change runs: nothing to do, or the change begins (R216). -/
theorem fhAsk_family {code cid : Nat} {s : State} (family : code % 2 ≠ b2n (famOf s)) (quiet : famBusy s = false)
    (crystal : s.clk.xtalFailed = false) (noChange : s.fab.fhChange = none) (locked : s.clk.asyn = .locked) :
    fhAsk code cid s = if code = fhCode s then (s, .ok) else (fhStart code (some cid) s, .pending) := by
  simp [fhAsk, family, quiet, crystal, noChange, asynRuns_of_locked locked]

/-- The change of Fh stands at its step 1, and no response has been given (Table 8.8). -/
theorem backbone_fhStart (code : Nat) (cid : Option Nat) (s : State) :
    backbone (fhStart code cid s)
      = { backbone s with fhChange := some { target := code, step := 1, cid := cid } } := by
  unfold fhStart
  simp only [backbone_pauseSet, backbone_anaHold, backbone_drvQuietAll, backbone_sorrelAbort, backbone_lanesKeep]
  rfl

/-! ### The commands of the clocks (Table 4.13, R216) -/

@[simp] theorem started_famBusy (code : Nat) (q : Req) (s : State) : famBusy (started code q s) = famBusy s := by
  simp [famBusy]

@[simp] theorem started_famOf (code : Nat) (q : Req) (s : State) : famOf (started code q s) = famOf s := by
  simp [famOf]

@[simp] theorem started_fhCode (code : Nat) (q : Req) (s : State) : fhCode (started code q s) = fhCode s := by
  simp [fhCode]

@[simp] theorem started_outOf (code : Nat) (q : Req) (s : State) (k : Nat) :
    outOf (started code q s) k = outOf s k := by
  simp [outOf]

/-- The pages stand apart from the clocks. -/
theorem portOf_setClk (m : Fin 4) (c : Clk) (s : State) : portOf { s with clk := c } m = portOf s m := rfl

theorem portOf_outPut (m : Fin 4) (k w : Nat) (s : State) : portOf (outPut k w s) m = portOf s m :=
  portOf_setClk m _ s

theorem mailFrame_outPut {q : Req} {t s : State} {k w : Nat} (h : MailFrame q t s) (clk : t.clk = s.clk) :
    MailFrame q (outPut k w t) (outPut k w s) := by
  rw [outPut, outPut, clk]
  exact mailFrame_setClk h _

theorem mailFrame_onOut {q : Req} {t s : State} {k : Nat} {f : ClkOut → ClkOut} (h : MailFrame q t s)
    (clk : t.clk = s.clk) : MailFrame q (onOut k f t) { s with clk.outs := (onOut k f t).clk.outs } := by
  rw [onOut, clk]
  exact mailFrame_setClk h _

section
variable {q : Req} {s : State} (serves : CanServeOwner q s) (locked : s.clk.asyn = .locked) (quiet : famBusy s = false)
  (crystal : s.clk.xtalFailed = false)
include serves

include locked quiet crystal in
/-- CLK_REF_SELECT of the reference in use: OK, and nothing changes (R93). -/
theorem clkRefSelect_inUse (based : s.clk.rebased = none) (len : q.len = 4) (inUse : q.u8 0 = s.clk.ref)
    (ref : q.u8 0 ≤ 16) (mode : q.u8 1 ≤ 2) (reserved : zeros q 2 2 = true) :
    ∃ t, exec (.clkRefSelect q) s = .next t ∧ MailFrame q t s ∧ Replied 0x0401 q .ok (List.replicate 8 0) t := by
  have selects (step : Bool) (cid : Nat) :
      clkSelect (q.u8 0) step cid none (started 0x0401 q s) = (started 0x0401 q s, .ok) := by
    have same := clkSelect_inUse (step := step) (cid := cid) (s := started 0x0401 q s) (by simp [locked])
      (by simp [quiet]) (by simp [crystal]) (by simp [based])
    rwa [started_clk, ← inUse] at same
  exact ⟨_, rfl, serve_final_replies serves.toCanServe
    (no_failure serves.toCanServe (fun _ => serves.owner) (by simp [lenIs, len]) rfl
      (by simp [within, ref, mode, reserved]))
    rfl (t := started 0x0401 q s) (by simp [selects, rz]) (by decide) (started_slot _ serves.slot)
    (mailFrame_started ..)⟩

include locked quiet crystal in
/-- CLK_REF_SELECT of the crystal in place of another reference: PENDING, and ASYN coasts (R93). -/
theorem clkRefSelect_crystal (based : s.clk.rebased = none) (len : q.len = 4) (zero : q.u8 0 = 0) (other : s.clk.ref ≠ 0)
    (mode : q.u8 1 ≤ 2) (reserved : zeros q 2 2 = true) (noCommand : s.clk.cid = none) :
    ∃ t, exec (.clkRefSelect q) s = .next t ∧ t.clk.ref = 0 ∧ t.clk.asyn = .coasting ∧ t.clk.lost = true
      ∧ t.clk.cid = some s.own.nextCid ∧ Stands 0x0401 q t s ∧ Replied 0x0401 q .pending (List.replicate 8 0) t
      ∧ MailFrame q t { s with clk := t.clk } := by
  obtain ⟨c, selects, crystalRef, coasts, lost, cid⟩ := clkSelect_crystal (s := started 0x0401 q s)
    (step := q.u8 1 == 2 || (q.u8 1 == 0 && Page.bit (started 0x0401 q s).clk.page 15)) (cid := s.own.nextCid)
    (by simp [locked]) (by simp [quiet]) (by simp [crystal]) (by simp [based]) (by simp [other]) (by simp [noCommand])
  refine ⟨answered 0x0401 q .pending (List.replicate 8 0) { started 0x0401 q s with clk := c },
    congrArg Host.Outcome.next (serve_pending_answers serves.toCanServe
      (no_failure serves.toCanServe (fun _ => serves.owner) (by simp [lenIs, len]) rfl
        (by simp [within, zero, mode, reserved]))
      rfl ?does rfl (started_slot _ serves.slot)),
    crystalRef, coasts, lost, cid, stands_answered rfl, replied_answered .., ?frame⟩
  case does =>
    simp only [zero, selects]
    rfl
  case frame => exact mailFrame_onPort (mailFrame_setClk (mailFrame_started 0x0401 q s) c) _

/-- CLK_OUT_SET with EN 0 of an output that is off: OK, and its word is written (R102). -/
theorem clkOutSet_disable {k : Nat} (hk : k < 4) (len : q.len = 8) (out : q.u8 0 = k) (en : q.u8 1 = 0)
    (divLow : 1 ≤ q.u16 2) (div : q.u16 2 ≤ 4096) (coarse : q.u16 4 ≤ 4095) (fine : q.u8 6 ≤ 63)
    (reserved : zeros q 7 1 = true) (off : (outOf s k).on = false) (noStart : (outOf s k).start = none) :
    ∃ t, exec (.clkOutSet q) s = .next t ∧ Replied 0x0402 q .ok [] t ∧ MailFrame q t { s with
      clk.page := Page.put s.clk.page (64 + 32 * k) 32 ((q.u16 2 - 1) * 2 ^ 18 + q.u16 4 * 2 ^ 6 + q.u8 6) } := by
  have word : outWordReq q = (q.u16 2 - 1) * 2 ^ 18 + q.u16 4 * 2 ^ 6 + q.u8 6 := by simp [outWordReq, en]
  have enable : (outWordReq q).testBit 31 = false := by
    simp [outWordReq_enable (by omega) div coarse fine, en]
  have asked (cid : Nat) : outAsk k (outWordReq q) cid (started 0x0402 q s)
      = (outPut k (outWordReq q) (started 0x0402 q s), .ok) :=
    outAsk_disable enable (by simp [off]) (by simp [noStart])
  rw [← word]
  refine ⟨_, rfl, And.symm (serve_final_replies (t := outPut k (outWordReq q) (started 0x0402 q s)) serves.toCanServe
    (no_failure serves.toCanServe (fun _ => serves.owner) (by simp [lenIs, len]) rfl ?fields)
    rfl ?does (by decide) ?slot (mailFrame_outPut (mailFrame_started ..) (by simp)))⟩
  case fields =>
    simp [within, out, en, divLow, div, coarse, fine, reserved]
    omega
  case does => simp [out, asked]
  case slot =>
    rw [portOf_outPut]
    exact started_slot 0x0402 serves.slot

include locked in
/-- CLK_OUT_SET with EN 1 of an output that is off: PENDING, and the output waits for its base tick (R102). -/
theorem clkOutSet_enable {k : Nat} (hk : k < 4) (len : q.len = 8) (out : q.u8 0 = k) (en : q.u8 1 = 1)
    (divLow : 1 ≤ q.u16 2) (div : q.u16 2 ≤ 4096) (coarse : q.u16 4 ≤ 4095) (fine : q.u8 6 ≤ 63)
    (reserved : zeros q 7 1 = true) (off : (outOf s k).on = false) :
    ∃ t, exec (.clkOutSet q) s = .next t ∧ Replied 0x0402 q .pending [] t ∧ Stands 0x0402 q t s
      ∧ MailFrame q t { s with clk.outs := t.clk.outs }
      ∧ (outOf t k).start = some (2 ^ 31 + (q.u16 2 - 1) * 2 ^ 18 + q.u16 4 * 2 ^ 6 + q.u8 6)
      ∧ (outOf t k).stopping = false ∧ ∀ j < 4, j ≠ k → outOf t j = outOf s j := by
  have word : outWordReq q = 2 ^ 31 + (q.u16 2 - 1) * 2 ^ 18 + q.u16 4 * 2 ^ 6 + q.u8 6 := by simp [outWordReq, en]
  have enable : (outWordReq q).testBit 31 = true := by
    simp [outWordReq_enable (by omega) div coarse fine, en]
  obtain ⟨f, asked, start, stopping⟩ := outAsk_enable (k := k) (cid := s.own.nextCid) (s := started 0x0402 q s) enable
    (by simp [off]) (by simp [locked])
  have same (j : Nat) : outOf (answered 0x0402 q .pending [] (onOut k f (started 0x0402 q s))) j
      = outOf (onOut k f (started 0x0402 q s)) j := rfl
  rw [← word]
  refine ⟨answered 0x0402 q .pending [] (onOut k f (started 0x0402 q s)),
    congrArg Host.Outcome.next (serve_pending_answers serves.toCanServe
      (no_failure serves.toCanServe (fun _ => serves.owner) (by simp [lenIs, len]) rfl ?fields)
      rfl ?does rfl (started_slot 0x0402 serves.slot)),
    replied_answered .., stands_answered rfl, ?frame, ?start, ?stopping, ?others⟩
  case fields =>
    simp [within, out, en, divLow, div, coarse, fine, reserved]
    omega
  case does => simp [out, asked]
  case frame => exact mailFrame_onPort (mailFrame_onOut (mailFrame_started 0x0402 q s) (by simp)) _
  case start => rw [same, outOf_onOut hk, start]
  case stopping => rw [same, outOf_onOut hk, stopping]
  case others =>
    intro j _ other
    rw [same, outOf_onOut_ne other, started_outOf]

include locked quiet crystal in
/-- ROUTE_DOMAIN_SET of the Fh in force: OK, and nothing changes (R216). -/
theorem routeDomainSet_inForce (len : q.len = 4) (range : q.u8 0 ≤ 3) (reserved : zeros q 1 3 = true)
    (family : q.u8 0 % 2 ≠ b2n (famOf s)) (noChange : s.fab.fhChange = none) (inForce : q.u8 0 = fhCode s) :
    ∃ t, exec (.routeDomainSet q) s = .next t ∧ MailFrame q t s ∧ Replied 0x0A02 q .ok [] t := by
  have asked (cid : Nat) : fhAsk (q.u8 0) cid (started 0x0A02 q s) = (started 0x0A02 q s, .ok) := by
    rw [fhAsk_family (by simpa using family) (by simp [quiet]) (by simp [crystal]) (by simp [noChange])
      (by simp [locked]), if_pos (by simp [inForce])]
  exact ⟨_, rfl, serve_final_replies serves.toCanServe
    (no_failure serves.toCanServe (fun _ => serves.owner) (by simp [lenIs, len]) rfl
      (by simp [within, range, reserved, family]))
    rfl (t := started 0x0A02 q s) (by simp [asked]) (by decide) (started_slot _ serves.slot)
    (mailFrame_started ..)⟩

include locked quiet crystal in
/-- ROUTE_DOMAIN_SET of the other Fh of the family: PENDING, and the change of Fh begins (R216, Table 8.8). -/
theorem routeDomainSet_changes (len : q.len = 4) (range : q.u8 0 ≤ 3) (reserved : zeros q 1 3 = true)
    (family : q.u8 0 % 2 ≠ b2n (famOf s)) (noChange : s.fab.fhChange = none) (other : q.u8 0 ≠ fhCode s) :
    ∃ t, exec (.routeDomainSet q) s = .next t
      ∧ t.fab.fhChange = some { target := q.u8 0, step := 1, cid := some s.own.nextCid }
      ∧ Replied 0x0A02 q .pending [] t := by
  have asked (cid : Nat) := fhAsk_family (code := q.u8 0) (cid := cid) (s := started 0x0A02 q s) (by simpa using family)
    (by simp [quiet]) (by simp [crystal]) (by simp [noChange]) (by simp [locked])
  have begun := backbone_fhStart (q.u8 0) (some s.own.nextCid) (started 0x0A02 q s)
  have slots : (backbone (fhStart (q.u8 0) (some s.own.nextCid) (started 0x0A02 q s))).rspReady
      = (backbone (started 0x0A02 q s)).rspReady := by rw [begun]
  have slot := (rspReady_of_backbone slots q.m).trans (started_slot 0x0A02 serves.slot)
  refine ⟨answered 0x0A02 q .pending [] (fhStart (q.u8 0) (some s.own.nextCid) (started 0x0A02 q s)),
    congrArg Host.Outcome.next (serve_pending_answers serves.toCanServe
      (no_failure serves.toCanServe (fun _ => serves.owner) (by simp [lenIs, len]) rfl
        (by simp [within, range, reserved, family]))
      rfl (by simp [asked, other]) rfl slot),
    ?_, replied_answered ..⟩
  rw [answered, onPort_fab]
  exact congrArg Backbone.fhChange begun

/-- ROUTE_DOMAIN_SET of an Fh of the other family: BAD_PARAM, and nothing changes (R216). -/
theorem routeDomainSet_otherFamily (len : q.len = 4) (family : q.u8 0 % 2 = b2n (famOf s)) :
    ∃ t, exec (.routeDomainSet q) s = .next t ∧ MailFrame q t s ∧ Replied 0x0A02 q .badParam [] t := by
  refine ⟨respond 0x0A02 q { status := .badParam } s, congrArg Host.Outcome.next (serve_fails serves.ready serves.quiet ?_),
    mailFrame_onPort (mailFrame_refl q s) _, replied_respond serves.slot⟩
  simp [firstFailure, len, lenIs, isOwner, serves.owner, family]

end

/-- Settles O20: each form of a command is answered as its operation answers. The 8 zero bytes of CLK_REF_SELECT and OK for a
disable of an output that is off are the model's choices (log entries on CLK_REF_SELECT and "Clock outputs"). -/
theorem clockCommands : Obligations.ClockCommands := by
  intro q s serves locked noFamily noCheck crystal based
  have quiet : famBusy s = false := by simp [famBusy, noFamily, noCheck]
  refine ⟨clkRefSelect_inUse serves locked quiet crystal based, ?crystal, ?disable, ?enable, ?family, ?otherFamily⟩
  case crystal =>
    intro len zero other mode reserved noCommand
    exact clkRefSelect_crystal serves locked quiet crystal based len zero other mode reserved noCommand
  case disable => exact fun k hk => clkOutSet_disable serves hk
  case enable => exact fun k hk => clkOutSet_enable serves locked hk
  case family =>
    intro len range reserved family noChange
    exact ⟨routeDomainSet_inForce serves locked quiet crystal len range reserved family noChange,
      routeDomainSet_changes serves locked quiet crystal len range reserved family noChange⟩
  case otherFamily => exact fun len _ _ family => routeDomainSet_otherFamily serves len family

end Sys2Proof.Proofs
end
